-- ==== Sys2Proof/Word.lean ====
section
/-! DEFINITION. The word types of the CK-16 and their plainest arithmetic. A field whose width the manual gives in
bits or bytes is a bit vector of that width; a quantity the manual computes exactly and then narrows is a `Nat`. -/

namespace Sys2Proof

/-- One byte, as the console port and the station bus carry it (13). -/
abbrev Byte := BitVec 8

/-- A 16-bit field: points, serials, digests (13). -/
abbrev Half := BitVec 16

/-- A 32-bit field: raise times and mill times as carried (13). -/
abbrev Quad := BitVec 32

/-- A badge number, 24 bits. Badge 0 stands for "no badge" (00, Numbers, ranks and priorities). -/
abbrev Badge := BitVec 24

/-- A station number as carried in one byte. Valid numbers are 1 to 16; 0 stands for an absent station (R182). -/
abbrev Station := BitVec 8

/-- A set of areas as the area mask: bit n stands for area n (13). -/
abbrev AreaSet := BitVec 32

/-- A set of stations as the station mask: bit n stands for station n + 1 (13). -/
abbrev StationSet := BitVec 16

/-- Station-seconds, a 32-bit count that wraps (R103). -/
abbrev Sec := BitVec 32

/-- A duration in station-seconds is a difference modulo 2^32 (R103). -/
def elapsed (now since : Sec) : Nat := (now - since).toNat

/-- A saturating increment of a 16-bit count leaves the maximum unchanged (00, Numbers, ranks and priorities). -/
def Half.succSat (x : Half) : Half := if x = 0xFFFF#16 then x else x + 1

/-- A saturating increment of an 8-bit count (R7). -/
def Byte.succSat (x : Byte) : Byte := if x = 0xFF#8 then x else x + 1

end Sys2Proof
end

