-- ==== Sys2Proof/Syntax.lean ====
section
/-! DEFINITION. The commands of the block: `Instr` has one constructor for each row of spec/opcode_table.json, and
the types of their operands, which are the layouts of chapter 13 field by field. -/

namespace Sys2Proof

/-! ### Fields of chapter 13 -/

/-- An alarm id, the pair of area and point, in the widths it is carried in (R1, 13). -/
structure AlarmId where
  area  : Byte
  point : Half
  deriving DecidableEq, Repr

/-- A change entry of an ALARM CHANGE frame (R4, 13.3): kind 01h RAISE, 02h CLEAR. -/
structure ChangeEntry where
  kind      : Byte
  id        : AlarmId
  priority  : Byte
  raiseTime : Quad
  deriving DecidableEq, Repr

/-- An entry of an ACK frame (R25, 13.3). -/
structure AckEntry where
  id         : AlarmId
  occurrence : Byte
  deriving DecidableEq, Repr

/-- The 24-bit summary of one offered area (R116, 13.3). -/
structure OfferSummary where
  flood     : Bool
  unack     : BitVec 9
  escalated : BitVec 9
  shelved   : BitVec 5
  deriving DecidableEq, Repr

/-- An entry of a COMMIT frame (R119, 13.3). -/
structure CommitEntry where
  area   : Byte
  serial : Half
  deriving DecidableEq, Repr

/-- A claim list entry of a PRESENCE frame. Without a badge it stands for the frame's active badge (R152, 13.3). -/
structure ClaimEntry where
  area   : BitVec 5
  serial : Half
  badge  : Option Badge
  deriving DecidableEq, Repr

/-- The four trouble reports (R153). -/
structure Reports where
  listFull      : Bool
  echoFault     : Bool
  lineDisturbed : Bool
  duplicateSeen : Bool
  deriving DecidableEq, Repr

/-- No report set. -/
def Reports.none : Reports := ⟨false, false, false, false⟩

/-- The body of a PRESENCE frame (R151, 13.3). A line's code is 0 GOOD, 1 DISTURBED, 2 SILENT. -/
structure PresenceBody where
  dark         : Bool
  overdue      : Bool
  pictureValid : Bool
  joinMark     : Bool
  lineA        : BitVec 2
  lineB        : BitVec 2
  reports      : Reports
  activeBadge  : Badge
  activeRank   : Byte
  reliefBadge  : Badge
  millTime     : Quad
  digest       : Half
  claims       : List ClaimEntry
  deriving DecidableEq, Repr

/-- The handling of a picture record with the fields its length depends on. `reserved` is handling code 3 (R163,
R183). -/
inductive PictureHandling where
  | unack
  | ack (station : Station) (badge : Badge)
  | shelved (station : Station) (badge : Badge) (remaining : Half)
  | reserved
  deriving DecidableEq, Repr

/-- A picture record as carried in a PICTURE frame (R163, 13.3). -/
structure PictureRecord where
  id         : AlarmId
  priority   : BitVec 3
  cleared    : Bool
  handling   : PictureHandling
  occurrence : Byte
  raiseTime  : Quad
  feed       : Station
  age        : BitVec 24
  deriving DecidableEq, Repr

/-- A frame of one of the fourteen kinds, with its body (13.3). -/
inductive Frame where
  | presence (p : PresenceBody)
  | alarmChange (entries : List ChangeEntry)
  | ack (badge : Badge) (entries : List AckEntry)
  | shelve (id : AlarmId) (minutes : Half) (badge : Badge)
  | unshelve (id : AlarmId)
  | claim (reason : Byte) (area : Byte) (serial : Half) (badge : Badge)
  | take (area : Byte) (serial : Half) (badge : Badge)
  | offer (number : Byte) (target : Station) (badge : Badge) (areas : AreaSet) (summaries : List OfferSummary)
  | answer (origin : Station) (number : Byte) (decision : Byte) (reason : Byte) (badge : Badge)
  | commit (number : Byte) (incoming : Station) (badge : Badge) (entries : List CommitEntry)
  | withdraw (number : Byte) (target : Station)
  | pictureRequest
  | picture (active : StationSet) (index : Byte) (records : List PictureRecord)
  | pictureEnd (active : StationSet) (count : Half)
  deriving DecidableEq, Repr

/-- The area settings of a SET AREA request with configured = yes (13.4). Standby 00h is "none" (R182). -/
structure AreaSettings where
  feed        : Byte
  standby     : Byte
  ackRank     : Byte
  shelveRank  : Byte
  holdRank    : Byte
  takeRank    : Byte
  floodOn     : Half
  floodOff    : Half
  shelveLimit : Byte
  deriving DecidableEq, Repr

/-! ### Events on the bus lines, the port and the pins -/

/-- What one line delivered of a transmission (R132, R141): a good copy, a bad one, or none. -/
inductive Copy where
  | good
  | bad
  | absent
  deriving DecidableEq, Repr

/-- One transmission as the receivers saw it: the sender and sequence of its good copy, and what each line
delivered (R141). With no good copy the sender and sequence mean nothing. -/
structure Rx where
  sender : Station
  seq    : Byte
  copyA  : Copy
  copyB  : Copy
  deriving DecidableEq, Repr

/-- The two lines of the station bus. -/
inductive LineName where
  | a
  | b
  deriving DecidableEq, Repr

/-- The two annunciator outputs. Their cadences run independently (R180). -/
inductive Annunciator where
  | horn
  | lamp
  deriving DecidableEq, Repr

/-- Why a transaction was discarded (R172). -/
inductive DiscardCause where
  /-- The busy rule of R173 applied, or the part had not started (R181). -/
  | busy
  /-- Fewer than two bytes, or fewer than 2 + length bytes, were received. -/
  | short
  /-- The length exceeds 62. -/
  | tooLong
  /-- A byte was cut short by CS_N rising between bit edges. -/
  | cutShort
  deriving DecidableEq, Repr

/-! ### The commands -/

/-- The commands: one constructor for each row of spec/opcode_table.json. A console request carries the fields of
its body (13.4); a bus frame carries the transmission it came in and the fields of its body (13.3). -/
inductive Instr where
  | powerOnReset
  | resetN
  | partStart
  | discardedTransaction (cause : DiscardCause)
  | busyPeriodEnd
  | unknownRequest (code : Byte)
  | nop
  | readStatus
  | readAttention
  | readPeer (station : Byte)
  | readArea (area : Byte)
  | readAlarm (area : Byte) (point : Half)
  | readList (start : Half)
  | readWindow
  | readHandover
  | setTrim (trim : Byte)
  | restart
  | setStation (number : Byte) (gap : Byte)
  | setArea (area : Byte) (configured : Byte) (settings : Option AreaSettings)
  | setShiftPattern (perDay : Byte) (firstStart : Half) (lead : Byte) (grace : Byte)
  | setClock (millTime : Quad)
  | join
  | signOn (badge : Badge) (rank : Byte) (qualified : AreaSet)
  | signOnRelief (badge : Badge) (rank : Byte) (qualified : AreaSet)
  | signOffActive
  /-- SIGN OFF with slot 01h relief; any slot byte but 00h is carried here, so that a bad one is answered. -/
  | signOffRelief (slot : Byte)
  | setActingRank (slot : Byte) (rank : Byte)
  | postRaise (area : Byte) (point : Half) (priority : Byte)
  | postClear (area : Byte) (point : Half)
  | acknowledge (area : Byte) (point : Half) (occurrence : Byte)
  | acknowledgeArea (area : Byte)
  | acknowledgeAtCursor
  | shelve (area : Byte) (point : Half) (minutes : Half)
  | unshelve (area : Byte) (point : Half)
  | silenceHorn
  | placeCursor (row : Byte)
  | scroll (offset : Half)
  | setScope (scope : Byte)
  | setFocus (area : Byte)
  | setEntryMode (direction : Byte) (follow : Byte)
  | claimArea (area : Byte)
  | takeArea (area : Byte)
  | offerHandover (target : Byte) (areas : AreaSet)
  /-- OFFER HANDOVER whose target is this station's own number; the area set is disregarded (R126). -/
  | offerSeatChange (areas : AreaSet)
  | acceptHandover (number : Byte)
  | declineHandover (number : Byte)
  | withdrawOffer
  /-- SCHEDULE OFFER; fire time FFFFFFFFh is "next shift start" (R182). -/
  | scheduleOffer (target : Byte) (areas : AreaSet) (fireTime : Quad)
  | cancelSchedule
  | secondEvent
  | shelfExpiry
  | responseDeadline
  | orphanGraceRunOut (area : Byte)
  | peerLost (station : Byte)
  | consoleDark
  | listenEnd
  | lineRecovery (line : LineName)
  | lineSilent (line : LineName)
  | dueInstant
  | shiftStart
  | overdueInstant
  | scheduleReached
  | scheduledOfferFire
  | offerTimeout
  | decisionWindow
  | commitWait
  | refreshWaitFailure
  | refreshStallFailure
  | pictureRequestRepeat
  | rebadgeClaimBuild
  /-- Slot number `slot`, 1 to 64, has just completed on a bus idle since the gap end (R137). -/
  | accessStart (slot : BitVec 7)
  | echoCheckFailure (line : LineName)
  | attemptEnd
  /-- A good copy with any kind code and any body, as bytes: the general reception (R183). -/
  | malformedFrame (rx : Rx) (kind : Byte) (body : List Byte)
  /-- A transmission carrying this station's own number, which this station did not send (R159). -/
  | duplicateFrame (seq : Byte) (copyA : Copy) (copyB : Copy)
  | presence (rx : Rx) (body : PresenceBody)
  | alarmChange (rx : Rx) (entries : List ChangeEntry)
  | ackFrame (rx : Rx) (badge : Badge) (entries : List AckEntry)
  | shelveFrame (rx : Rx) (id : AlarmId) (minutes : Half) (badge : Badge)
  | unshelveFrame (rx : Rx) (id : AlarmId)
  | claimFrame (rx : Rx) (reason : Byte) (area : Byte) (serial : Half) (badge : Badge)
  | takeFrame (rx : Rx) (area : Byte) (serial : Half) (badge : Badge)
  | offerFrame (rx : Rx) (number : Byte) (target : Station) (badge : Badge) (areas : AreaSet) (summaries : List OfferSummary)
  | answerFrame (rx : Rx) (origin : Station) (number : Byte) (decision : Byte) (reason : Byte) (badge : Badge)
  | commitFrame (rx : Rx) (number : Byte) (incoming : Station) (badge : Badge) (entries : List CommitEntry)
  | withdrawFrame (rx : Rx) (number : Byte) (target : Station)
  | pictureRequest (rx : Rx)
  | picture (rx : Rx) (active : StationSet) (index : Byte) (records : List PictureRecord)
  | pictureEnd (rx : Rx) (active : StationSet) (count : Half)
  | annunciatorHalfSecond (which : Annunciator)
  deriving DecidableEq, Repr

end Sys2Proof
end

