-- ==== Sys2Proof/Machine/State.lean ====
section
/-! DEFINITION. The state of the CK-16, block by block as the manual lists them (00, Block overview), the reasons a
command can stop, and the state after power-on reset. Everything is plain data. -/

namespace Sys2Proof.Machine

/-! ### The station (chapter 10) -/

/-- The five station states (R147). Outside CONFIG the configuration is locked. -/
inductive Mode where
  | config
  | ready
  | joining
  | active
  | mute
  deriving DecidableEq, Repr

/-- The station's own progress and its console's presence (R133, R147 to R153, R158). -/
structure Node where
  mode        : Mode
  /-- Station number, or unset (R133). -/
  number      : Option Station
  /-- Gap setting (R133). -/
  gap         : BitVec 2
  /-- Configuration digest, absent before the first JOIN (R160). -/
  digest      : Option Half
  /-- Listen start, read in JOINING (R148). -/
  listenStart : Sec
  /-- The second at which the station became ACTIVE, read for the join mark (R151). -/
  activeSince : Sec
  /-- Console dark flag (R158). -/
  dark        : Bool
  lastCheckIn : Sec
  /-- List start of the claim list (R152). -/
  listStart   : Nat
  reports     : Reports
  deriving DecidableEq, Repr

/-! ### The picture store and the horn and lamp (chapters 1, 2 and 12) -/

/-- Priority 1 to 4 (R1). -/
inductive Priority where
  | urgent
  | high
  | medium
  | low
  deriving DecidableEq, Repr

/-- Handling with what it carries: acknowledged-by exactly when ACK, a shelf exactly when SHELVED (R1). -/
inductive Handling where
  | unack
  | ack (station : Station) (badge : Badge)
  | shelved (expiry : Sec) (station : Station) (badge : Badge)
  deriving DecidableEq, Repr

/-- The alarm record (R1). `cleared` is condition CLEARED. -/
structure AlarmRecord where
  id         : AlarmId
  priority   : Priority
  cleared    : Bool
  handling   : Handling
  occurrence : Byte
  raiseTime  : Quad
  arrivalSec : Sec
  arrivalSeq : Quad
  escalated  : Bool
  feed       : Station
  deriving DecidableEq, Repr

/-- The horn's patterns (R29). -/
inductive Pattern where
  | steady
  | oneHz
  | halfHz
  deriving DecidableEq, Repr

/-- The horn (R27). While SOUNDING it carries its pattern and the half second of the pattern's cycle it is in. -/
inductive Horn where
  | quiet
  | sounding (pattern : Pattern) (half : Nat)
  | silenced
  deriving DecidableEq, Repr

/-- The lamp (R17). While FLASHING it is in the high or the low half of its cycle (R180). -/
inductive Lamp where
  | off
  | steady
  | flashing (high : Bool)
  deriving DecidableEq, Repr

/-- The picture store (R1, R2, R26) with the horn and lamp it drives. -/
structure Picture where
  list       : List AlarmRecord
  /-- Arrival counter (R2). -/
  arrivals   : Quad
  lastStale  : Option AlarmId
  horn       : Horn
  lamp       : Lamp
  deriving DecidableEq, Repr

/-! ### The acknowledge window (chapter 3) -/

inductive Scope where
  | focus
  | held
  | all
  | shelved
  deriving DecidableEq, Repr

inductive Direction where
  | down
  | up
  deriving DecidableEq, Repr

structure Snapshot where
  id         : AlarmId
  occurrence : Byte
  deriving DecidableEq, Repr

/-- Window state (R40). `focus` none is "none"; `snapshot` none is "empty". -/
structure Window where
  scope     : Scope
  focus     : Option Byte
  top       : Nat
  row       : Nat
  direction : Direction
  follow    : Bool
  snapshot  : Option Snapshot
  changed   : Bool
  deriving DecidableEq, Repr

/-! ### The area table and the load unit (chapters 4 and 6) -/

/-- The configuration of an area, as stored (R84). -/
structure AreaConfig where
  feed        : Station
  standby     : Option Station
  ackRank     : Nat
  shelveRank  : Nat
  holdRank    : Nat
  takeRank    : Nat
  floodOn     : Nat
  floodOff    : Nat
  shelveLimit : Nat
  deriving DecidableEq, Repr

inductive Grace where
  | running
  | runOut
  deriving DecidableEq, Repr

/-- Hold status with the holder it names; orphan since and grace exactly while ORPHANED (R84, R86). -/
inductive Hold where
  | unheld
  | held (station : Station) (badge : Badge)
  | orphaned (station : Station) (badge : Badge) (since : Sec) (grace : Grace)
  deriving DecidableEq, Repr

/-- The area record (R84). `config` none is an unconfigured area; `flood` true is FLOOD (R53). -/
structure Area where
  config : Option AreaConfig
  hold   : Hold
  serial : Half
  load   : Nat
  flood  : Bool
  deriving DecidableEq, Repr

/-! ### The sign-on table (chapter 5) -/

/-- The operator record (R66). -/
structure Operator where
  badge     : Badge
  rank      : Nat
  qualified : AreaSet
  acting    : Option Nat
  since     : Sec
  shift     : Nat
  deriving DecidableEq, Repr

structure SignOn where
  active : Option Operator
  relief : Option Operator
  deriving DecidableEq, Repr

/-! ### The mill clock and shift calendar (chapter 7) -/

/-- The shift pattern (R107); minutes for the last three. -/
structure ShiftPattern where
  perDay     : Nat
  firstStart : Nat
  lead       : Nat
  grace      : Nat
  deriving DecidableEq, Repr

/-- Clock and calendar (R102 to R108). -/
structure Clock where
  millTime      : Nat
  /-- Station-seconds (R103). -/
  now           : Sec
  trim          : Int
  /-- Trim phase, 0 to 15 (R102). -/
  phase         : Nat
  /-- Length in oscillator periods of the second in progress (R102, R106). -/
  secondPeriods : Int
  pattern       : ShiftPattern
  shift         : Nat
  inLead        : Bool
  overdue       : Bool
  deriving DecidableEq, Repr

/-! ### Console results (chapter 12) -/

/-- The result codes (R176, 13.4). -/
inductive ResultCode where
  | ok
  | busy
  | badState
  | badValue
  | notSignedOn
  | notPermitted
  | notFeed
  | queueFull
  | occupied
  | holding
  | badgeInUse
  | notHeld
  | flooded
  | shelfFull
  | noArea
  | emptyRow
  | gone
  | changed
  | notFound
  | peerUnknown
  | handoverBusy
  | notQualified
  | noRelief
  deriving DecidableEq, Repr

/-! ### The handover controller (chapter 8) -/

structure OutOffer where
  number : Byte
  target : Station
  areas  : AreaSet
  start  : Sec
  deriving DecidableEq, Repr

/-- The outgoing offer (R113). -/
inductive Outgoing where
  | idle
  | offered (o : OutOffer)
  | committing (o : OutOffer)
  deriving DecidableEq, Repr

structure InOffer where
  origin    : Station
  number    : Byte
  areas     : AreaSet
  summaries : List OfferSummary
  badge     : Badge
  start     : Sec
  deriving DecidableEq, Repr

/-- The incoming offer (R113); in ANSWERED also the answer second. -/
inductive Incoming where
  | idle
  | presented (o : InOffer)
  | answered (o : InOffer) (answer : Sec)
  deriving DecidableEq, Repr

inductive FireTime where
  | at (millTime : Nat)
  | nextShiftStart
  deriving DecidableEq, Repr

structure SchedOffer where
  target : Station
  areas  : AreaSet
  fire   : FireTime
  deriving DecidableEq, Repr

/-- The scheduled offer (R113, R129). -/
inductive Scheduled where
  | empty
  | armed (o : SchedOffer)
  | waiting (o : SchedOffer)
  deriving DecidableEq, Repr

/-- How an offer ended (R114), with the areas moved or the reason byte carried. -/
inductive OfferEnd where
  | committed (areas : AreaSet)
  | declined (reason : Byte)
  | withdrawn
  | timedOut
  | targetLost
  | areasLost
  | noRoom
  | selfDark
  | autoDeclined (reason : Byte)
  | originLost
  | noCommit
  deriving DecidableEq, Repr

/-- An outcome record (R114). -/
structure OfferOutcome where
  number : Byte
  other  : Station
  result : OfferEnd
  deriving DecidableEq, Repr

/-- The fire result of a scheduled offer (R129). -/
inductive FireResult where
  | made (number : Byte)
  | refused (code : ResultCode)
  deriving DecidableEq, Repr

/-- The handover controller (R113, R114, R127). -/
structure Handover where
  outgoing   : Outgoing
  incoming   : Incoming
  scheduled  : Scheduled
  counter    : Byte
  lastOut    : Option OfferOutcome
  lastIn     : Option OfferOutcome
  fireResult : Option FireResult
  /-- The re-badge list, a set kept in area order (R127). -/
  rebadge    : AreaSet
  /-- The model's own: the scheduled offer came to fire by work of the last second event (R62). -/
  fireBySecond : Bool
  deriving DecidableEq, Repr

/-! ### The bus interface and the transmit scheduler (chapter 9) -/

/-- A line's state; the fault second is present while DISTURBED (R143). -/
inductive LineState where
  | good
  | disturbed (fault : Sec)
  | silent
  deriving DecidableEq, Repr

/-- A line (R143, R144). `heard`: it delivered a good copy since the last second event. `silentDue` (the model's own):
the last second event left its quiet count at 3 and the line is about to go SILENT. -/
structure Line where
  state     : LineState
  quiet     : Nat
  heard     : Bool
  silentDue : Bool
  deriving DecidableEq, Repr

/-- The four classes of the transmit scheduler (R134). -/
inductive TxClass where
  | urgent
  | change
  | presence
  | picture
  deriving DecidableEq, Repr

/-- A frame being sent: its class and the lines this station has stopped driving (R138). -/
structure Sending where
  cls      : TxClass
  stoppedA : Bool
  stoppedB : Bool
  deriving DecidableEq, Repr

/-- The bus interface (R136, R138, R139, R141). -/
structure Bus where
  lineA    : Line
  lineB    : Line
  /-- Sequence counter (R136). -/
  seq      : Byte
  /-- The sequence filter: the last accepted sequence of senders 1 to 16, in that order (R141). -/
  lastSeq  : List (Option Byte)
  /-- Consecutive failed attempts (R139). -/
  fails    : Nat
  sending  : Option Sending
  deriving DecidableEq, Repr

/-- A built frame with the sequence it took at its first attempt, if it has been attempted (R136). -/
structure TxFrame where
  frame : Frame
  seq   : Option Byte
  deriving DecidableEq, Repr

/-- A built presence, with the trouble reports set again since it was built (R153). -/
structure PresenceTx where
  tx    : TxFrame
  again : Reports
  deriving DecidableEq, Repr

/-- The held frame of the picture stream; `current` is no for a frame whose stream has already ended (R164). -/
structure PictureTx where
  tx      : TxFrame
  current : Bool
  deriving DecidableEq, Repr

/-- The transmit scheduler (R13, R134, R135). -/
structure Transmit where
  urgent       : List TxFrame
  change       : List ChangeEntry
  changeFrame  : Option TxFrame
  presence     : Option PresenceTx
  /-- A new presence waiting beside one whose attempt is in progress (R135). -/
  nextPresence : Option PresenceTx
  pictureFrame : Option PictureTx
  deriving DecidableEq, Repr

/-! ### The peer table (chapter 10) -/

inductive PeerState where
  | present
  | lost
  deriving DecidableEq, Repr

inductive LastMark where
  | none
  | no
  | yes
  deriving DecidableEq, Repr

inductive DigestMatch where
  | yes
  | no
  | notCompared
  deriving DecidableEq, Repr

/-- The fields of a peer record that each presence replaces (R154, R156). -/
structure PeerInfo where
  dark         : Bool
  overdue      : Bool
  pictureValid : Bool
  activeBadge  : Badge
  activeRank   : Byte
  reliefBadge  : Badge
  lineA        : BitVec 2
  lineB        : BitVec 2
  claims       : List ClaimEntry
  deriving DecidableEq, Repr

/-- A peer record (R154); `info` is absent before the first presence. -/
structure PeerRecord where
  state       : PeerState
  silence     : Nat
  info        : Option PeerInfo
  mark        : LastMark
  digestMatch : DigestMatch
  millDiff    : Option Int
  trouble     : Option Reports
  deriving DecidableEq, Repr

/-! ### The picture transfer (chapter 11) -/

/-- WAITING or RECEIVING (R161). -/
inductive RefreshPhase where
  | waiting
  | receiving (server : Station) (lastFrame : Sec)
  deriving DecidableEq, Repr

/-- A refresh in progress (R161, R170). `repeatOwed`: the repeat request has found no place in the urgent queue yet. -/
structure Refresh where
  phase      : RefreshPhase
  attempt    : Nat
  wait       : Sec
  repeatOwed : Bool
  taken      : Nat
  deriving DecidableEq, Repr

/-- A pending event waiting for its record (R167). -/
inductive PendingKind where
  | clear
  | ack (occurrence : Byte) (station : Station) (badge : Badge)
  deriving DecidableEq, Repr

structure PendingEvent where
  id   : AlarmId
  kind : PendingKind
  deriving DecidableEq, Repr

/-- The serving stream (R162, R163). -/
structure Stream where
  active   : StationSet
  staged   : StationSet
  ids      : List AlarmId
  position : Nat
  index    : Byte
  sent     : Nat
  deriving DecidableEq, Repr

inductive Serving where
  | idle
  | streaming (s : Stream)
  deriving DecidableEq, Repr

/-- The picture transfer (R161 to R171). `refresh` none is requesting state NONE. -/
structure Transfer where
  valid         : Bool
  refresh       : Option Refresh
  pendingEvents : List PendingEvent
  serving       : Serving
  deriving DecidableEq, Repr

/-! ### Answers (R175, R179, R182) -/

/-- A sign-on slot as READ STATUS returns it (R82). -/
structure SlotReport where
  badge     : Badge
  rank      : Nat
  acting    : Option Nat
  qualified : AreaSet
  age       : Nat
  shift     : Nat
  longWatch : Bool
  deriving DecidableEq, Repr

/-- The station status (R179). -/
structure StatusReport where
  mode           : Mode
  number         : Option Station
  gap            : BitVec 2
  dark           : Bool
  sinceCheckIn   : Nat
  digest         : Option Half
  millTime       : Nat
  now            : Sec
  trim           : Int
  pattern        : ShiftPattern
  shift          : Nat
  inLead         : Bool
  overdue        : Bool
  nextStart      : Nat
  active         : Option SlotReport
  relief         : Option SlotReport
  activeStepRank : Option Nat
  listLength     : Nat
  lastStale      : Option AlarmId
  horn           : Horn
  lamp           : Lamp
  heldSet        : AreaSet
  lastLost       : Option Nat
  urgentFree     : Nat
  changeFree     : Nat
  lineA          : LineState
  quietA         : Nat
  lineB          : LineState
  quietB         : Nat
  fails          : Nat
  pictureValid   : Bool
  refreshPhase   : Option RefreshPhase
  attempt        : Nat
  taken          : Nat
  pendingCount   : Nat
  streaming      : Bool
  activeSize     : Nat
  stagedSize     : Nat
  deriving DecidableEq, Repr

/-- An area record as READ AREA returns it (R100). -/
structure AreaReport where
  config     : Option AreaConfig
  hold       : Hold
  orphanAge  : Option Nat
  serial     : Half
  inFlight   : Option Half
  load       : Nat
  flood      : Bool
  deriving DecidableEq, Repr

/-- The handover state as READ HANDOVER returns it (R130). -/
structure HandoverReport where
  outgoing    : Outgoing
  outgoingAge : Option Nat
  incoming    : Incoming
  remaining   : Option Nat
  floods      : List (Nat × Bool)
  scheduled   : Scheduled
  counter     : Byte
  lastOut     : Option OfferOutcome
  lastIn      : Option OfferOutcome
  fireResult  : Option FireResult
  deriving DecidableEq, Repr

/-- The body of an answer. `bytes` holds a body whose layout 13.4 gives. The manual states the content of the other
bodies and no layout, so they are held as their content. -/
inductive AnswerBody where
  | empty
  | bytes (body : List Byte)
  | places (free : Nat)
  | covered (count : Nat)
  | coveredLeft (count left : Nat)
  | horn (h : Horn)
  | snapshot (s : Option Snapshot)
  | scrolled (top : Nat) (s : Option Snapshot)
  | viewed (length top : Nat) (s : Option Snapshot)
  | serial (n : Half)
  | handoverNumber (n : Byte)
  | rank (n : Nat)
  | signedShift (n : Nat)
  | digest (d : Option Half)
  | clock (millTime shift : Nat)
  | trim (t : Int)
  | pattern (p : ShiftPattern) (shift : Nat)
  | areaConfig (c : Option AreaConfig)
  | status (r : StatusReport)
  | peer (number : Byte) (r : PeerRecord)
  | area (r : AreaReport)
  | handover (r : HandoverReport)
  deriving DecidableEq, Repr

/-- An answer (R175): result code, answer number, code of the request answered, body. -/
structure Answer where
  result  : ResultCode
  number  : Byte
  request : Byte
  body    : AnswerBody
  deriving DecidableEq, Repr

/-- The console port (R173, R175, R177, R181). -/
structure Port where
  /-- The part has started after a power-on reset or RESET_N (R181). -/
  started   : Bool
  /-- A busy period is open (R173). -/
  busy      : Bool
  answer    : Answer
  counter   : Byte
  /-- The 24 attention flags, in the positions of 13.4 (R177). -/
  attention : BitVec 24
  deriving DecidableEq, Repr

/-! ### The work of the current second event -/

/-- The model's own record of which of the last second event's work is still to be done. The manual does not order
the work of different blocks at one second event (R102), and the table gives each of it a row of its own. -/
structure SecondWork where
  shelf      : Bool
  deadline   : Bool
  due        : Bool
  start      : Bool
  overdue    : Bool
  schedule   : Bool
  repeatWork : Bool
  /-- The areas whose flood the last decay ended (R62). -/
  floodEnded : AreaSet
  deriving DecidableEq, Repr

/-! ### The whole machine -/

/-- The state of one CK-16, and the queue of the commands waiting for it. -/
structure State where
  node      : Node
  picture   : Picture
  window    : Window
  /-- The area records of areas 0 to 31, in that order (R84). -/
  areas     : List Area
  lastLost  : Option Nat
  signOn    : SignOn
  clock     : Clock
  handover  : Handover
  bus       : Bus
  tx        : Transmit
  /-- The peer records of stations 1 to 16, in that order (R154). -/
  peers     : List (Option PeerRecord)
  transfer  : Transfer
  port      : Port
  second    : SecondWork
  /-- The model's own: how many free choices of `Config` have been used. -/
  freeCount : Nat
  pending   : List Instr
  deriving DecidableEq, Repr

/-- Why the machine stops. The manual names no condition that stops the CK-16, so there is no constructor, and no
command faults. -/
inductive Fault where
  deriving DecidableEq, Repr

/-- Why a command has no outcome. -/
inductive Refusal where
  /-- Raised by an arm of `exec` for a row without a meaning. No arm raises it: every row has its meaning. Safe. -/
  | notModelled (mnemonic : String)
  deriving DecidableEq, Repr

/-! ### Reset values -/

def Line.initial : Line := { state := .good, quiet := 0, heard := false, silentDue := false }

def Area.initial : Area := { config := none, hold := .unheld, serial := 0, load := 0, flood := false }

def ShiftPattern.initial : ShiftPattern := { perDay := 1, firstStart := 0, lead := 0, grace := 0 }

/-- R20, R39. -/
def Picture.initial : Picture := { list := [], arrivals := 0, lastStale := none, horn := .quiet, lamp := .off }

/-- R52. -/
def Window.initial : Window :=
  { scope := .all, focus := none, top := 0, row := 0, direction := .down, follow := true, snapshot := none,
    changed := false }

/-- R131. -/
def Handover.initial : Handover :=
  { outgoing := .idle, incoming := .idle, scheduled := .empty, counter := 0, lastOut := none, lastIn := none,
    fireResult := none, rebadge := 0, fireBySecond := false }

/-- R146. -/
def Bus.initial : Bus :=
  { lineA := .initial, lineB := .initial, seq := 0, lastSeq := List.replicate 16 none, fails := 0, sending := none }

/-- R146. -/
def Transmit.initial : Transmit :=
  { urgent := [], change := [], changeFrame := none, presence := none, nextPresence := none, pictureFrame := none }

/-- R171. -/
def Transfer.initial : Transfer := { valid := false, refresh := none, pendingEvents := [], serving := .idle }

def SecondWork.none : SecondWork :=
  { shelf := false, deadline := false, due := false, start := false, overdue := false, schedule := false,
    repeatWork := false, floodEnded := 0 }

/-- The empty answer (R175). -/
def Answer.initial : Answer := { result := .ok, number := 0, request := 0, body := .empty }

/-- R112: power-on reset and RESET_N. -/
def Clock.initial : Clock :=
  { millTime := 0, now := 0, trim := 0, phase := 0, secondPeriods := 32768, pattern := .initial, shift := 1,
    inLead := false, overdue := false }

def Node.initial : Node :=
  { mode := .config, number := none, gap := 1, digest := none, listenStart := 0, activeSince := 0, dark := false,
    lastCheckIn := 0, listStart := 0, reports := .none }

/-- The machine right after power-on reset (R181 and each chapter's "State after reset"): CONFIG, configuration
unlocked, every block emptied, and the port inert until PART_START. -/
def State.reset : State :=
  { node := .initial, picture := .initial, window := .initial, areas := List.replicate 32 .initial, lastLost := none,
    signOn := { active := none, relief := none }, clock := .initial, handover := .initial, bus := .initial,
    tx := .initial, peers := List.replicate 16 none, transfer := .initial,
    port := { started := false, busy := false, answer := .initial, counter := 0, attention := 0 },
    second := .none, freeCount := 0, pending := [] }

end Sys2Proof.Machine
end

