-- ==== Sys2Proof/Config.lean ====
section
/-! DEFINITION. What the manual fixes for every CK-16 (capacities and times) and what it leaves open (opaque
constants without a body: nothing can be proved of their values). -/

namespace Sys2Proof.Config

open Sys2Proof.Machine

/-! ### Capacities -/

/-- R3. -/
def listCapacity : Nat := 256
/-- R134. -/
def urgentCapacity : Nat := 8
/-- R13. -/
def changeCapacity : Nat := 32
/-- R167. -/
def pendingCapacity : Nat := 32
/-- R152: the bytes of a presence body left for the claim list. -/
def claimBytes : Nat := 103
/-- R104: the last second of 2099-12-31. -/
def lastMillTime : Nat := 3155759999

/-! ### Times, in station-seconds -/

/-- R97. -/
def orphanGrace : Nat := 10
/-- R122. -/
def offerTimeout : Nat := 120
/-- R122. -/
def decisionWindow : Nat := 110
/-- R122. -/
def commitWait : Nat := 10
/-- R143. -/
def lineRecovery : Nat := 60
/-- R149. -/
def listen : Nat := 3
/-- R158. -/
def darkAfter : Nat := 5
/-- R170. -/
def refreshWait : Nat := 5
/-- R170. -/
def refreshStall : Nat := 3

/-! ### Free values -/

/-- At the second event whose decay ends a flood, other work of that second event finds the area either still in
FLOOD (true) or already NORMAL (false): "Either may happen" (R62, R36). The argument counts the uses. -/
opaque floodStillSeen : Nat → Bool

/-- At the second event that sets the dark flag, the presence built there "carries whichever value the flag held at
its build" (R158): true if the flag is set before the build. The argument counts the uses. -/
opaque darkBeforePresence : Nat → Bool

/-- The two bytes of a shelf's remaining seconds where there are more than two bytes hold: R182 knows 28 800 at most,
and R31 applies a SHELVE frame's duration as carried. -/
opaque longShelf : Nat → Half

/-- The bytes of an answer body whose layout the manual does not give (R182 speaks of "every answer body whose layout
13.4 gives"; the others have none). -/
opaque answerBytes : AnswerBody → List Byte

end Sys2Proof.Config
end

