-- ==== Sys2Proof/Machine/Flags.lean ====
section
/-! DEFINITION. The attention flags (R177), the trouble reports (R153), the status byte (R174) and the output pins. -/

namespace Sys2Proof.Machine

/-- The attention flags, in the order of their positions (R177, 13.4). -/
inductive Flag where
  | handoverDue
  | handoverOverdue
  | offerReceived
  | offerEnded
  | handoverFailed
  | claimLost
  | takeoverNeeded
  | areaTaken
  | floodChange
  | escalation
  | ackStale
  | listFull
  | peerChange
  | peerTrouble
  | lineFault
  | busFault
  | duplicateStation
  | configDiffers
  | timeSkew
  | badgeTwice
  | pictureDone
  | pictureDoubtful
  | feedMismatch
  | scheduleFired
  deriving DecidableEq, Repr

/-- Attention flag positions (13.4). -/
def Flag.bit : Flag → Nat
  | .handoverDue => 0
  | .handoverOverdue => 1
  | .offerReceived => 2
  | .offerEnded => 3
  | .handoverFailed => 4
  | .claimLost => 5
  | .takeoverNeeded => 6
  | .areaTaken => 7
  | .floodChange => 8
  | .escalation => 9
  | .ackStale => 10
  | .listFull => 11
  | .peerChange => 12
  | .peerTrouble => 13
  | .lineFault => 14
  | .busFault => 15
  | .duplicateStation => 16
  | .configDiffers => 17
  | .timeSkew => 18
  | .badgeTwice => 19
  | .pictureDone => 20
  | .pictureDoubtful => 21
  | .feedMismatch => 22
  | .scheduleFired => 23

/-- Whether an attention flag is set. -/
def State.flagSet (s : State) (f : Flag) : Bool := s.port.attention.getLsbD f.bit

/-- Latching a flag sets it; latching a flag that is set leaves it set (R177). -/
def State.latch (s : State) (f : Flag) : State :=
  { s with port := { s.port with attention := s.port.attention ||| BitVec.twoPow 24 f.bit } }

/-- Latch a flag when a condition holds. -/
def State.latchIf (s : State) (c : Bool) (f : Flag) : State := if c then s.latch f else s

/-- The four trouble reports by name (R153). -/
inductive Report where
  | listFull
  | echoFault
  | lineDisturbed
  | duplicateSeen
  deriving DecidableEq, Repr

/-- Setting a report that is already set leaves it set (R153). -/
def setReportIn (r : Report) (x : Reports) : Reports :=
  match r with
  | .listFull => { x with listFull := true }
  | .echoFault => { x with echoFault := true }
  | .lineDisturbed => { x with lineDisturbed := true }
  | .duplicateSeen => { x with duplicateSeen := true }

/-- Set a trouble report, and note on every presence already built that the report was set again after it (R153). -/
def State.setReport (s : State) (r : Report) : State :=
  { s with
    node := { s.node with reports := setReportIn r s.node.reports }
    tx := { s.tx with
      presence := s.tx.presence.map fun p => { p with again := setReportIn r p.again }
      nextPresence := s.tx.nextPresence.map fun p => { p with again := setReportIn r p.again } } }

/-- The reports a completed presence leaves set: those it did not carry, and those set again after it was built
(R153). -/
def reportsAfter (now carried again : Reports) : Reports :=
  { listFull := now.listFull && (!carried.listFull || again.listFull)
    echoFault := now.echoFault && (!carried.echoFault || again.echoFault)
    lineDisturbed := now.lineDisturbed && (!carried.lineDisturbed || again.lineDisturbed)
    duplicateSeen := now.duplicateSeen && (!carried.duplicateSeen || again.duplicateSeen) }

/-- Whether any report is set. -/
def anyReport (r : Reports) : Bool := r.listFull || r.echoFault || r.lineDisturbed || r.duplicateSeen

/-- The station state as the status byte codes it (13.4). -/
def modeCode : Mode → BitVec 3
  | .config => 0
  | .ready => 1
  | .joining => 2
  | .active => 3
  | .mute => 4

/-- A one-bit field. -/
def bit1 (b : Bool) : BitVec 1 := BitVec.ofBool b

/-- The status byte as a transaction beginning now loads it (R174, 13.4). A transaction that begins before the part
starts finds the busy bit set (R181). -/
def State.statusByte (s : State) : Byte :=
  bit1 (s.port.busy || !s.port.started) ++ bit1 (s.port.attention != 0) ++ bit1 s.window.changed ++ bit1 s.node.dark
    ++ (0#1) ++ modeCode s.node.mode

/-- ATTN_N is driven low while at least one flag is set, and released while none is and until the part starts (R177,
R181). -/
def State.attnLow (s : State) : Bool := s.port.started && s.port.attention != 0

/-- The HORN pin (R29, R180, R181): on throughout for URGENT, 0.5 s on and off for HIGH, 1 s on and off otherwise. -/
def State.hornPin (s : State) : Bool :=
  s.port.started &&
    match s.picture.horn with
    | .sounding .steady _ => true
    | .sounding .oneHz half => half % 2 == 0
    | .sounding .halfHz half => half % 4 < 2
    | .quiet => false
    | .silenced => false

/-- The LAMP pin (R180, R181). -/
def State.lampPin (s : State) : Bool :=
  s.port.started &&
    match s.picture.lamp with
    | .off => false
    | .steady => true
    | .flashing high => high

end Sys2Proof.Machine
end

