-- ==== Sys2Proof/Machine/Operands.lean ====
section
/-! DEFINITION. Operand forms: the range tests, codes and clamps the requests and frames use (13, and the rule of each
request), and the calendar arithmetic of chapter 7. -/

namespace Sys2Proof.Machine

/-! ### Ids, priorities, handlings -/

/-- Area 0 to 31. -/
def areaOk (a : Byte) : Bool := a.toNat < 32

/-- Point 0 to 4095. -/
def pointOk (p : Half) : Bool := p.toNat < 4096

/-- An alarm id in range (R1). -/
def idOk (id : AlarmId) : Bool := areaOk id.area && pointOk id.point

/-- Station 1 to 16. -/
def stationOk (t : Station) : Bool := 1 ≤ t.toNat && t.toNat ≤ 16

/-- A priority number, 1 to 4 (R1). -/
def priorityOf (n : Nat) : Option Priority :=
  match n with
  | 1 => some .urgent
  | 2 => some .high
  | 3 => some .medium
  | 4 => some .low
  | _ => none

/-- The number of a priority; a smaller number is more urgent. -/
def Priority.num : Priority → Nat
  | .urgent => 1
  | .high => 2
  | .medium => 3
  | .low => 4

/-- The weight of a raise (R57). -/
def Priority.weight : Priority → Nat
  | .urgent => 1024
  | .high => 512
  | .medium => 256
  | .low => 128

/-- The response deadline in seconds (R35). -/
def Priority.deadline : Priority → Option Nat
  | .urgent => some 60
  | .high => some 300
  | .medium => some 900
  | .low => none

/-- The horn pattern of a priority (R29). -/
def Priority.pattern : Priority → Pattern
  | .urgent => .steady
  | .high => .oneHz
  | .medium => .halfHz
  | .low => .halfHz

def Handling.isUnack : Handling → Bool
  | .unack => true
  | _ => false

def Handling.isAck : Handling → Bool
  | .ack _ _ => true
  | _ => false

def Handling.isShelved : Handling → Bool
  | .shelved _ _ _ => true
  | _ => false

/-! ### Codes of request bodies (13.4) -/

/-- SET SCOPE: 00h FOCUS, 01h HELD, 02h ALL, 03h SHELVED. -/
def scopeOf (b : Byte) : Option Scope :=
  match b.toNat with
  | 0 => some .focus
  | 1 => some .held
  | 2 => some .all
  | 3 => some .shelved
  | _ => none

/-- SET ENTRY MODE: 00h down, 01h up. -/
def directionOf (b : Byte) : Option Direction :=
  match b.toNat with
  | 0 => some .down
  | 1 => some .up
  | _ => none

/-- SET ENTRY MODE: 00h off, 01h on. -/
def followOf (b : Byte) : Option Bool :=
  match b.toNat with
  | 0 => some false
  | 1 => some true
  | _ => none

/-- The area byte FFh stands for an omitted area and for "none" (R182). -/
def omittedArea (b : Byte) : Bool := b == 0xFF#8

/-- Standby 00h is "none" (R182). -/
def standbyOf (b : Byte) : Option Station := if b = 0 then none else some b

/-- The fire time FFFFFFFFh is "next shift start" (R182). -/
def fireTimeOf (t : Quad) : FireTime := if t = 0xFFFFFFFF#32 then .nextShiftStart else .at t.toNat

/-- A fire time in mill time lies in 0..3 155 759 999 (R128). -/
def fireTimeOk : FireTime → Bool
  | .at t => t ≤ Config.lastMillTime
  | .nextShiftStart => true

/-- SET TRIM clamps to −63..+63 (R106). -/
def clampTrim (b : Byte) : Int := max (-63) (min 63 b.toInt)

/-- SHELVE takes a duration of 0 as 1 and one above 480 as 480 (R30). -/
def clampMinutes (d : Half) : Half := if d = 0 then 1 else if d.toNat > 480 then 480 else d

/-- SET SHIFT PATTERN takes a lead or grace above 120 as 120 (R107). -/
def clampLead (b : Byte) : Nat := min 120 b.toNat

/-- A flood-on level below 256 is taken as 256 (R54). -/
def clampFloodOn (on : Nat) : Nat := max 256 on

/-- A flood-off level at or above the clamped flood-on level is taken as the flood-on level − 1 (R54). -/
def clampFloodOff (on off : Nat) : Nat := if clampFloodOn on ≤ off then clampFloodOn on - 1 else off

/-- SET AREA's third check (R85). -/
def settingsValid (c : AreaSettings) : Bool :=
  stationOk c.feed && (c.standby == 0 || stationOk c.standby) && c.ackRank.toNat ≤ 3 && c.shelveRank.toNat ≤ 3
    && c.holdRank.toNat ≤ 3 && c.takeRank.toNat ≤ 3

/-- The configuration as stored: flood levels clamped, a shelve limit above 16 taken as 16 (R54, R85). -/
def storedConfig (c : AreaSettings) : AreaConfig :=
  { feed := c.feed, standby := standbyOf c.standby
    ackRank := c.ackRank.toNat, shelveRank := c.shelveRank.toNat
    holdRank := c.holdRank.toNat, takeRank := c.takeRank.toNat
    floodOn := clampFloodOn c.floodOn.toNat
    floodOff := clampFloodOff c.floodOn.toNat c.floodOff.toNat
    shelveLimit := min 16 c.shelveLimit.toNat }

/-! ### Sets of areas and of stations -/

/-- The areas 0 to 31 that satisfy a test, as a mask. -/
def areaSetOf (p : Nat → Bool) : AreaSet :=
  ((List.range 32).filter p).foldl (fun m a => m ||| BitVec.twoPow 32 a) 0

/-- The areas of a mask in ascending order. -/
def areaList (m : AreaSet) : List Nat := (List.range 32).filter m.getLsbD

/-- A mask without an area. -/
def dropArea (m : AreaSet) (a : Nat) : AreaSet := m &&& ~~~ BitVec.twoPow 32 a

/-- A mask with an area. -/
def addArea (m : AreaSet) (a : Nat) : AreaSet := m ||| BitVec.twoPow 32 a

/-- The bit of a station in a station mask: bit n stands for station n + 1 (13). -/
def stationBit (t : Station) : StationSet := if stationOk t then BitVec.twoPow 16 (t.toNat - 1) else 0

/-- Whether a station mask names a station. -/
def inStations (m : StationSet) (t : Station) : Bool := stationOk t && m.getLsbD (t.toNat - 1)

/-- How many stations a mask names. -/
def stationCount (m : StationSet) : Nat := ((List.range 16).filter m.getLsbD).length

/-! ### Checks in order -/

/-- The first check of a table that holds gives the result code; none if the request passes. Every request's checks
are written as such a table, in the order of its rule. -/
def firstFail : List (Bool × ResultCode) → Option ResultCode
  | [] => none
  | (fails, code) :: rest => if fails then some code else firstFail rest

/-! ### The calendar (chapter 7) -/

/-- Shift length in minutes (R107). -/
def ShiftPattern.length (p : ShiftPattern) : Nat := 1440 / p.perDay

/-- Shift length in seconds. -/
def ShiftPattern.seconds (p : ShiftPattern) : Nat := 60 * p.length

/-- The shift number of a mill time (R108). -/
def ShiftPattern.shiftOf (p : ShiftPattern) (t : Nat) : Nat :=
  if t < 60 * p.firstStart then 0
  else
    let offset := t - 60 * p.firstStart
    offset / 86400 * p.perDay + offset % 86400 / p.seconds + 1

/-- The mill time of the first shift start after a mill time (R108). DEDUCED, unsafe: log entry 18. -/
def ShiftPattern.nextStart (p : ShiftPattern) (t : Nat) : Nat :=
  if t < 60 * p.firstStart then 60 * p.firstStart
  else 60 * p.firstStart + ((t - 60 * p.firstStart) / p.seconds + 1) * p.seconds

/-- The lead state of a mill time (R108): at or after the next shift start less the lead. -/
def ShiftPattern.inLead (p : ShiftPattern) (t : Nat) : Bool := p.nextStart t ≤ t + 60 * p.lead

/-- Whether a mill time is a shift start. -/
def ShiftPattern.isStart (p : ShiftPattern) (t : Nat) : Bool :=
  60 * p.firstStart ≤ t && (t - 60 * p.firstStart) % p.seconds == 0

/-- Whether a mill time is the due instant of a shift start (R109). -/
def ShiftPattern.isDue (p : ShiftPattern) (t : Nat) : Bool := p.isStart (t + 60 * p.lead)

/-- Whether a mill time is the overdue instant of a shift start (R109). -/
def ShiftPattern.isOverdue (p : ShiftPattern) (t : Nat) : Bool :=
  60 * p.grace ≤ t && p.isStart (t - 60 * p.grace)

/-- How many shift starts lie at or before a mill time. -/
def ShiftPattern.starts (p : ShiftPattern) (t : Nat) : Nat :=
  if t < 60 * p.firstStart then 0 else (t - 60 * p.firstStart) / p.seconds + 1

/-- A forward step from `t0` to `t1` crosses a due instant (R111). -/
def ShiftPattern.crossesDue (p : ShiftPattern) (t0 t1 : Nat) : Bool :=
  p.starts (t0 + 60 * p.lead) < p.starts (t1 + 60 * p.lead)

/-- A forward step crosses a shift start (R111). -/
def ShiftPattern.crossesStart (p : ShiftPattern) (t0 t1 : Nat) : Bool := p.starts t0 < p.starts t1

/-- How many overdue instants lie at or before a mill time. -/
def ShiftPattern.overdues (p : ShiftPattern) (t : Nat) : Nat :=
  if t < 60 * p.grace then 0 else p.starts (t - 60 * p.grace)

/-- A forward step crosses an overdue instant (R111). -/
def ShiftPattern.crossesOverdue (p : ShiftPattern) (t0 t1 : Nat) : Bool := p.overdues t0 < p.overdues t1

end Sys2Proof.Machine
end

