-- ==== Sys2Proof/Machine/Ops.lean ====
section
/-! DEFINITION. The named operations over the state that every block shares: reading and writing an area record, the
held set, the permission check, the urgent queue and the claims in flight, the routing of records with the horn and
lamp it drives, the acknowledge window's view, and the console port's answer. -/

namespace Sys2Proof.Machine

/-! ### The station -/

/-- Now, in station-seconds. -/
def State.now (s : State) : Sec := s.clock.now

/-- Now minus a stored second (R103). -/
def State.since (s : State) (t : Sec) : Nat := elapsed s.clock.now t

/-- Whether a station number is this station's own. -/
def State.isOwn (s : State) (t : Station) : Bool := s.node.number == some t

/-- This station's number as frames carry it; 0 while unset. -/
def State.own (s : State) : Station := s.node.number.getD 0

/-- A station in JOINING, ACTIVE or MUTE receives and applies frames (R147). -/
def Mode.receives : Mode → Bool
  | .joining => true
  | .active => true
  | .mute => true
  | .config => false
  | .ready => false

/-- Whether the station is ACTIVE. -/
def State.isActive (s : State) : Bool := s.node.mode == .active

/-! ### The area table -/

/-- The record of an area. An area outside 0..31 reads as unconfigured. -/
def State.area (s : State) (a : Nat) : Area := s.areas.getD a .initial

/-- Replace the record of an area. -/
def State.setArea (s : State) (a : Nat) (r : Area) : State := { s with areas := s.areas.set a r }

/-- An area configured at this station. -/
def State.configured (s : State) (a : Nat) : Bool := (s.area a).config.isSome

/-- An area HELD by this station in its own table (R86). -/
def State.holds (s : State) (a : Nat) : Bool :=
  match (s.area a).hold with
  | .held t _ => s.isOwn t
  | .unheld => false
  | .orphaned _ _ _ _ => false

/-- The held set (R86). -/
def State.heldSet (s : State) : AreaSet := areaSetOf s.holds

/-- Whether any area is held. -/
def State.holdsAny (s : State) : Bool := (List.range 32).any s.holds

/-- The flood state of an area; an unconfigured area is NORMAL (R55). -/
def State.inFlood (s : State) (a : Nat) : Bool := (s.area a).flood

/-- Whether this station is the configured standby station of an area. -/
def State.isStandby (s : State) (a : Nat) : Bool :=
  match (s.area a).config with
  | some c => c.standby.any s.isOwn
  | none => false

/-! ### The sign-on table and the permission check (chapter 5) -/

/-- An active operator is signed on. -/
def State.seated (s : State) : Bool := s.signOn.active.isSome

/-- The badge of the active slot, or badge 0 (R182). -/
def State.activeBadge (s : State) : Badge := (s.signOn.active.map Operator.badge).getD 0

/-- A rank-0 station: its active slot holds a record of badge rank 0 (R74). -/
def State.rankZero (s : State) : Bool := s.signOn.active.any fun o => o.rank == 0

/-- Step 1 of R76: the badge rank, or the acting rank if it is numerically larger. -/
def Operator.stepOne (o : Operator) : Nat :=
  match o.acting with
  | some r => max o.rank r
  | none => o.rank

/-- An area in the record's qualified set. -/
def Operator.qualifiedFor (o : Operator) (a : Nat) : Bool := o.qualified.getLsbD a

/-- The record is on long watch: at or above twice the shift length (R77). -/
def State.longWatch (s : State) (o : Operator) : Bool := 2 * s.clock.pattern.seconds ≤ s.since o.since

/-- The actions that make a permission check with a required rank (R79). Offer and accept use `hold`. -/
inductive Action where
  | acknowledge
  | shelve
  | hold
  | take
  deriving DecidableEq, Repr

/-- The effective rank (R76). -/
def State.effectiveRank (s : State) (o : Operator) (act : Action) (a : Nat) : Nat :=
  let weakened :=
    if !o.qualifiedFor a then o.stepOne + 2
    else if !s.holds a && o.rank != 0 then o.stepOne + 1
    else o.stepOne
  let watched := if (act == .shelve || act == .take) && s.longWatch o then weakened + 1 else weakened
  min 4 watched

/-- The required rank, one stricter for shelving in flood (R78). -/
def State.requiredRank (s : State) (act : Action) (a : Nat) : Nat :=
  match (s.area a).config with
  | none => 0
  | some c =>
    match act with
    | .acknowledge => c.ackRank
    | .shelve => if s.inFlood a then c.shelveRank - 1 else c.shelveRank
    | .hold => c.holdRank
    | .take => c.takeRank

/-- The verdict of the permission check for an operator record (R78). -/
def State.permits (s : State) (o : Operator) (act : Action) (a : Nat) : Bool :=
  s.effectiveRank o act a ≤ s.requiredRank act a && s.effectiveRank o act a < 4

/-- The permission check of the active operator; an empty slot fails it (R80). -/
def State.permitted (s : State) (act : Action) (a : Nat) : Bool :=
  s.signOn.active.any fun o => s.permits o act a

/-- The active operator is qualified for an area (R79). -/
def State.qualified (s : State) (a : Nat) : Bool := s.signOn.active.any fun o => o.qualifiedFor a

/-- The signed-on shift of a new record (R67). -/
def State.signedShift (s : State) : Nat := if s.clock.inLead then s.clock.shift + 1 else s.clock.shift

/-! ### The urgent queue and the claims in flight -/

/-- Free places in the urgent queue (R134). -/
def State.urgentFree (s : State) : Nat := Config.urgentCapacity - s.tx.urgent.length

/-- The urgent queue has a free place. -/
def State.hasRoom (s : State) : Bool := s.tx.urgent.length < Config.urgentCapacity

/-- Put a built frame at the tail of the urgent queue (R134). -/
def State.queue (f : Frame) (s : State) : State :=
  { s with tx := { s.tx with urgent := s.tx.urgent ++ [{ frame := f, seq := none }] } }

/-- Put a frame in the urgent queue if it has a place; it is not built otherwise (R117, R121). -/
def State.queueIfRoom (f : Frame) (s : State) : State := if s.hasRoom then s.queue f else s

/-- The area and serial of a CLAIM or TAKE frame. -/
def claimOfFrame : Frame → Option (Nat × Half)
  | .claim _ area serial _ => some (area.toNat, serial)
  | .take area serial _ => some (area.toNat, serial)
  | _ => none

/-- The serial of this station's claim in flight for an area (R93). A built claim stays in the urgent queue until its
frame completes on the bus. -/
def State.inFlight (s : State) (a : Nat) : Option Half :=
  s.tx.urgent.findSome? fun t =>
    match claimOfFrame t.frame with
    | some (b, serial) => if b == a then some serial else none
    | none => none

/-- A CLAIM or TAKE frame built by this station is in the urgent queue or being sent (R71). -/
def State.claimsQueued (s : State) : Bool := s.tx.urgent.any fun t => (claimOfFrame t.frame).isSome

/-- The serial the next claim for an area carries: the record's plus one, saturating (R91, R119, R127). -/
def State.nextSerial (s : State) (a : Nat) : Half := (s.area a).serial.succSat

/-! ### Routing, horn and lamp (R14 to R17, R27, R29) -/

/-- A record routed to this station (R14). -/
def State.routed (s : State) (r : AlarmRecord) : Bool :=
  let a := r.id.area.toNat
  let target := s.isStandby a || s.rankZero
  match (s.area a).hold with
  | .held t _ => s.isOwn t || (r.escalated && target)
  | .unheld => target
  | .orphaned _ _ _ _ => target

/-- The routed UNACK set (R14). -/
def State.routedUnack (s : State) : List AlarmRecord :=
  s.picture.list.filter fun r => r.handling.isUnack && s.routed r

/-- The routed ACK set (R14). -/
def State.routedAck (s : State) : List AlarmRecord :=
  s.picture.list.filter fun r => r.handling.isAck && s.routed r

/-- The highest priority of a list of records: the smallest priority number. -/
def highest : List AlarmRecord → Option Priority
  | [] => none
  | r :: rest =>
    match highest rest with
    | some p => if r.priority.num ≤ p.num then some r.priority else some p
    | none => some r.priority

/-- The horn after a re-evaluation that found this highest routed UNACK priority (R15, R27, R29): a quiet demand if
the set is empty; a pattern that changes starts at the beginning of its on phase. -/
def Horn.reevaluate (h : Horn) (top : Option Priority) : Horn :=
  match top with
  | none => .quiet
  | some p =>
    match h with
    | .sounding q half => if q = p.pattern then .sounding q half else .sounding p.pattern 0
    | .quiet => .quiet
    | .silenced => .silenced

/-- The horn after a sound demand (R27, R29). -/
def Horn.sound (h : Horn) (top : Option Priority) : Horn :=
  match top with
  | none => h
  | some p =>
    match h with
    | .sounding q half => .sounding q half
    | .quiet => .sounding p.pattern 0
    | .silenced => .sounding p.pattern 0

/-- The lamp after a re-evaluation (R17, R180). -/
def Lamp.reevaluate (l : Lamp) (unack ack : Bool) : Lamp :=
  if unack then
    match l with
    | .flashing high => .flashing high
    | .off => .flashing true
    | .steady => .flashing true
  else if ack then .steady
  else .off

/-- Re-evaluate the routed sets: set the lamp, and hand the horn a quiet demand or the highest priority (R15). -/
def State.reroute (s : State) : State :=
  { s with picture := { s.picture with
      horn := s.picture.horn.reevaluate (highest s.routedUnack)
      lamp := s.picture.lamp.reevaluate (!s.routedUnack.isEmpty) (s.routedAck.any fun r => !r.cleared) } }

/-- A sound demand (R27). -/
def State.sound (s : State) : State :=
  { s with picture := { s.picture with horn := s.picture.horn.sound (highest s.routedUnack) } }

/-- The sound demand of a record that has just become or stayed UNACK, with the flood exception (R16, R33). `flood` is
the flood state consulted. -/
def State.soundFor (s : State) (r : AlarmRecord) (flood : Bool) : State :=
  if s.routed r && r.handling.isUnack && (!flood || r.priority == .urgent) then s.sound else s

/-! ### The acknowledge window's view (R40, R41, R50) -/

/-- The scope admits a record (R40). -/
def State.admits (s : State) (r : AlarmRecord) : Bool :=
  match s.window.scope with
  | .focus => !r.handling.isShelved && s.window.focus == some r.id.area
  | .held => !r.handling.isShelved && s.holds r.id.area.toNat
  | .all => !r.handling.isShelved
  | .shelved => r.handling.isShelved

/-- The scoped list (R40). -/
def State.scoped (s : State) : List AlarmRecord := s.picture.list.filter s.admits

/-- What the window-changed test compares of one row (R50). -/
structure RowKey where
  id       : AlarmId
  handling : Nat
  cleared  : Bool
  deriving DecidableEq, Repr

def Handling.code : Handling → Nat
  | .unack => 0
  | .ack _ _ => 1
  | .shelved _ _ _ => 2

def AlarmRecord.key (r : AlarmRecord) : RowKey := ⟨r.id, r.handling.code, r.cleared⟩

/-- The eight rows of the view (R40). -/
def State.rows (s : State) : List (Option AlarmRecord) := (List.range 8).map fun i => s.scoped[s.window.top + i]?

/-- The view as the window-changed test sees it. -/
def State.view (s : State) : List (Option RowKey) := s.rows.map (Option.map AlarmRecord.key)

/-- A record stands in the view. -/
def State.inView (s : State) (id : AlarmId) : Bool := s.rows.any fun r => r.any fun x => x.id == id

/-- The top position pulled back within the scoped list (R41). -/
def pulledBack (top length : Nat) : Nat := if length ≤ top then length - 1 else top

/-- The last-page clamp (R41, R44 to R46). -/
def lastPage (top length : Nat) : Nat := min top (length - 8)

/-- R41. -/
def State.adjustTop (s : State) : State :=
  { s with window := { s.window with top := pulledBack s.window.top s.scoped.length } }

/-- Set the window-changed indicator if the view differs from an earlier one (R50). -/
def State.noteView (before : List (Option RowKey)) (s : State) : State :=
  { s with window := { s.window with changed := s.window.changed || s.view != before } }

/-- A change of the scoped list's contents. It starts the window-changed test, and the top adjustment that follows it
starts the test again (R41, R50). -/
def State.throughWindow (f : State → State) (s : State) : State :=
  let s1 := (f s).noteView s.view
  s1.adjustTop.noteView s1.view

/-- Put an alarm list in place and hand the change on (R10). -/
def State.setList (l : List AlarmRecord) (s : State) : State :=
  (State.throughWindow (fun s => { s with picture := { s.picture with list := l } }) s).reroute

/-- Take a snapshot of the scoped list at top + cursor row (R42). -/
def State.snapshotHere (s : State) : Option Snapshot :=
  (s.scoped[s.window.top + s.window.row]?).map fun r => ⟨r.id, r.occurrence⟩

/-- R42. -/
def State.takeSnapshot (s : State) : State := { s with window := { s.window with snapshot := s.snapshotHere } }

/-! ### The console port (R158, R173, R175) -/

/-- What a request's rule gives: the state after it, the result code and the answer body. -/
structure Reply where
  state  : State
  result : ResultCode
  body   : AnswerBody

/-- Answered OK with a body. -/
def Reply.ok (s : State) (b : AnswerBody := .empty) : Reply := ⟨s, .ok, b⟩

/-- A refused request changes no state, and its answer body is empty (R176). -/
def Reply.refuse (s : State) (c : ResultCode) : Reply := ⟨s, c, .empty⟩

/-- A request that runs its table of checks and then, if all pass, its effect. -/
def checked (checks : List (Bool × ResultCode)) (effect : State → Reply) (s : State) : Reply :=
  match firstFail checks with
  | some c => .refuse s c
  | none => effect s

/-- The port accepts a transaction's request: the part has started and no busy period is open (R173, R181). -/
def State.portOpen (s : State) : Bool := s.port.started && !s.port.busy

/-- A check-in sets the last check-in second to now and clears the dark flag (R158). -/
def State.checkIn (s : State) : State := { s with node := { s.node with lastCheckIn := s.now, dark := false } }

/-- The answer of an accepted request becomes the pending answer under the next number, and a busy period opens (R173,
R175). -/
def State.answer (code : Byte) (result : ResultCode) (body : AnswerBody) (s : State) : State :=
  { s with port := { s.port with
      busy := true
      counter := s.port.counter + 1
      answer := { result := result, number := s.port.counter + 1, request := code, body := body } } }

/-- A console request: discarded while the port is busy or the part has not started; otherwise a check-in, handled by
its rule, and answered (R172, R173, R175). DEDUCED, safe: log entry 7. -/
def request (code : Byte) (rule : State → Reply) (s : State) : State :=
  if s.portOpen then
    let r := rule s.checkIn
    r.state.answer code r.result r.body
  else s

end Sys2Proof.Machine
end

