-- ==== Sys2Proof/Machine/Picture.lean ====
section
/-! DEFINITION. The picture store and the load unit: the order, insertion and removal of records, the application of
ALARM CHANGE, ACK, SHELVE and UNSHELVE frames, shelf expiry and escalation, and the load figures (chapters 1, 2, 4). -/

namespace Sys2Proof.Machine

/-! ### Order and lookup (R2) -/

/-- Arrival sequence `a` is earlier than `b`, compared as serial numbers (R2). -/
def earlierSeq (a b : Quad) : Bool := 1 ≤ (b - a).toNat && (b - a).toNat < 2 ^ 31

/-- The list order: priority, then arrival second, then arrival sequence (R2). Arrival seconds are compared as plain
numbers, across the wrap of station-seconds too. DEDUCED, unsafe: log entry 35. -/
def AlarmRecord.before (x y : AlarmRecord) : Bool :=
  if x.priority.num != y.priority.num then x.priority.num < y.priority.num
  else if x.arrivalSec != y.arrivalSec then x.arrivalSec.toNat < y.arrivalSec.toNat
  else earlierSeq x.arrivalSeq y.arrivalSeq

/-- Place a record at its position: ahead of the first record it comes before (R2). -/
def place (r : AlarmRecord) : List AlarmRecord → List AlarmRecord
  | [] => [r]
  | x :: rest => if r.before x then r :: x :: rest else x :: place r rest

/-- The record with an alarm id. -/
def findRecord (id : AlarmId) (l : List AlarmRecord) : Option AlarmRecord := l.find? fun r => r.id == id

/-- The list without an alarm id. -/
def dropRecord (id : AlarmId) (l : List AlarmRecord) : List AlarmRecord := l.filter fun r => r.id != id

/-- The position of an alarm id: the number of records before it (R2). -/
def positionOf (id : AlarmId) (l : List AlarmRecord) : Nat := (l.takeWhile fun r => r.id != id).length

/-- Change the record with an alarm id where it stands. -/
def changeRecord (id : AlarmId) (f : AlarmRecord → AlarmRecord) (l : List AlarmRecord) : List AlarmRecord :=
  l.map fun r => if r.id == id then f r else r

/-- Change the record with an alarm id and move it to its new position (R2). -/
def moveRecord (r : AlarmRecord) (l : List AlarmRecord) : List AlarmRecord := place r (dropRecord r.id l)

/-- The SHELVED records of an area, leaving out one id (R30). -/
def shelvedCount (area : Byte) (leaveOut : AlarmId) (l : List AlarmRecord) : Nat :=
  (l.filter fun r => r.id.area == area && r.handling.isShelved && r.id != leaveOut).length

/-- The configured shelve limit of an area. -/
def State.shelveLimit (s : State) (area : Byte) : Nat :=
  match (s.area area.toNat).config with
  | some c => c.shelveLimit
  | none => 0

/-! ### Capacity and eviction (R3) -/

/-- The ACK record that makes room: of the ACK records the largest priority number, and of those the earliest in list
order (R3). -/
def evictee : List AlarmRecord → Option AlarmRecord
  | [] => none
  | r :: rest =>
    match evictee rest with
    | none => if r.handling.isAck then some r else none
    | some e => if r.handling.isAck && e.priority.num ≤ r.priority.num then some r else some e

/-- Latch LIST_FULL and set its trouble report (R3). -/
def State.listFull (s : State) : State := (s.latch .listFull).setReport .listFull

/-- Take an arrival sequence (R2). -/
def State.takeArrival (s : State) : State := { s with picture := { s.picture with arrivals := s.picture.arrivals + 1 } }

/-- Insert a record with a new alarm id under the next arrival sequence; `none` if there is no room (R3). -/
def State.insert (r : AlarmRecord) (s : State) : Option State :=
  let stored := { r with arrivalSeq := s.picture.arrivals }
  if s.picture.list.length < Config.listCapacity then
    some (s.takeArrival.setList (place stored s.picture.list))
  else
    match evictee s.picture.list with
    | none => none
    | some e =>
      let room := s.takeArrival.setList (dropRecord e.id s.picture.list)
      some (room.setList (place stored room.picture.list))

/-! ### The load unit (chapter 4) -/

/-- The flood test (R59). An unconfigured area keeps NORMAL (R55). -/
def Area.floodTest (r : Area) : Area :=
  match r.config with
  | none => r
  | some c => { r with flood := if r.flood then !decide (r.load ≤ c.floodOff) else decide (c.floodOn ≤ r.load) }

/-- A raise adds its weight, saturating at 65535, and the flood test follows (R57). -/
def Area.addLoad (p : Priority) (r : Area) : Area := Area.floodTest { r with load := min 65535 (r.load + p.weight) }

/-- The decay of one second event, rounded up, and the flood test (R58). -/
def Area.decay (r : Area) : Area := Area.floodTest { r with load := r.load - (r.load + 63) / 64 }

/-- The raise addition in an area; a flood transition latches FLOOD_CHANGE (R57, R59). -/
def State.addLoad (p : Priority) (a : Nat) (s : State) : State :=
  (s.setArea a ((s.area a).addLoad p)).latchIf (((s.area a).addLoad p).flood != (s.area a).flood) .floodChange

/-- The decay of every area (R58, R59). -/
def State.decayAll (s : State) : State :=
  let s1 : State :=
    { s with
      areas := s.areas.map Area.decay
      second := { s.second with floodEnded := areaSetOf fun a => (s.area a).flood && !((s.area a).decay).flood } }
  s1.latchIf (s.areas.any fun r => r.decay.flood != r.flood) .floodChange

/-! ### Pending events (R167) -/

/-- A refresh is in progress (R161). -/
def State.refreshing (s : State) : Bool := s.transfer.refresh.isSome

/-- An event joins the pending-events list; a 33rd pushes out the oldest (R167). -/
def State.addPending (e : PendingEvent) (s : State) : State :=
  if s.transfer.pendingEvents.length < Config.pendingCapacity then
    { s with transfer := { s.transfer with pendingEvents := s.transfer.pendingEvents ++ [e] } }
  else
    ({ s with transfer := { s.transfer with pendingEvents := s.transfer.pendingEvents.tail ++ [e] } }).latch
      .pictureDoubtful

/-- Discard every pending entry for an id (R167). -/
def State.dropPending (id : AlarmId) (s : State) : State :=
  { s with transfer := { s.transfer with pendingEvents := s.transfer.pendingEvents.filter fun e => e.id != id } }

/-! ### Raises and clears (R4 to R8) -/

/-- The record of a new raise (R6), before it takes its arrival sequence. -/
def newRecord (now : Sec) (sender : Station) (id : AlarmId) (p : Priority) (raiseTime : Quad) : AlarmRecord :=
  { id := id, priority := p, cleared := false, handling := .unack, occurrence := 1, raiseTime := raiseTime,
    arrivalSec := now, arrivalSeq := 0, escalated := false, feed := sender }

/-- The record after a re-raise (R7). -/
def AlarmRecord.reraised (now : Sec) (seq : Quad) (sender : Station) (p : Priority) (raiseTime : Quad)
    (r : AlarmRecord) : AlarmRecord :=
  { r with
    priority := p, cleared := false
    handling := if r.handling.isAck then .unack else r.handling
    occurrence := r.occurrence.succSat
    raiseTime := raiseTime, arrivalSec := now, arrivalSeq := seq, escalated := false, feed := sender }

/-- A raise of an id not in the list, after the load unit has taken it (R6). -/
def State.newRaise (sender : Station) (id : AlarmId) (p : Priority) (raiseTime : Quad) (s : State) : State :=
  let r := newRecord s.now sender id p raiseTime
  match s.insert r with
  | none => s.listFull
  | some s1 => s1.soundFor r (s1.inFlood id.area.toNat)

/-- A raise of a record in the list, after the load unit has taken it (R7). The re-raise shows in the window if the
record stands in the view before or after it (R50). -/
def State.reRaise (sender : Station) (p : Priority) (raiseTime : Quad) (r : AlarmRecord) (s : State) : State :=
  let r1 := r.reraised s.now s.picture.arrivals sender p raiseTime
  let s1 := s.takeArrival.setList (moveRecord r1 s.picture.list)
  let s2 := { s1 with window := { s1.window with changed := s1.window.changed || s.inView r.id || s1.inView r.id } }
  s2.soundFor r1 (s2.inFlood r.id.area.toNat)

/-- A raise entry that passes the feed check and names a priority in 1..4 (R6, R7, R56). -/
def State.raise (sender : Station) (id : AlarmId) (p : Priority) (raiseTime : Quad) (s : State) : State :=
  let s1 := (s.addLoad p id.area.toNat).dropPending id
  match findRecord id s1.picture.list with
  | none => s1.newRaise sender id p raiseTime
  | some r => s1.reRaise sender p raiseTime r

/-- A clear of a record (R8). -/
def State.clearRecord (r : AlarmRecord) (s : State) : State :=
  if r.handling.isAck then s.setList (dropRecord r.id s.picture.list)
  else if r.cleared then s
  else s.setList (changeRecord r.id (fun x => { x with cleared := true }) s.picture.list)

/-- A clear entry that passes the feed check (R8). -/
def State.clear (id : AlarmId) (s : State) : State :=
  match findRecord id s.picture.list with
  | some r => s.clearRecord r
  | none => if s.refreshing then s.addPending ⟨id, .clear⟩ else s

/-- The feed check: the area is configured here and the sender is its feed station (R5).
DEDUCED, unsafe: log entry 13. -/
def State.feedCheck (sender : Station) (id : AlarmId) (s : State) : Bool :=
  match (s.area id.area.toNat).config with
  | some c => c.feed == sender
  | none => false

/-- One change entry (R4, R5). DEDUCED, unsafe: log entry 12. -/
def State.changeEntry (sender : Station) (e : ChangeEntry) (s : State) : State :=
  if s.feedCheck sender e.id then
    if e.kind == 0x01#8 then
      match priorityOf e.priority.toNat with
      | some p => s.raise sender e.id p e.raiseTime
      | none => s
    else if e.kind == 0x02#8 then s.clear e.id
    else s
  else s.latch .feedMismatch

/-- An ALARM CHANGE frame: its entries in frame order, each one whole before the next (R4). -/
def State.applyChanges (sender : Station) (es : List ChangeEntry) (s : State) : State :=
  es.foldl (fun s e => s.changeEntry sender e) s

/-! ### Acknowledgement (R25, R26) -/

/-- A matching ACK entry meets an UNACK record: it becomes ACK, or is removed if CLEARED (R25). -/
def State.acknowledgeRecord (station : Station) (badge : Badge) (r : AlarmRecord) (s : State) : State :=
  if r.cleared then s.setList (dropRecord r.id s.picture.list)
  else
    s.setList (changeRecord r.id (fun x => { x with handling := .ack station badge, escalated := false })
      s.picture.list)

/-- A stale entry at the sending station (R26). -/
def State.stale (id : AlarmId) (s : State) : State :=
  ({ s with picture := { s.picture with lastStale := some id } }).latch .ackStale

/-- One entry of an ACK frame. An entry for an area not configured here is ignored, a refresh in progress or not
(R25). -/
def State.ackEntry (sender : Station) (badge : Badge) (e : AckEntry) (s : State) : State :=
  match findRecord e.id s.picture.list with
  | none =>
    if s.refreshing && s.configured e.id.area.toNat then s.addPending ⟨e.id, .ack e.occurrence sender badge⟩ else s
  | some r =>
    if e.occurrence.toNat < r.occurrence.toNat then (if s.isOwn sender then s.stale e.id else s)
    else if r.occurrence.toNat < e.occurrence.toNat then s
    else if r.handling.isUnack then s.acknowledgeRecord sender badge r
    else s

/-- An ACK frame (R25). -/
def State.applyAcks (sender : Station) (badge : Badge) (es : List AckEntry) (s : State) : State :=
  es.foldl (fun s e => s.ackEntry sender badge e) s

/-! ### Shelving (R31, R33, R34) -/

/-- A SHELVE frame (R31). -/
def State.applyShelve (sender : Station) (id : AlarmId) (minutes : Half) (badge : Badge) (s : State) : State :=
  match findRecord id s.picture.list with
  | none => s
  | some _ =>
    if s.shelveLimit id.area ≤ shelvedCount id.area id s.picture.list then s
    else
      let expiry := s.now + BitVec.ofNat 32 (minutes.toNat * 60)
      s.setList (changeRecord id
        (fun x => { x with handling := .shelved expiry sender badge, escalated := false }) s.picture.list)

/-- A SHELVED record leaves its shelf: removed if CLEARED, otherwise returned to UNACK as a new arrival with a sound
demand or, under the flood exception, the lamp only (R33). `flood` is the flood state it finds. -/
def State.unshelveRecord (flood : Bool) (r : AlarmRecord) (s : State) : State :=
  if r.cleared then s.setList (dropRecord r.id s.picture.list)
  else
    let r1 := { r with handling := .unack, arrivalSec := s.now }
    (s.setList (moveRecord r1 s.picture.list)).soundFor r1 flood

/-- An UNSHELVE frame (R33). -/
def State.applyUnshelve (id : AlarmId) (s : State) : State :=
  match findRecord id s.picture.list with
  | none => s
  | some r => if r.handling.isShelved then s.unshelveRecord (s.inFlood id.area.toNat) r else s

/-- The flood state that work of the last second event finds in an area. Where that event's decay ended the flood the
manual lets it be either, and a free choice decides (R62, R36). DESIGN CHOICE, safe: log entry 4. -/
def State.floodFound (a : Nat) (s : State) : Bool × State :=
  if s.inFlood a then (true, s)
  else if s.second.floodEnded.getLsbD a then
    (Config.floodStillSeen s.freeCount, { s with freeCount := s.freeCount + 1 })
  else (false, s)

/-- A shelf whose expiry is at or before now. The comparison is a difference modulo 2^32 (R34, R103).
DEDUCED, unsafe: log entry 17. -/
def expired (now expiry : Sec) : Bool := elapsed now expiry < 2 ^ 31

/-- End the shelf of one record if it has run out (R34). -/
def State.expireShelf (id : AlarmId) (s : State) : State :=
  match findRecord id s.picture.list with
  | none => s
  | some r =>
    match r.handling with
    | .shelved expiry _ _ =>
      if expired s.now expiry then (s.floodFound id.area.toNat).2.unshelveRecord (s.floodFound id.area.toNat).1 r
      else s
    | .unack => s
    | .ack _ _ => s

/-- Every shelf whose expiry has come, in list order (R34). -/
def State.expireShelves (s : State) : State :=
  (s.picture.list.map AlarmRecord.id).foldl (fun s id => s.expireShelf id) s

/-! ### Escalation (R35 to R37) -/

/-- This station is an escalation target for an area's records (R37). -/
def State.escalationTarget (s : State) (a : Nat) : Bool := s.isStandby a || s.rankZero

/-- A record past its response deadline and not yet escalated (R35). -/
def State.pastDeadline (s : State) (r : AlarmRecord) : Bool :=
  r.handling.isUnack && !r.escalated &&
    match r.priority.deadline with
    | some d => d ≤ s.since r.arrivalSec
    | none => false

/-- Mark a record escalated, with its routing, sound demand and latch (R37). -/
def State.escalate (r : AlarmRecord) (s : State) : State :=
  let l := changeRecord r.id (fun x => { x with escalated := true }) s.picture.list
  let s1 := (({ s with picture := { s.picture with list := l } }) : State).reroute
  let s2 := if s1.routed { r with escalated := true } then s1.sound else s1
  s2.latchIf (s2.escalationTarget r.id.area.toNat) .escalation

/-- The escalation test of one record: while its area is in FLOOD, a MEDIUM or LOW record is passed over (R35, R36). -/
def State.testDeadline (id : AlarmId) (s : State) : State :=
  match findRecord id s.picture.list with
  | none => s
  | some r =>
    if s.pastDeadline r then
      match r.priority with
      | .urgent => s.escalate r
      | .high => s.escalate r
      | .medium =>
        if (s.floodFound id.area.toNat).1 then (s.floodFound id.area.toNat).2
        else (s.floodFound id.area.toNat).2.escalate r
      | .low =>
        if (s.floodFound id.area.toNat).1 then (s.floodFound id.area.toNat).2
        else (s.floodFound id.area.toNat).2.escalate r
    else s

/-- The escalation test over the list (R35). -/
def State.testDeadlines (s : State) : State :=
  (s.picture.list.map AlarmRecord.id).foldl (fun s id => s.testDeadline id) s

end Sys2Proof.Machine
end

