-- ==== Sys2Proof/Machine/Handover.lean ====
section
/-! DEFINITION. The handover controller: making, answering, withdrawing and ending offers, its timers and notices, the
seat change and the scheduled offer (chapter 8), without the COMMIT's claims, which stand in Claims.lean. -/

namespace Sys2Proof.Machine

/-! ### Decline reasons (13.3) -/

def reasonDeclined : Byte := 0x01
def reasonBusy : Byte := 0x02
def reasonNoOperator : Byte := 0x03
def reasonTimedOut : Byte := 0x04

/-- ANSWER frames (R117, R118). -/
def answerDecline (origin : Station) (number reason : Byte) : Frame := .answer origin number 0x02 reason 0
def answerAccept (origin : Station) (number : Byte) (badge : Badge) : Frame := .answer origin number 0x01 0x00 badge

/-! ### Ending offers (R114) -/

/-- The attention flag of an outgoing outcome (R114). -/
def outFlag : OfferEnd → Option Flag
  | .committed _ => some .offerEnded
  | .declined _ => some .offerEnded
  | .withdrawn => none
  | .timedOut => some .handoverFailed
  | .targetLost => some .handoverFailed
  | .areasLost => some .handoverFailed
  | .noRoom => some .handoverFailed
  | .selfDark => some .handoverFailed
  | .autoDeclined _ => some .offerEnded
  | .originLost => some .handoverFailed
  | .noCommit => some .handoverFailed

/-- The attention flag of an incoming outcome of a remote offer (R114). -/
def inFlag : OfferEnd → Option Flag
  | .committed _ => some .offerEnded
  | .declined _ => none
  | .withdrawn => some .offerEnded
  | .timedOut => some .handoverFailed
  | .targetLost => some .handoverFailed
  | .areasLost => some .handoverFailed
  | .noRoom => some .handoverFailed
  | .selfDark => some .handoverFailed
  | .autoDeclined _ => some .offerEnded
  | .originLost => some .handoverFailed
  | .noCommit => some .handoverFailed

/-- The attention flag of a seat change's outcome, latched once (R114). One declined by DECLINE HANDOVER latches none.
DEDUCED, unsafe: log entry 36. -/
def seatFlag : OfferEnd → Option Flag
  | .committed _ => some .offerEnded
  | .declined _ => none
  | .withdrawn => none
  | .timedOut => some .handoverFailed
  | .targetLost => some .handoverFailed
  | .areasLost => some .handoverFailed
  | .noRoom => some .handoverFailed
  | .selfDark => some .handoverFailed
  | .autoDeclined _ => some .offerEnded
  | .originLost => some .handoverFailed
  | .noCommit => some .handoverFailed

/-- Latch a flag if there is one. -/
def State.latchOpt (s : State) : Option Flag → State
  | none => s
  | some f => s.latch f

/-- The outgoing offer ends: IDLE, its outcome recorded, its flag latched (R114). -/
def State.endOut (o : OutOffer) (e : OfferEnd) (s : State) : State :=
  ({ s with handover := { s.handover with
      outgoing := .idle, lastOut := some ⟨o.number, o.target, e⟩ } }).latchOpt (outFlag e)

/-- The incoming offer ends: IDLE, its outcome recorded, its flag latched (R114). -/
def State.endIn (o : InOffer) (e : OfferEnd) (s : State) : State :=
  ({ s with handover := { s.handover with
      incoming := .idle, lastIn := some ⟨o.number, o.origin, e⟩ } }).latchOpt (inFlag e)

/-- A seat change ends: both offers IDLE, the same outcome on both sides, its flag latched once (R114). -/
def State.endSeat (number : Byte) (e : OfferEnd) (s : State) : State :=
  ({ s with handover := { s.handover with
      outgoing := .idle, incoming := .idle
      lastOut := some ⟨number, s.own, e⟩, lastIn := some ⟨number, s.own, e⟩ } }).latchOpt (seatFlag e)

/-- An outgoing offer OFFERED ends without a commit: a WITHDRAW if it is remote and the urgent queue has a place; both
sides if it is a seat change (R121, R122, R123). -/
def State.dropOffer (o : OutOffer) (e : OfferEnd) (s : State) : State :=
  if s.isOwn o.target then s.endSeat o.number e
  else (s.queueIfRoom (.withdraw o.number o.target)).endOut o e

/-! ### Making an offer (R115, R116, R126) -/

/-- The outgoing offer is IDLE. -/
def State.outIdle (s : State) : Bool := s.handover.outgoing == .idle

/-- The incoming offer is IDLE. -/
def State.inIdle (s : State) : Bool := s.handover.incoming == .idle

/-- The peer record of a station, of the 15 other numbers. -/
def State.peer (s : State) (t : Station) : Option PeerRecord :=
  if stationOk t then s.peers.getD (t.toNat - 1) none else none

/-- The last presence of a peer carried the dark flag. -/
def PeerRecord.isDark (r : PeerRecord) : Bool := r.info.any fun i => i.dark

/-- PRESENT and not dark. -/
def State.peerReady (s : State) (t : Station) : Bool :=
  (s.peer t).any fun r => r.state == .present && !r.isDark

/-- An area's summary as this station's list stands (R116). -/
def State.summary (s : State) (a : Nat) : OfferSummary :=
  let mine := s.picture.list.filter fun r => r.id.area.toNat == a
  { flood := s.inFlood a
    unack := BitVec.ofNat 9 (mine.filter fun r => r.handling.isUnack).length
    escalated := BitVec.ofNat 9 (mine.filter fun r => r.handling.isUnack && r.escalated).length
    shelved := BitVec.ofNat 5 (mine.filter fun r => r.handling.isShelved).length }

/-- R115, checks 1 to 4. -/
def State.offerChecks (target : Station) (areas : AreaSet) (s : State) : List (Bool × ResultCode) :=
  [(!s.isActive, .badState),
   (!stationOk target || (!s.isOwn target && areas == 0), .badValue),
   (!s.seated, .notSignedOn),
   (!s.outIdle || (s.isOwn target && !s.inIdle), .handoverBusy)]

/-- R115, checks 5 to 9, of a remote offer; `flooded` is the flood state that the check finds in each area. -/
def State.remoteChecks (flooded : Nat → Bool) (target : Station) (areas : AreaSet) (s : State) :
    List (Bool × ResultCode) :=
  [((areaList areas).any fun a => !s.holds a, .notHeld),
   ((areaList areas).any flooded, .flooded),
   (!s.peerReady target, .peerUnknown),
   ((areaList areas).any fun a => !s.permitted .hold a, .notPermitted),
   (!s.hasRoom, .queueFull)]

/-- R126, the seat change's own checks. -/
def State.seatChecks (flooded : Nat → Bool) (s : State) : List (Bool × ResultCode) :=
  [(s.signOn.relief.isNone, .noRelief),
   ((List.range 32).any fun a => s.holds a && flooded a, .flooded)]

/-- The first check that an offer fails where its checks find these flood states (R115, R126). -/
def State.offerRefusalIn (flooded : Nat → Bool) (target : Station) (areas : AreaSet) (s : State) : Option ResultCode :=
  firstFail (s.offerChecks target areas ++
    (if s.isOwn target then s.seatChecks flooded else s.remoteChecks flooded target areas))

/-- The first check that an OFFER HANDOVER fails (R115, R126). -/
def State.offerRefusal (target : Station) (areas : AreaSet) (s : State) : Option ResultCode :=
  s.offerRefusalIn s.inFlood target areas

/-- The number the next offer takes (R113). -/
def State.nextOffer (s : State) : Byte := s.handover.counter + 1

/-- The scheduled offer is WAITING with the outgoing offer IDLE, so that it fires (R129). -/
def State.dueToFire (s : State) : Bool :=
  s.outIdle && match s.handover.scheduled with
    | .waiting _ => true
    | .empty => false
    | .armed _ => false

/-- Work of a second event. Where the scheduled offer comes to fire by it, the firing is that second event's work too,
and is marked so (R62, R129). -/
def State.bySecond (f : State → State) (s : State) : State :=
  let t := f s
  if t.dueToFire && !s.dueToFire then { t with handover := { t.handover with fireBySecond := true } } else t

/-- A remote offer that has passed its checks: the counter advances, the OFFER is queued, the outgoing offer is OFFERED
(R116). -/
def State.makeRemoteOffer (target : Station) (areas : AreaSet) (s : State) : State :=
  let n := s.nextOffer
  let s1 := s.queue (.offer n target s.activeBadge areas ((areaList areas).map s.summary))
  { s1 with handover := { s1.handover with
      counter := n, outgoing := .offered ⟨n, target, areas, s.now⟩, fireBySecond := false } }

/-- A seat change that has passed its checks: both offers are set and OFFER_RECEIVED is latched (R126). -/
def State.makeSeatOffer (s : State) : State :=
  let n := s.nextOffer
  let held := s.heldSet
  ({ s with handover := { s.handover with
      counter := n
      outgoing := .offered ⟨n, s.own, held, s.now⟩
      incoming := .presented ⟨s.own, n, held, (areaList held).map s.summary, s.activeBadge, s.now⟩
      fireBySecond := false } }).latch
    .offerReceived

/-- An offer that has passed its checks (R116, R126). -/
def State.makeOffer (target : Station) (areas : AreaSet) (s : State) : State :=
  if s.isOwn target then s.makeSeatOffer else s.makeRemoteOffer target areas

/-! ### At the incoming station (R117, R118) -/

/-- An OFFER frame at the station it names as target (R117). -/
def State.applyOffer (sender : Station) (number : Byte) (target : Station) (badge : Badge) (areas : AreaSet)
    (summaries : List OfferSummary) (s : State) : State :=
  if !s.isOwn target || !s.isActive || s.isOwn sender then s
  else if !s.inIdle then s.queueIfRoom (answerDecline sender number reasonBusy)
  else if !s.seated then s.queueIfRoom (answerDecline sender number reasonNoOperator)
  else
    ({ s with handover := { s.handover with
        incoming := .presented ⟨sender, number, areas, summaries, badge, s.now⟩ } }).latch .offerReceived

/-- The presented offer. -/
def State.presented (s : State) : Option InOffer :=
  match s.handover.incoming with
  | .presented o => some o
  | .idle => none
  | .answered _ _ => none

/-! ### At the outgoing station (R119, R121) -/

/-- The entries of a COMMIT for a set of areas: ascending, each at the area's serial plus one (R119). -/
def State.commitEntries (areas : AreaSet) (s : State) : List CommitEntry :=
  (areaList areas).map fun a => ⟨BitVec.ofNat 8 a, s.nextSerial a⟩

/-- An ANSWER ACCEPT that matches the outgoing offer (R119). -/
def State.answerAccepted (sender : Station) (badge : Badge) (o : OutOffer) (s : State) : State :=
  let set := areaSetOf fun a => o.areas.getLsbD a && s.holds a
  if set == 0 then (s.queueIfRoom (.withdraw o.number o.target)).endOut o .areasLost
  else if !s.hasRoom then s.endOut o .noRoom
  else
    let s1 := s.queue (.commit o.number sender badge (s.commitEntries set))
    { s1 with handover := { s1.handover with outgoing := .committing { o with areas := set } } }

/-- An ANSWER frame at the station it names as origin (R119). A decision that is neither 01h nor 02h is ignored
(R183). -/
def State.applyAnswer (sender : Station) (origin : Station) (number decision reason : Byte) (badge : Badge)
    (s : State) : State :=
  match s.handover.outgoing with
  | .offered o =>
    if s.isOwn origin && sender == o.target && number == o.number then
      if decision == 0x01#8 then s.answerAccepted sender badge o
      else if decision == 0x02#8 then s.endOut o (.declined reason)
      else s
    else s
  | .idle => s
  | .committing _ => s

/-- A WITHDRAW frame at the station it names as target (R121). -/
def State.applyWithdraw (sender : Station) (number : Byte) (target : Station) (s : State) : State :=
  match s.handover.incoming with
  | .presented o =>
    if s.isOwn target && o.origin == sender && o.number == number && !s.isOwn sender then s.endIn o .withdrawn else s
  | .answered o _ =>
    if s.isOwn target && o.origin == sender && o.number == number && !s.isOwn sender then s.endIn o .withdrawn else s
  | .idle => s

/-! ### Timers (R122) -/

/-- The offer timeout (R122). DEDUCED, safe: log entry 19. -/
def State.offerTimer (s : State) : State :=
  match s.handover.outgoing with
  | .offered o => if Config.offerTimeout ≤ s.since o.start then s.bySecond (State.dropOffer o .timedOut) else s
  | .idle => s
  | .committing _ => s

/-- The decision window (R122); a seat change ends on both sides. -/
def State.decisionTimer (s : State) : State :=
  match s.handover.incoming with
  | .presented o =>
    if Config.decisionWindow ≤ s.since o.start then
      if s.isOwn o.origin then s.bySecond (State.endSeat o.number (.autoDeclined reasonTimedOut))
      else (s.queueIfRoom (answerDecline o.origin o.number reasonTimedOut)).endIn o (.autoDeclined reasonTimedOut)
    else s
  | .idle => s
  | .answered _ _ => s

/-- The commit wait (R122). -/
def State.commitTimer (s : State) : State :=
  match s.handover.incoming with
  | .answered o answer => if Config.commitWait ≤ s.since answer then s.endIn o .noCommit else s
  | .idle => s
  | .presented _ => s

/-! ### Notices (R123 to R125) -/

/-- A loss or dark notice for a peer: an offer OFFERED to it ends (R123). -/
def State.lossOut (t : Station) (s : State) : State :=
  match s.handover.outgoing with
  | .offered o => if o.target == t then s.dropOffer o .targetLost else s
  | .idle => s
  | .committing _ => s

/-- A loss or dark notice for a peer: an offer PRESENTED or ANSWERED from it ends, and no ANSWER is sent (R123). -/
def State.lossIn (t : Station) (s : State) : State :=
  match s.handover.incoming with
  | .presented o => if o.origin == t then s.endIn o .originLost else s
  | .answered o _ => if o.origin == t then s.endIn o .originLost else s
  | .idle => s

/-- R123. -/
def State.lossNotice (t : Station) (s : State) : State := (s.lossOut t).lossIn t

/-- This station's own dark flag becomes set: the outgoing side (R123). -/
def State.ownDarkOut (s : State) : State :=
  match s.handover.outgoing with
  | .offered o => s.dropOffer o .selfDark
  | .idle => s
  | .committing _ => s

/-- This station's own dark flag becomes set: a PRESENTED remote incoming offer is declined (R123). -/
def State.ownDarkIn (s : State) : State :=
  match s.handover.incoming with
  | .presented o =>
    if s.isOwn o.origin then s
    else (s.queueIfRoom (answerDecline o.origin o.number reasonNoOperator)).endIn o .selfDark
  | .idle => s
  | .answered _ _ => s

/-- The own-dark notice (R123). The outgoing offer ends first, so its WITHDRAW is built ahead of the ANSWER of a PRESENTED
incoming offer. DESIGN CHOICE, unsafe: log entry 41. -/
def State.ownDark (s : State) : State := s.ownDarkOut.ownDarkIn

/-- The area-lost notice removes an area from the outgoing offer and from the re-badge list; a remote offer left
without areas ends (R124, R127). -/
def State.areaLost (a : Nat) (s : State) : State :=
  let s1 : State := { s with handover := { s.handover with rebadge := dropArea s.handover.rebadge a } }
  match s.handover.outgoing with
  | .idle => s1
  | .offered o =>
    let o1 := { o with areas := dropArea o.areas a }
    if o1.areas == 0 && !s.isOwn o.target then s1.dropOffer o1 .areasLost
    else { s1 with handover := { s1.handover with outgoing := .offered o1 } }
  | .committing o =>
    { s1 with handover := { s1.handover with outgoing := .committing { o with areas := dropArea o.areas a } } }

/-- The operator-gone notice: a PRESENTED remote incoming offer is declined (R125). -/
def State.operatorGone (s : State) : State :=
  match s.handover.incoming with
  | .presented o =>
    if s.isOwn o.origin then s
    else (s.queueIfRoom (answerDecline o.origin o.number reasonNoOperator)).endIn o (.autoDeclined reasonNoOperator)
  | .idle => s
  | .answered _ _ => s

/-- The relief-gone notice: a seat change in progress ends (R125). -/
def State.reliefGone (s : State) : State :=
  match s.handover.outgoing with
  | .offered o => if s.isOwn o.target then s.endSeat o.number (.autoDeclined reasonNoOperator) else s
  | .idle => s
  | .committing _ => s

/-! ### The sign-on table's hand-on and the promotion (R72, R74) -/

/-- A change of the active slot: routing is re-evaluated and the overdue flag is cleared (R74). -/
def State.activeChanged (s : State) : State := ({ s with clock := { s.clock with overdue := false } }).reroute

/-- Promotion: the relief record moves into the active slot (R72). -/
def State.promote (s : State) : State :=
  match s.signOn.relief with
  | none => s
  | some o =>
    ({ s with signOn := { active := some { o with shift := max o.shift s.clock.shift }, relief := none } }).activeChanged

/-! ### Re-badge claims (R127) -/

/-- The first area of the re-badge list for which no claim by this station is in flight. -/
def State.rebadgeNext (s : State) : Option Nat :=
  (areaList s.handover.rebadge).find? fun a => (s.inFlight a).isNone

/-- Build one claim from the re-badge list if a place is free (R127). -/
def State.rebadgeOne (s : State) : State :=
  match s.rebadgeNext with
  | none => s
  | some a =>
    if s.hasRoom then
      let s1 := s.queue (.claim 0x01 (BitVec.ofNat 8 a) (s.nextSerial a) s.activeBadge)
      { s1 with handover := { s1.handover with rebadge := dropArea s1.handover.rebadge a } }
    else s

/-- Build claims from the re-badge list while places are free, at most `n` of them. -/
def State.rebadgeMany : Nat → State → State
  | 0, s => s
  | n + 1, s => State.rebadgeMany n s.rebadgeOne

/-- The seat change commits: promotion, both offers IDLE with outcome COMMITTED, the claims of the held areas (R127). -/
def State.commitSeat (number : Byte) (s : State) : State :=
  let held := s.heldSet
  let s1 := s.promote.endSeat number (.committed held)
  State.rebadgeMany Config.urgentCapacity { s1 with handover := { s1.handover with rebadge := held } }

/-! ### The scheduled offer (R128, R129) -/

/-- A start notice reaches an ARMED offer for "next shift start" (R109, R129). -/
def State.startNotice (s : State) : State :=
  match s.handover.scheduled with
  | .armed o =>
    if o.fire == .nextShiftStart then { s with handover := { s.handover with scheduled := .waiting o } } else s
  | .empty => s
  | .waiting _ => s

/-- Mill time is at or after the fire time of an ARMED offer. -/
def State.fireTimeCome (s : State) : Bool :=
  match s.handover.scheduled with
  | .armed o =>
    match o.fire with
    | .at t => t ≤ s.clock.millTime
    | .nextShiftStart => false
  | .empty => false
  | .waiting _ => false

/-- An ARMED offer whose fire time has come goes to WAITING (R129). -/
def State.reachSchedule (s : State) : State :=
  match s.handover.scheduled with
  | .armed o => if s.fireTimeCome then { s with handover := { s.handover with scheduled := .waiting o } } else s
  | .empty => s
  | .waiting _ => s

/-- A WAITING offer has fired: EMPTY, the fire result stored, SCHEDULE_FIRED latched (R129). -/
def State.fired (r : FireResult) (s : State) : State :=
  ({ s with handover := { s.handover with
      scheduled := .empty, fireResult := some r, fireBySecond := false } }).latch .scheduleFired

/-- The areas in which a firing offer's checks may still find the flood that the last second event's decay ended: none,
unless the firing is that second event's work (R62). -/
def State.fireOpen (s : State) : AreaSet := if s.handover.fireBySecond then s.second.floodEnded else 0

/-- The flood state that a firing offer's checks find in each area. In an area that is open it is either, by a free
choice of each area (R62, 4.6). DESIGN CHOICE, safe: log entry 4. -/
def State.floodAtFire (s : State) (a : Nat) : Bool :=
  s.inFlood a || (s.fireOpen.getLsbD a && Config.floodStillSeen (s.freeCount + a))

/-- The free choices that a firing offer's checks had open, one for each area, are used. -/
def State.useFireChoices (s : State) : State :=
  if s.fireOpen = 0 then s else { s with freeCount := s.freeCount + 32 }

/-- A WAITING offer fires if the outgoing offer is IDLE (R129). DESIGN CHOICE, safe: log entry 20. -/
def State.fireSchedule (s : State) : State :=
  match s.handover.scheduled with
  | .waiting o =>
    if s.outIdle then
      if s.node.dark then s.fired (.refused .badState)
      else
        match s.offerRefusalIn s.floodAtFire o.target o.areas with
        | some c => s.useFireChoices.fired (.refused c)
        | none => (s.useFireChoices.makeOffer o.target o.areas).fired (.made s.nextOffer)
    else s
  | .empty => s
  | .armed _ => s

end Sys2Proof.Machine
end

