-- ==== Sys2Proof/Machine/Claims.lean ====
section
/-! DEFINITION. The claim rule and its hand-on, orphaning, the orphan grace and the automatic takeover, and the
application of CLAIM, TAKE and COMMIT frames (chapter 6, R120). -/

namespace Sys2Proof.Machine

/-- A claim: area, serial, holding station, badge (R87). -/
structure Claim where
  area    : Nat
  serial  : Half
  station : Station
  badge   : Badge
  deriving DecidableEq, Repr

/-- The frame a claim came in (R87). TAKEOVER is a CLAIM with reason 02h. -/
inductive ClaimSource where
  | claim
  | takeover
  | take
  | commit
  | presence
  deriving DecidableEq, Repr

/-- The verdict of the claim rule (R88). -/
def claimAccepted (r : Area) (c : Claim) : Bool :=
  if r.serial.toNat < c.serial.toNat then true
  else if c.serial = r.serial then
    match r.hold with
    | .unheld => true
    | .orphaned _ _ _ _ => true
    | .held t0 _ => c.station.toNat ≤ t0.toNat
  else false

/-- The holder station and hold status of a record, which is what routing depends on (R89). -/
def Hold.holderStatus : Hold → Option (Station × Bool)
  | .unheld => none
  | .held t _ => some (t, true)
  | .orphaned t _ _ _ => some (t, false)

/-- Put hold fields in place and hand the change on: routing if the holder station or hold status changed, the window
if the held set changed and its scope is HELD, and the area-lost notice if the area left the held set (R89). -/
def State.setHold (a : Nat) (h : Hold) (serial : Half) (s : State) : State :=
  let put := fun (x : State) => x.setArea a { x.area a with hold := h, serial := serial }
  let moved := s.holds a != (put s).holds a
  let s1 := if moved && s.window.scope == .held then s.throughWindow put else put s
  let s2 := if h.holderStatus != (s.area a).hold.holderStatus then s1.reroute else s1
  if s.holds a && moved then s2.areaLost a else s2

/-- CLAIM_LOST with the last lost area (R89, R90). -/
def State.claimLost (a : Nat) (s : State) : State := ({ s with lastLost := some a }).latch .claimLost

/-- The hold fields an accepted claim gives: HELD, or ORPHANED with its grace RUNNING (R89, R95, R120). -/
def claimHold (now : Sec) (orphan : Bool) (c : Claim) : Hold :=
  if orphan then .orphaned c.station c.badge now .running else .held c.station c.badge

/-- An accepted claim (R89). An area this station loses by it latches CLAIM_LOST, but not by a COMMIT this station sent
itself; an own TAKEOVER claim latches AREA_TAKEN (R99). -/
def State.acceptClaim (src : ClaimSource) (own orphan : Bool) (c : Claim) (s : State) : State :=
  let lost := s.holds c.area && !s.isOwn c.station && !(own && src == .commit)
  let s1 := if lost then s.claimLost c.area else s
  let s2 := s1.setHold c.area (claimHold s.now orphan c) c.serial
  s2.latchIf (own && src == .takeover) .areaTaken

/-- A rejected claim leaves the record; one from a CLAIM or TAKE this station sent latches CLAIM_LOST (R90). -/
def State.rejectClaim (src : ClaimSource) (own : Bool) (c : Claim) (s : State) : State :=
  if own && (src == .claim || src == .takeover || src == .take) then s.claimLost c.area else s

/-- A claim the area table takes up: a configured area, a station 1 to 16 (R87). -/
def State.claimHeard (c : Claim) (s : State) : Bool := s.configured c.area && stationOk c.station

/-- A claim settled by the claim rule (R87 to R90). `own`: this station sent the frame. `orphan`: an accepted claim
leaves the area ORPHANED (R120). -/
def State.applyClaim (src : ClaimSource) (own orphan : Bool) (c : Claim) (s : State) : State :=
  if s.claimHeard c then
    if claimAccepted (s.area c.area) c then s.acceptClaim src own orphan c else s.rejectClaim src own c
  else s

/-! ### Orphaning (R94, R95) -/

/-- Orphan one area if it is HELD by a station (R94). -/
def State.orphanArea (t : Station) (a : Nat) (s : State) : State :=
  match (s.area a).hold with
  | .held t0 b => if t0 == t then s.setHold a (.orphaned t0 b s.now .running) (s.area a).serial else s
  | .unheld => s
  | .orphaned _ _ _ _ => s

/-- Every area HELD by a lost or dark peer becomes ORPHANED (R94). -/
def State.orphanAll (t : Station) (s : State) : State :=
  (List.range 32).foldl (fun s a => s.orphanArea t a) s

/-- A record ORPHANED with a holder station at a serial (R95). -/
def orphanedSame (r : Area) (c : Claim) : Bool :=
  match r.hold with
  | .orphaned t _ _ _ => t == c.station && r.serial == c.serial
  | .unheld => false
  | .held _ _ => false

/-- One claim of a dark presence (R95, step 2). -/
def State.applyDarkClaim (c : Claim) (s : State) : State :=
  if s.claimHeard c && claimAccepted (s.area c.area) c && !orphanedSame (s.area c.area) c then
    s.acceptClaim .presence false true c
  else s

/-- The claims of a presence's claim list, each badge carried or the frame's active badge (R152). -/
def presenceClaims (t : Station) (p : PresenceBody) : List Claim :=
  p.claims.map fun e => ⟨e.area.toNat, e.serial, t, e.badge.getD p.activeBadge⟩

/-- The claim list of a presence, in list order: under R95 from a dark peer, under R88 otherwise (R87). -/
def State.applyClaimList (t : Station) (p : PresenceBody) (s : State) : State :=
  if p.dark && !s.isOwn t then
    (presenceClaims t p).foldl (fun s c => s.applyDarkClaim c) (s.orphanAll t)
  else (presenceClaims t p).foldl (fun s c => s.applyClaim .presence (s.isOwn t) false c) s

/-! ### CLAIM, TAKE and COMMIT frames -/

/-- The reason of a CLAIM: any other than 02h counts as CLAIM (R183). -/
def claimSourceOf (reason : Byte) : ClaimSource := if reason = 0x02 then .takeover else .claim

/-- A COMMIT's claims leave the area ORPHANED at the incoming station when its active slot is empty, and at any other
station whose peer record of it is LOST or dark (R120). -/
def State.commitOrphans (incoming : Station) (s : State) : Bool :=
  if s.isOwn incoming then !s.seated
  else (s.peer incoming).any fun r => r.state == .lost || r.isDark

/-- The claim a COMMIT entry carries (R87). -/
def commitClaim (incoming : Station) (badge : Badge) (e : CommitEntry) : Claim :=
  ⟨e.area.toNat, e.serial, incoming, badge⟩

/-- The entries of a COMMIT in order, gathering the areas whose claims are accepted (R120). -/
def State.applyCommitEntries (own orphan : Bool) (incoming : Station) (badge : Badge) :
    List CommitEntry → AreaSet → State → AreaSet × State
  | [], moved, s => (moved, s)
  | e :: rest, moved, s =>
    let c := commitClaim incoming badge e
    let taken := s.claimHeard c && claimAccepted (s.area c.area) c
    State.applyCommitEntries own orphan incoming badge rest (if taken then addArea moved c.area else moved)
      (s.applyClaim .commit own orphan c)

/-- The end of a COMMIT at its sender: an outgoing offer COMMITTING with its number ends COMMITTED (R120). -/
def State.commitEndOut (number : Byte) (moved : AreaSet) (s : State) : State :=
  match s.handover.outgoing with
  | .committing o => if o.number == number then s.endOut o (.committed moved) else s
  | .idle => s
  | .offered _ => s

/-- The end of a COMMIT at its incoming station: an ANSWERED offer of that origin and number ends COMMITTED; in any
other state the offer stays and the last incoming outcome becomes COMMITTED (R120). -/
def State.commitEndIn (origin : Station) (number : Byte) (held : AreaSet) (s : State) : State :=
  let record : OfferOutcome := ⟨number, origin, .committed held⟩
  match s.handover.incoming with
  | .answered o _ =>
    if o.origin == origin && o.number == number then s.endIn o (.committed held)
    else ({ s with handover := { s.handover with lastIn := some record } }).latch .offerEnded
  | .idle => ({ s with handover := { s.handover with lastIn := some record } }).latch .offerEnded
  | .presented _ => ({ s with handover := { s.handover with lastIn := some record } }).latch .offerEnded

/-- A COMMIT frame (R120). An area whose claim is accepted but left ORPHANED counts among the areas named at the sender; at
the incoming station it does not, in any incoming state. DESIGN CHOICE, unsafe: log entry 50. -/
def State.applyCommit (sender : Station) (number : Byte) (incoming : Station) (badge : Badge)
    (entries : List CommitEntry) (s : State) : State :=
  let own := s.isOwn sender
  let orphan := s.commitOrphans incoming
  let r := s.applyCommitEntries own orphan incoming badge entries 0
  let s1 := if own then r.2.commitEndOut number r.1 else r.2
  if !own && s.isOwn incoming then s1.commitEndIn sender number (if orphan then 0 else r.1) else s1

/-! ### The orphan grace (R97, R98) -/

/-- The grace of an area runs out at this second event (R97). -/
def State.graceOver (a : Nat) (s : State) : Bool :=
  match (s.area a).hold with
  | .orphaned _ _ since .running => Config.orphanGrace ≤ s.since since
  | .orphaned _ _ _ .runOut => false
  | .unheld => false
  | .held _ _ => false

/-- Set the grace of an ORPHANED area to RUN OUT; no other field and no routing changes (R97, R98). -/
def State.setRunOut (a : Nat) (s : State) : State :=
  match (s.area a).hold with
  | .orphaned t b since _ => s.setArea a { s.area a with hold := .orphaned t b since .runOut }
  | .unheld => s
  | .held _ _ => s

/-- The standby station can take the area over: ACTIVE, qualified, permitted, with a free place (R97). -/
def State.canTakeOver (a : Nat) (s : State) : Bool :=
  s.isActive && s.qualified a && s.permitted .take a && s.hasRoom

/-- The standby station's action (R97). -/
def State.takeOver (a : Nat) (s : State) : State :=
  if (s.inFlight a).isSome then s
  else if s.canTakeOver a then s.queue (.claim 0x02 (BitVec.ofNat 8 a) (s.nextSerial a) s.activeBadge)
  else s.latch .takeoverNeeded

/-- The run-out of an area's orphan grace (R97, R98). -/
def State.graceRunOut (a : Nat) (s : State) : State :=
  if s.graceOver a then
    let s1 := s.setRunOut a
    if s.isStandby a then s1.takeOver a else s1.latchIf s.rankZero .takeoverNeeded
  else s

end Sys2Proof.Machine
end

