-- ==== Sys2Proof/Machine/Formats.lean ====
section
/-! DEFINITION. The byte layouts of chapter 13: frame bodies both ways, the frame on a line with its CRC, request
bodies, the answer bodies whose layout 13.4 gives, and the configuration digest. -/

namespace Sys2Proof.Machine

/-! ### Bytes of multi-byte fields, most significant first (13) -/

def bytes2 (x : Half) : List Byte := [x.extractLsb' 8 8, x.extractLsb' 0 8]
def bytes3 (x : BitVec 24) : List Byte := [x.extractLsb' 16 8, x.extractLsb' 8 8, x.extractLsb' 0 8]
def bytes4 (x : Quad) : List Byte :=
  [x.extractLsb' 24 8, x.extractLsb' 16 8, x.extractLsb' 8 8, x.extractLsb' 0 8]
def join2 (a b : Byte) : Half := a ++ b
def join3 (a b c : Byte) : BitVec 24 := a ++ b ++ c
def join4 (a b c d : Byte) : Quad := a ++ b ++ c ++ d

def idBytes (id : AlarmId) : List Byte := id.area :: bytes2 id.point

/-! ### CRC-16 (R132) -/

/-- One bit of the division by 1021h. -/
def crcBit (c : Half) : Half := if c.msb then (c <<< 1) ^^^ 0x1021#16 else c <<< 1

/-- One byte, most significant bit first. -/
def crcByte (c : Half) (b : Byte) : Half :=
  crcBit (crcBit (crcBit (crcBit (crcBit (crcBit (crcBit (crcBit (c ^^^ (b ++ 0#8)))))))))

/-- CRC-16, generator 1021h, start FFFFh, no final inversion (R132). -/
def crc16 (l : List Byte) : Half := l.foldl crcByte 0xFFFF#16

/-! ### Frame kinds (13.3) -/

def frameKind : Frame → Byte
  | .presence _ => 0x01
  | .alarmChange _ => 0x02
  | .ack _ _ => 0x03
  | .shelve _ _ _ => 0x04
  | .unshelve _ => 0x05
  | .claim _ _ _ _ => 0x06
  | .take _ _ _ => 0x07
  | .offer _ _ _ _ _ => 0x08
  | .answer _ _ _ _ _ => 0x09
  | .commit _ _ _ _ => 0x0A
  | .withdraw _ _ => 0x0B
  | .pictureRequest => 0x0C
  | .picture _ _ _ => 0x0D
  | .pictureEnd _ _ => 0x0E

/-! ### Entries, out -/

def changeEntryBytes (e : ChangeEntry) : List Byte := e.kind :: (idBytes e.id ++ e.priority :: bytes4 e.raiseTime)
def ackEntryBytes (e : AckEntry) : List Byte := idBytes e.id ++ [e.occurrence]
def commitEntryBytes (e : CommitEntry) : List Byte := e.area :: bytes2 e.serial

/-- Area byte: bits 4..0 area, bit 7 set when a badge follows (13.3). -/
def claimEntryBytes (e : ClaimEntry) : List Byte :=
  match e.badge with
  | none => (0#3 ++ e.area) :: bytes2 e.serial
  | some b => (0x4#3 ++ e.area) :: (bytes2 e.serial ++ bytes3 b)

/-- Bit 23 flood, 22..14 UNACK, 13..5 escalated, 4..0 SHELVED (13.3). -/
def summaryBytes (x : OfferSummary) : List Byte := bytes3 (bit1 x.flood ++ x.unack ++ x.escalated ++ x.shelved)

/-- Record flags: 2..0 priority, 3 condition, 5..4 handling, 6 escalated (13.3). -/
def flagsByte (priority : BitVec 3) (cleared : Bool) (handling : BitVec 2) (escalated : Bool) : Byte :=
  0#1 ++ bit1 escalated ++ handling ++ bit1 cleared ++ priority

def pictureHandlingCode : PictureHandling → BitVec 2
  | .unack => 0
  | .ack _ _ => 1
  | .shelved _ _ _ => 2
  | .reserved => 3

def pictureHandlingBytes : PictureHandling → List Byte
  | .unack => []
  | .ack t b => t :: bytes3 b
  | .shelved t b r => t :: (bytes3 b ++ bytes2 r)
  | .reserved => []

def pictureRecordBytes (r : PictureRecord) : List Byte :=
  idBytes r.id ++ flagsByte r.priority r.cleared (pictureHandlingCode r.handling) false :: r.occurrence ::
    (bytes4 r.raiseTime ++ r.feed :: (bytes3 r.age ++ pictureHandlingBytes r.handling))

/-- Presence flags: bit 0 dark, 1 overdue, 2 picture valid, 3 join mark (13.3). -/
def presenceFlags (p : PresenceBody) : Byte :=
  0#4 ++ bit1 p.joinMark ++ bit1 p.pictureValid ++ bit1 p.overdue ++ bit1 p.dark

/-- Lines and trouble: bits 1..0 line A, 3..2 line B, 7..4 the reports from bit 4 up (13.3). -/
def presenceLines (p : PresenceBody) : Byte :=
  bit1 p.reports.duplicateSeen ++ bit1 p.reports.lineDisturbed ++ bit1 p.reports.echoFault ++ bit1 p.reports.listFull
    ++ p.lineB ++ p.lineA

/-- A frame's body in the layout of its kind (R182, 13.3). -/
def frameBody : Frame → List Byte
  | .presence p =>
    presenceFlags p :: presenceLines p :: (bytes3 p.activeBadge ++ p.activeRank :: (bytes3 p.reliefBadge ++
      bytes4 p.millTime ++ bytes2 p.digest ++ p.claims.flatMap claimEntryBytes))
  | .alarmChange es => es.flatMap changeEntryBytes
  | .ack b es => bytes3 b ++ es.flatMap ackEntryBytes
  | .shelve id d b => idBytes id ++ bytes2 d ++ bytes3 b
  | .unshelve id => idBytes id
  | .claim r a n b => r :: a :: (bytes2 n ++ bytes3 b)
  | .take a n b => a :: (bytes2 n ++ bytes3 b)
  | .offer n t b m xs => n :: t :: (bytes3 b ++ bytes4 m ++ xs.flatMap summaryBytes)
  | .answer o n d r b => o :: n :: d :: r :: bytes3 b
  | .commit n i b es => n :: i :: (bytes3 b ++ es.flatMap commitEntryBytes)
  | .withdraw n t => [n, t]
  | .pictureRequest => []
  | .picture m i rs => bytes2 m ++ i :: rs.flatMap pictureRecordBytes
  | .pictureEnd m n => bytes2 m ++ bytes2 n

/-! ### The shape of a body (R183) -/

def claimEntrySize (e : ClaimEntry) : Nat := if e.badge.isSome then 6 else 3

/-- The bytes of a claim list (R152). -/
def claimsSize (es : List ClaimEntry) : Nat := (es.map claimEntrySize).sum

/-- How many areas a mask holds. -/
def areaCount (m : AreaSet) : Nat := (areaList m).length

/-- The body fits the layout of its kind: 1 to 8 change or ACK entries, one summary per area of a mask that is not
empty, 1 to 32 COMMIT entries, 1 to 6 picture records, at most 103 bytes of claims (13.3). -/
def frameFits : Frame → Bool
  | .presence p => claimsSize p.claims ≤ Config.claimBytes
  | .alarmChange es => 1 ≤ es.length && es.length ≤ 8
  | .ack _ es => 1 ≤ es.length && es.length ≤ 8
  | .shelve _ _ _ => true
  | .unshelve _ => true
  | .claim _ _ _ _ => true
  | .take _ _ _ => true
  | .offer _ _ _ m xs => m != 0 && xs.length == areaCount m
  | .answer _ _ _ _ _ => true
  | .commit _ _ _ es => 1 ≤ es.length && es.length ≤ 32
  | .withdraw _ _ => true
  | .pictureRequest => true
  | .picture _ _ rs => 1 ≤ rs.length && rs.length ≤ 6
  | .pictureEnd _ _ => true

/-! ### Entries, in. A list that does not divide into whole entries gives none (R183). -/

def readChanges : List Byte → Option (List ChangeEntry)
  | [] => some []
  | k :: a :: p1 :: p0 :: q :: t3 :: t2 :: t1 :: t0 :: rest =>
    (readChanges rest).map fun es => ⟨k, ⟨a, join2 p1 p0⟩, q, join4 t3 t2 t1 t0⟩ :: es
  | _ => none

def readAcks : List Byte → Option (List AckEntry)
  | [] => some []
  | a :: p1 :: p0 :: o :: rest => (readAcks rest).map fun es => ⟨⟨a, join2 p1 p0⟩, o⟩ :: es
  | _ => none

def readCommits : List Byte → Option (List CommitEntry)
  | [] => some []
  | a :: s1 :: s0 :: rest => (readCommits rest).map fun es => ⟨a, join2 s1 s0⟩ :: es
  | _ => none

def readSummary (x : BitVec 24) : OfferSummary :=
  { flood := x.getLsbD 23, unack := x.extractLsb' 14 9, escalated := x.extractLsb' 5 9, shelved := x.extractLsb' 0 5 }

def readSummaries : List Byte → Option (List OfferSummary)
  | [] => some []
  | a :: b :: c :: rest => (readSummaries rest).map fun xs => readSummary (join3 a b c) :: xs
  | _ => none

/-- Claim list entries; the fuel is the number of bytes. -/
def readClaims : Nat → List Byte → Option (List ClaimEntry)
  | _, [] => some []
  | 0, _ :: _ => none
  | n + 1, a :: rest =>
    if a.getLsbD 7 then
      match rest with
      | s1 :: s0 :: b2 :: b1 :: b0 :: more =>
        (readClaims n more).map fun es => ⟨a.extractLsb' 0 5, join2 s1 s0, some (join3 b2 b1 b0)⟩ :: es
      | _ => none
    else
      match rest with
      | s1 :: s0 :: more => (readClaims n more).map fun es => ⟨a.extractLsb' 0 5, join2 s1 s0, none⟩ :: es
      | _ => none

/-- The handling-dependent tail of a picture record. -/
def readPictureTail (code : BitVec 2) (rest : List Byte) : Option (PictureHandling × List Byte) :=
  if code = 0 then some (.unack, rest)
  else if code = 1 then
    match rest with
    | t :: b2 :: b1 :: b0 :: more => some (.ack t (join3 b2 b1 b0), more)
    | _ => none
  else if code = 2 then
    match rest with
    | t :: b2 :: b1 :: b0 :: r1 :: r0 :: more => some (.shelved t (join3 b2 b1 b0) (join2 r1 r0), more)
    | _ => none
  else some (.reserved, rest)

/-- Picture records; the fuel is the number of bytes. -/
def readPictures : Nat → List Byte → Option (List PictureRecord)
  | _, [] => some []
  | 0, _ :: _ => none
  | n + 1, a :: rest =>
    match rest with
    | p1 :: p0 :: f :: o :: t3 :: t2 :: t1 :: t0 :: feed :: a2 :: a1 :: a0 :: more =>
      match readPictureTail (f.extractLsb' 4 2) more with
      | none => none
      | some (h, more') =>
        (readPictures n more').map fun rs =>
          { id := ⟨a, join2 p1 p0⟩, priority := f.extractLsb' 0 3, cleared := f.getLsbD 3, handling := h,
            occurrence := o, raiseTime := join4 t3 t2 t1 t0, feed := feed, age := join3 a2 a1 a0 } :: rs
    | _ => none

def readReports (l : Byte) : Reports :=
  { listFull := l.getLsbD 4, echoFault := l.getLsbD 5, lineDisturbed := l.getLsbD 6, duplicateSeen := l.getLsbD 7 }

def readPresence (f l a2 a1 a0 rank r2 r1 r0 m3 m2 m1 m0 d1 d0 : Byte) (claims : List ClaimEntry) : PresenceBody :=
  { dark := f.getLsbD 0, overdue := f.getLsbD 1, pictureValid := f.getLsbD 2, joinMark := f.getLsbD 3
    lineA := l.extractLsb' 0 2, lineB := l.extractLsb' 2 2, reports := readReports l
    activeBadge := join3 a2 a1 a0, activeRank := rank, reliefBadge := join3 r2 r1 r0
    millTime := join4 m3 m2 m1 m0, digest := join2 d1 d0, claims := claims }

/-- The body of a kind, before its counts are checked. -/
def readBody (kind : Byte) (b : List Byte) : Option Frame :=
  match kind.toNat, b with
  | 0x01, f :: l :: a2 :: a1 :: a0 :: k :: r2 :: r1 :: r0 :: m3 :: m2 :: m1 :: m0 :: d1 :: d0 :: rest =>
    (readClaims rest.length rest).map fun es =>
      .presence (readPresence f l a2 a1 a0 k r2 r1 r0 m3 m2 m1 m0 d1 d0 es)
  | 0x02, rest => (readChanges rest).map .alarmChange
  | 0x03, b2 :: b1 :: b0 :: rest => (readAcks rest).map (.ack (join3 b2 b1 b0))
  | 0x04, [a, p1, p0, d1, d0, b2, b1, b0] => some (.shelve ⟨a, join2 p1 p0⟩ (join2 d1 d0) (join3 b2 b1 b0))
  | 0x05, [a, p1, p0] => some (.unshelve ⟨a, join2 p1 p0⟩)
  | 0x06, [r, a, s1, s0, b2, b1, b0] => some (.claim r a (join2 s1 s0) (join3 b2 b1 b0))
  | 0x07, [a, s1, s0, b2, b1, b0] => some (.take a (join2 s1 s0) (join3 b2 b1 b0))
  | 0x08, n :: t :: b2 :: b1 :: b0 :: m3 :: m2 :: m1 :: m0 :: rest =>
    (readSummaries rest).map (.offer n t (join3 b2 b1 b0) (join4 m3 m2 m1 m0))
  | 0x09, [o, n, d, r, b2, b1, b0] => some (.answer o n d r (join3 b2 b1 b0))
  | 0x0A, n :: i :: b2 :: b1 :: b0 :: rest => (readCommits rest).map (.commit n i (join3 b2 b1 b0))
  | 0x0B, [n, t] => some (.withdraw n t)
  | 0x0C, [] => some .pictureRequest
  | 0x0D, m1 :: m0 :: i :: rest => (readPictures rest.length rest).map (.picture (join2 m1 m0) i)
  | 0x0E, [m1, m0, n1, n0] => some (.pictureEnd (join2 m1 m0) (join2 n1 n0))
  | _, _ => none

/-- The frame of a kind code and a body; none if the kind is not one of the fourteen or the body is malformed (R183). -/
def decodeFrame (kind : Byte) (b : List Byte) : Option Frame :=
  match readBody kind b with
  | some f => if frameFits f then some f else none
  | none => none

/-- One of the fourteen kinds (R132). -/
def kindOk (kind : Byte) : Bool := 1 ≤ kind.toNat && kind.toNat ≤ 14

/-! ### The frame on a line (R132, 13.2) -/

/-- Kind, sender, sequence, body length, body: what the CRC runs over. -/
def frameCore (kind sender seq : Byte) (body : List Byte) : List Byte :=
  kind :: sender :: seq :: BitVec.ofNat 8 body.length :: body

/-- The bytes of a frame on a line: preamble, start byte, core, CRC. -/
def wire (kind sender seq : Byte) (body : List Byte) : List Byte :=
  0x55 :: 0x55 :: 0xC3 :: (frameCore kind sender seq body ++ bytes2 (crc16 (frameCore kind sender seq body)))

/-- What a good copy carries. -/
structure RawFrame where
  kind   : Byte
  sender : Byte
  seq    : Byte
  body   : List Byte
  deriving DecidableEq, Repr

/-- The bytes of a copy whose stop bits were all correct: a good copy or not (R132). -/
def goodCopy (l : List Byte) : Option RawFrame :=
  match l with
  | 0x55#8 :: 0x55#8 :: 0xC3#8 :: kind :: sender :: seq :: n :: rest =>
    let body := rest.take n.toNat
    if n.toNat ≤ 120 && rest.length == n.toNat + 2 &&
        rest.drop n.toNat == bytes2 (crc16 (frameCore kind sender seq body))
    then some ⟨kind, sender, seq, body⟩
    else none
  | _ => none

/-! ### The bits of a line (R132). A bit is true at the stop level, the level an idle line rests at. -/

/-- The eight data bits of a byte in the order they are sent, least significant first. -/
def dataBits (b : Byte) : List Bool := (List.range 8).map b.getLsbD

/-- The byte whose data bits arrived in this order. -/
def byteOfData (b0 b1 b2 b3 b4 b5 b6 b7 : Bool) : Byte :=
  bit1 b7 ++ bit1 b6 ++ bit1 b5 ++ bit1 b4 ++ bit1 b3 ++ bit1 b2 ++ bit1 b1 ++ bit1 b0

/-- A byte on a line: a start bit, the data bits, a stop bit. -/
def byteOnLine (b : Byte) : List Bool := false :: (dataBits b ++ [true])

/-- The bits of a frame on a line. -/
def lineBits (l : List Byte) : List Bool := l.flatMap byteOnLine

/-- The bytes of a copy, from the bit at which carrier appears; none if a stop bit is wrong or the last byte is cut
short. `idle` counts the bits at the stop level since the last stop bit: ten of them end the copy (R132), fewer are
passed over. DEDUCED, safe: log entry 39. -/
def lineBytes : Nat → List Bool → Option (List Byte)
  | _, [] => some []
  | idle, true :: rest => if idle = 9 then some [] else lineBytes (idle + 1) rest
  | _, false :: b0 :: b1 :: b2 :: b3 :: b4 :: b5 :: b6 :: b7 :: stop :: rest =>
    if stop then (lineBytes 0 rest).map (byteOfData b0 b1 b2 b3 b4 b5 b6 b7 :: ·) else none
  | _, false :: _ => none

/-- The bits of one line over a transmission: a good copy or not (R132). -/
def goodBits (l : List Bool) : Option RawFrame := (lineBytes 0 (l.dropWhile id)).bind goodCopy

/-- What a line delivered of a transmission: no carrier, a good copy, or any other (R132). -/
def copyOf (l : List Bool) : Copy :=
  if l.all id then .absent else if (goodBits l).isSome then .good else .bad

/-- The command that a transmission with a good copy is: the row of its kind, DUPLICATE_FRAME for this station's own
number, MALFORMED_FRAME for a kind, sender or body that fits no row. -/
def receivedCommand (own : Option Station) (f : RawFrame) (copyA copyB : Copy) : Instr :=
  let rx : Rx := ⟨f.sender, f.seq, copyA, copyB⟩
  if own == some f.sender && stationOk f.sender && kindOk f.kind then .duplicateFrame f.seq copyA copyB
  else if !stationOk f.sender then .malformedFrame rx f.kind f.body
  else
    match decodeFrame f.kind f.body with
    | none => .malformedFrame rx f.kind f.body
    | some (.presence p) => .presence rx p
    | some (.alarmChange es) => .alarmChange rx es
    | some (.ack b es) => .ackFrame rx b es
    | some (.shelve id d b) => .shelveFrame rx id d b
    | some (.unshelve id) => .unshelveFrame rx id
    | some (.claim r a n b) => .claimFrame rx r a n b
    | some (.take a n b) => .takeFrame rx a n b
    | some (.offer n t b m xs) => .offerFrame rx n t b m xs
    | some (.answer o n d r b) => .answerFrame rx o n d r b
    | some (.commit n i b es) => .commitFrame rx n i b es
    | some (.withdraw n t) => .withdrawFrame rx n t
    | some .pictureRequest => .pictureRequest rx
    | some (.picture m i rs) => .picture rx m i rs
    | some (.pictureEnd m n) => .pictureEnd rx m n

/-- The command that a transmission is, from the bits of the two lines over it: that of its good copy, the first to
complete if both lines have one (R141). Of two good copies that differ, the shorter body counts as the first to complete,
and line A's where the lengths are equal, whenever each copy began. DESIGN CHOICE, unsafe: log entry 43. None where no
line carried anything. -/
def State.transmission (s : State) (lineA lineB : List Bool) : Option Instr :=
  let copyA := copyOf lineA
  let copyB := copyOf lineB
  match goodBits lineA, goodBits lineB with
  | some f, some g =>
    some (receivedCommand s.node.number (if f.body.length ≤ g.body.length then f else g) copyA copyB)
  | some f, none => some (receivedCommand s.node.number f copyA copyB)
  | none, some g => some (receivedCommand s.node.number g copyA copyB)
  | none, none =>
    if copyA == .absent && copyB == .absent then none else some (.malformedFrame ⟨0, 0, copyA, copyB⟩ 0 [])

/-! ### The configuration digest (R160, 13.3) -/

/-- Ranks in one byte: acknowledge in bits 7..6, shelve 5..4, hold 3..2, take 1..0. -/
def ranksByte (c : AreaConfig) : Byte :=
  BitVec.ofNat 2 c.ackRank ++ BitVec.ofNat 2 c.shelveRank ++ BitVec.ofNat 2 c.holdRank ++ BitVec.ofNat 2 c.takeRank

/-- 00h for an unconfigured area; 9 bytes for a configured one. -/
def areaDigestBytes (r : Area) : List Byte :=
  match r.config with
  | none => [0x00]
  | some c =>
    0x01 :: c.feed :: c.standby.getD 0 :: ranksByte c :: (bytes2 (BitVec.ofNat 16 c.floodOn) ++
      bytes2 (BitVec.ofNat 16 c.floodOff) ++ [BitVec.ofNat 8 c.shelveLimit])

def patternDigestBytes (p : ShiftPattern) : List Byte :=
  BitVec.ofNat 8 p.perDay :: (bytes2 (BitVec.ofNat 16 p.firstStart) ++
    [BitVec.ofNat 8 p.lead, BitVec.ofNat 8 p.grace])

/-- Areas 0 to 31 in order, then the shift pattern. -/
def State.digestInput (s : State) : List Byte :=
  (List.range 32).flatMap (fun a => areaDigestBytes (s.area a)) ++ patternDigestBytes s.clock.pattern

/-- R160. -/
def State.formDigest (s : State) : Half := crc16 s.digestInput

/-! ### Console answers (13.4) -/

def resultByte : ResultCode → Byte
  | .ok => 0x00
  | .busy => 0x01
  | .badState => 0x02
  | .badValue => 0x03
  | .notSignedOn => 0x04
  | .notPermitted => 0x05
  | .notFeed => 0x06
  | .queueFull => 0x07
  | .occupied => 0x08
  | .holding => 0x09
  | .badgeInUse => 0x0A
  | .notHeld => 0x0B
  | .flooded => 0x0C
  | .shelfFull => 0x0D
  | .noArea => 0x0E
  | .emptyRow => 0x0F
  | .gone => 0x10
  | .changed => 0x11
  | .notFound => 0x12
  | .peerUnknown => 0x13
  | .handoverBusy => 0x14
  | .notQualified => 0x15
  | .noRelief => 0x16

/-- The record flags of a console answer; the escalated bit is carried here (13.3). -/
def recordFlags (r : AlarmRecord) : Byte :=
  flagsByte (BitVec.ofNat 3 r.priority.num) r.cleared (BitVec.ofNat 2 r.handling.code) r.escalated

def ackBytes : Handling → List Byte
  | .ack t b => t :: bytes3 b
  | .unack => [0, 0, 0, 0]
  | .shelved _ _ _ => [0, 0, 0, 0]

/-- A shelf's remaining seconds: expiry minus now, or 0 if that is not positive (R18, R163). Seconds that two bytes do
not hold are a free value. DESIGN CHOICE, safe: log entry 38. -/
def remaining (now expiry : Sec) : Half :=
  if expired now expiry then 0
  else if elapsed expiry now < 65536 then BitVec.ofNat 16 (elapsed expiry now)
  else Config.longShelf (elapsed expiry now)

/-- The shelf in an alarm record: station, badge and remaining seconds (13.4). Without one the station is 00h and the badge
000000h (R182); the remaining seconds, for which R182 gives no value then, are 0000h. DESIGN CHOICE, unsafe: log entry
47. -/
def shelfBytes (now : Sec) : Handling → List Byte
  | .shelved e t b => t :: (bytes3 b ++ bytes2 (remaining now e))
  | .unack => [0, 0, 0, 0, 0, 0]
  | .ack _ _ => [0, 0, 0, 0, 0, 0]

/-- An alarm record, 25 bytes (13.4). -/
def alarmBytes (now : Sec) (position : Nat) (r : AlarmRecord) : List Byte :=
  BitVec.ofNat 8 position :: (idBytes r.id ++ recordFlags r :: r.occurrence :: (bytes4 r.raiseTime ++
    bytes4 (now - r.arrivalSec) ++ r.feed :: (ackBytes r.handling ++ shelfBytes now r.handling)))

/-- READ LIST: list length and up to four records (R19, 13.4). -/
def listBytes (now : Sec) (start : Nat) (l : List AlarmRecord) : List Byte :=
  bytes2 (BitVec.ofNat 16 l.length) ++
    ((l.zipIdx.drop start).take 4).flatMap fun x => alarmBytes now x.2 x.1

/-- Area, point and occurrence of a snapshot; an empty one is FFh 0000h 00h (R182). -/
def snapshotBytes : Option Snapshot → List Byte
  | some x => idBytes x.id ++ [x.occurrence]
  | none => [0xFF, 0x00, 0x00, 0x00]

/-- A window row: area, point, record flags, occurrence (13.4). -/
def rowBytes : Option AlarmRecord → List Byte
  | some r => idBytes r.id ++ [recordFlags r, r.occurrence]
  | none => [0xFF, 0x00, 0x00, 0x00, 0x00]

def scopeByte : Scope → Byte
  | .focus => 0x00
  | .held => 0x01
  | .all => 0x02
  | .shelved => 0x03

/-- Mode: bit 0 up, bit 1 follow on (13.4). -/
def modeByte (w : Window) : Byte := 0#6 ++ bit1 w.follow ++ bit1 (w.direction == .up)

/-- READ WINDOW, 51 bytes (R51, 13.4). -/
def State.windowBytes (s : State) : List Byte :=
  scopeByte s.window.scope :: s.window.focus.getD 0xFF :: (bytes2 (BitVec.ofNat 16 s.scoped.length) ++
    BitVec.ofNat 8 s.window.top :: BitVec.ofNat 8 s.window.row :: modeByte s.window ::
      (snapshotBytes s.window.snapshot ++ s.rows.flatMap rowBytes))

/-- The bytes of an answer body, of which there are at most 125 (R175). DESIGN CHOICE, safe: log entry 8. -/
def bodyBytes : AnswerBody → List Byte
  | .empty => []
  | .bytes l => l
  | b => (Config.answerBytes b).take 125

/-- The pending answer as it is shifted out (R175, 13.4). -/
def answerBytes (a : Answer) : List Byte :=
  resultByte a.result :: a.number :: a.request :: BitVec.ofNat 8 (bodyBytes a.body).length :: bodyBytes a.body

/-- What a transaction of `n` bytes shifts out on MISO: the status byte, then the pending answer followed by FFh, or
FFh in every byte when the busy bit is set (R173, R174, R175). -/
def State.shiftedOut (s : State) (n : Nat) : List Byte :=
  let rest := if s.portOpen then answerBytes s.port.answer else []
  ((s.statusByte :: rest) ++ List.replicate n 0xFF#8).take n

/-! ### Console requests (13.4) -/

/-- The settings of a SET AREA body for "yes". -/
def readSettings : List Byte → Option AreaSettings
  | [feed, standby, r1, r2, r3, r4, on1, on0, off1, off0, limit] =>
    some ⟨feed, standby, r1, r2, r3, r4, join2 on1 on0, join2 off1 off0, limit⟩
  | _ => none

/-- The command of a request code and body. A code that names no request, or a body of another length than the one
given, is UNKNOWN_REQUEST (R172). `own` tells a seat change from a remote offer. -/
def requestCommand (own : Option Station) (code : Byte) (body : List Byte) : Instr :=
  match code.toNat, body with
  | 0x01, [] => .nop
  | 0x02, [] => .readStatus
  | 0x03, [] => .readAttention
  | 0x04, [t] => .readPeer t
  | 0x05, [a] => .readArea a
  | 0x06, [a, p1, p0] => .readAlarm a (join2 p1 p0)
  | 0x07, [s1, s0] => .readList (join2 s1 s0)
  | 0x08, [] => .readWindow
  | 0x09, [] => .readHandover
  | 0x0A, [t] => .setTrim t
  | 0x0B, [] => .restart
  | 0x10, [n, g] => .setStation n g
  | 0x11, [a, c] => if c = 0x01 then .unknownRequest code else .setArea a c none
  | 0x11, a :: c :: rest =>
    if c = 0x00 then .unknownRequest code
    else
      match readSettings rest with
      | some x => .setArea a c (some x)
      | none => .unknownRequest code
  | 0x12, [n, m1, m0, l, g] => .setShiftPattern n (join2 m1 m0) l g
  | 0x13, [t3, t2, t1, t0] => .setClock (join4 t3 t2 t1 t0)
  | 0x14, [] => .join
  | 0x20, [b2, b1, b0, r, q3, q2, q1, q0] => .signOn (join3 b2 b1 b0) r (join4 q3 q2 q1 q0)
  | 0x21, [b2, b1, b0, r, q3, q2, q1, q0] => .signOnRelief (join3 b2 b1 b0) r (join4 q3 q2 q1 q0)
  | 0x22, [slot] => if slot = 0x00 then .signOffActive else .signOffRelief slot
  | 0x23, [slot, r] => .setActingRank slot r
  | 0x30, [a, p1, p0, q] => .postRaise a (join2 p1 p0) q
  | 0x31, [a, p1, p0] => .postClear a (join2 p1 p0)
  | 0x32, [a, p1, p0, o] => .acknowledge a (join2 p1 p0) o
  | 0x33, [a] => .acknowledgeArea a
  | 0x34, [] => .acknowledgeAtCursor
  | 0x35, [a, p1, p0, d1, d0] => .shelve a (join2 p1 p0) (join2 d1 d0)
  | 0x36, [a, p1, p0] => .unshelve a (join2 p1 p0)
  | 0x37, [] => .silenceHorn
  | 0x40, [r] => .placeCursor r
  | 0x41, [o1, o0] => .scroll (join2 o1 o0)
  | 0x42, [x] => .setScope x
  | 0x43, [a] => .setFocus a
  | 0x44, [d, f] => .setEntryMode d f
  | 0x50, [a] => .claimArea a
  | 0x51, [a] => .takeArea a
  | 0x60, [t, m3, m2, m1, m0] =>
    if own == some t then .offerSeatChange (join4 m3 m2 m1 m0) else .offerHandover t (join4 m3 m2 m1 m0)
  | 0x61, [n] => .acceptHandover n
  | 0x62, [n] => .declineHandover n
  | 0x63, [] => .withdrawOffer
  | 0x64, [t, m3, m2, m1, m0, f3, f2, f1, f0] => .scheduleOffer t (join4 m3 m2 m1 m0) (join4 f3 f2 f1 f0)
  | 0x65, [] => .cancelSchedule
  | _, _ => .unknownRequest code

/-- The body of a SET AREA request. -/
def settingsBytes (c : AreaSettings) : List Byte :=
  c.feed :: c.standby :: c.ackRank :: c.shelveRank :: c.holdRank :: c.takeRank ::
    (bytes2 c.floodOn ++ bytes2 c.floodOff ++ [c.shelveLimit])

/-- The request code and body that a console processor sends for a request, at the station `own`; none for a command
that is no request of the table of 13.4. -/
def requestBytes (own : Station) : Instr → Option (Byte × List Byte)
  | .nop => some (0x01, [])
  | .readStatus => some (0x02, [])
  | .readAttention => some (0x03, [])
  | .readPeer t => some (0x04, [t])
  | .readArea a => some (0x05, [a])
  | .readAlarm a p => some (0x06, a :: bytes2 p)
  | .readList n => some (0x07, bytes2 n)
  | .readWindow => some (0x08, [])
  | .readHandover => some (0x09, [])
  | .setTrim t => some (0x0A, [t])
  | .restart => some (0x0B, [])
  | .setStation n g => some (0x10, [n, g])
  | .setArea a c x => some (0x11, a :: c :: (x.map settingsBytes).getD [])
  | .setShiftPattern n m l g => some (0x12, n :: (bytes2 m ++ [l, g]))
  | .setClock t => some (0x13, bytes4 t)
  | .join => some (0x14, [])
  | .signOn b r q => some (0x20, bytes3 b ++ r :: bytes4 q)
  | .signOnRelief b r q => some (0x21, bytes3 b ++ r :: bytes4 q)
  | .signOffActive => some (0x22, [0x00])
  | .signOffRelief x => some (0x22, [x])
  | .setActingRank x r => some (0x23, [x, r])
  | .postRaise a p q => some (0x30, a :: (bytes2 p ++ [q]))
  | .postClear a p => some (0x31, a :: bytes2 p)
  | .acknowledge a p o => some (0x32, a :: (bytes2 p ++ [o]))
  | .acknowledgeArea a => some (0x33, [a])
  | .acknowledgeAtCursor => some (0x34, [])
  | .shelve a p d => some (0x35, a :: (bytes2 p ++ bytes2 d))
  | .unshelve a p => some (0x36, a :: bytes2 p)
  | .silenceHorn => some (0x37, [])
  | .placeCursor r => some (0x40, [r])
  | .scroll o => some (0x41, bytes2 o)
  | .setScope x => some (0x42, [x])
  | .setFocus a => some (0x43, [a])
  | .setEntryMode d f => some (0x44, [d, f])
  | .claimArea a => some (0x50, [a])
  | .takeArea a => some (0x51, [a])
  | .offerHandover t m => some (0x60, t :: bytes4 m)
  | .offerSeatChange m => some (0x60, own :: bytes4 m)
  | .acceptHandover n => some (0x61, [n])
  | .declineHandover n => some (0x62, [n])
  | .withdrawOffer => some (0x63, [])
  | .scheduleOffer t m f => some (0x64, t :: (bytes4 m ++ bytes4 f))
  | .cancelSchedule => some (0x65, [])
  | _ => none

/-- What the port makes of the bytes clocked in between CS_N's edges: discarded, or a request code and body (R172).
`cut`: the last byte was cut short. -/
def examine (portOpen cut : Bool) (mosi : List Byte) : Except DiscardCause (Byte × List Byte) :=
  if !portOpen then .error .busy
  else
    match mosi with
    | code :: length :: rest =>
      if length.toNat > 62 then .error .tooLong
      else if rest.length < length.toNat then .error .short
      else if cut then .error .cutShort
      else .ok (code, rest.take length.toNat)
    | _ => .error .short

/-- The command that a transaction is (R172, R173). -/
def State.transaction (s : State) (cut : Bool) (mosi : List Byte) : Instr :=
  match examine s.portOpen cut mosi with
  | .error cause => .discardedTransaction cause
  | .ok (code, body) => requestCommand s.node.number code body

/-! ### The bits of a transaction (R172) -/

/-- The bits of a byte in the order SCLK shifts them, most significant first. -/
def portBits (b : Byte) : List Bool := (dataBits b).reverse

/-- The whole bytes sampled on MOSI between CS_N's edges, one bit at each rising edge of SCLK. -/
def portBytes : List Bool → List Byte
  | b7 :: b6 :: b5 :: b4 :: b3 :: b2 :: b1 :: b0 :: rest => byteOfData b0 b1 b2 b3 b4 b5 b6 b7 :: portBytes rest
  | _ => []

/-- The command that the bits sampled on MOSI from CS_N's falling edge to its rising edge are; bits short of a whole
byte are a byte cut short (R172). -/
def State.sampled (s : State) (mosi : List Bool) : Instr := s.transaction (mosi.length % 8 != 0) (portBytes mosi)

/-- The level of MISO for bit `k` of a transaction; none is high impedance, which it has while CS_N is high (R172), and
whatever CS_N while RESET_N is held low or the power-on reset lasts (R181). -/
def State.misoPin (s : State) (resetLow csHigh : Bool) (k : Nat) : Option Bool :=
  if resetLow || csHigh then none else some ((((s.shiftedOut (k / 8 + 1))[k / 8]?).getD 0xFF#8).getMsbD (k % 8))

end Sys2Proof.Machine
end

