-- ==== Sys2Proof/Machine/Transmit.lean ====
section
/-! DEFINITION. The line supervision, the presence build, the picture stream's serving side, and the choice and build of
the frame a station offers (chapters 9, 10.2 and 11.2, 11.3). -/

namespace Sys2Proof.Machine

/-! ### Lines (R143, R144) -/

def State.line (s : State) : LineName → Line
  | .a => s.bus.lineA
  | .b => s.bus.lineB

def State.setLine (s : State) (n : LineName) (l : Line) : State :=
  match n with
  | .a => { s with bus := { s.bus with lineA := l } }
  | .b => { s with bus := { s.bus with lineB := l } }

/-- GOOD, DISTURBED or SILENT, without the fault second. -/
def LineState.code : LineState → BitVec 2
  | .good => 0
  | .disturbed _ => 1
  | .silent => 2

/-- Put a line's state in place; every change among GOOD, DISTURBED and SILENT latches LINE_FAULT (R144). -/
def State.setLineState (s : State) (n : LineName) (x : LineState) : State :=
  (s.setLine n { s.line n with state := x }).latchIf ((s.line n).state.code != x.code) .lineFault

/-- A line whose quiet count has reached 3 becomes SILENT (R144). -/
def State.silenceLine (n : LineName) (s : State) : State :=
  let l := s.line n
  if l.silentDue then (s.setLine n { l with silentDue := false }).setLineState n .silent else s

/-- A marked line becomes DISTURBED with the fault second now, and reports line DISTURBED (R143). -/
def State.markLine (n : LineName) (s : State) : State :=
  ((s.silenceLine n).setLineState n (.disturbed s.now)).setReport .lineDisturbed

/-- A line delivers a good copy: a SILENT line becomes GOOD at once, with quiet count 0 (R144). A line about to go
SILENT at the last second event goes SILENT first. DEDUCED, safe: log entry 27. -/
def State.goodCopyOn (n : LineName) (s : State) : State :=
  let s1 := s.silenceLine n
  let l := s1.line n
  match l.state with
  | .silent => (s1.setLine n { l with heard := true, quiet := 0 }).setLineState n .good
  | .good => s1.setLine n { l with heard := true }
  | .disturbed _ => s1.setLine n { l with heard := true }

/-- The quiet count of a line at a second event, from what the two lines delivered in the second just ended (R144).
DEDUCED, unsafe: log entry 11. -/
def Line.count (l : Line) (otherHeard : Bool) : Line :=
  let quiet := if l.heard then 0 else if otherHeard then min 3 (l.quiet + 1) else l.quiet
  { l with
    quiet := quiet, heard := false
    silentDue := !l.heard && otherHeard && quiet == 3 && l.state != .silent }

/-- The line supervisor at a second event (R144). -/
def State.countLines (s : State) : State :=
  { s with bus := { s.bus with
      lineA := s.bus.lineA.count s.bus.lineB.heard, lineB := s.bus.lineB.count s.bus.lineA.heard } }

/-- A DISTURBED line unmarked for 60 s becomes GOOD (R143). -/
def State.recoverLine (n : LineName) (s : State) : State :=
  match (s.line n).state with
  | .disturbed fault => if Config.lineRecovery ≤ s.since fault then s.setLineState n .good else s
  | .good => s
  | .silent => s

/-! ### The claim list of a presence (R152) -/

/-- The claim list entry of an area; the badge is left out where it equals the frame's active badge (R152). -/
def State.claimEntry (s : State) (a : Nat) : ClaimEntry :=
  let badge :=
    match (s.area a).hold with
    | .held _ b => if b == s.activeBadge then none else some b
    | .unheld => none
    | .orphaned _ _ _ _ => none
  ⟨BitVec.ofNat 5 a, (s.area a).serial, badge⟩

/-- The held areas in ascending order from the list start, going past area 31 round to area 0 (R152). -/
def State.claimOrder (s : State) : List Nat :=
  ((List.range 32).map fun i => (s.node.listStart + i) % 32).filter s.holds

/-- Take entries until one would not fit; the second part is what is left out (R152). -/
def fitClaims (s : State) : Nat → List Nat → List ClaimEntry × List Nat
  | _, [] => ([], [])
  | room, a :: rest =>
    let e := s.claimEntry a
    if claimEntrySize e ≤ room then
      let r := fitClaims s (room - claimEntrySize e) rest
      (e :: r.1, r.2)
    else ([], a :: rest)

/-- The claim list and the areas left out. -/
def State.claimList (s : State) : List ClaimEntry × List Nat := fitClaims s Config.claimBytes s.claimOrder

/-! ### The presence (R135, R151) -/

/-- The presence built from the station's state now (R151). -/
def State.presenceBody (s : State) : PresenceBody :=
  { dark := s.node.dark, overdue := s.clock.overdue, pictureValid := s.transfer.valid
    joinMark := s.since s.node.activeSince < 3
    lineA := s.bus.lineA.state.code, lineB := s.bus.lineB.state.code, reports := s.node.reports
    activeBadge := s.activeBadge
    activeRank := BitVec.ofNat 8 ((s.signOn.active.map Operator.rank).getD 0)
    reliefBadge := (s.signOn.relief.map Operator.badge).getD 0
    millTime := BitVec.ofNat 32 s.clock.millTime, digest := s.node.digest.getD 0
    claims := s.claimList.1 }

/-- The attempt in progress is of this class. -/
def State.attempting (s : State) (c : TxClass) : Bool := s.bus.sending.any fun x => x.cls == c

/-- Build a presence into the presence slot. It replaces an earlier one not being sent, and waits beside one whose
attempt is in progress (R135). The list start moves to the first area left out, or to 0 (R152). -/
def State.buildPresence (s : State) : State :=
  let p : PresenceTx := { tx := { frame := .presence s.presenceBody, seq := none }, again := .none }
  let s1 : State := { s with node := { s.node with listStart := s.claimList.2.headD 0 } }
  if s.attempting .presence && s.tx.presence.isSome then { s1 with tx := { s1.tx with nextPresence := some p } }
  else { s1 with tx := { s1.tx with presence := some p } }

/-! ### The serving side (R162 to R164) -/

/-- A stream over the list as it stands (R163). -/
def State.newStream (s : State) (active : StationSet) : Serving :=
  .streaming { active := active, staged := 0, ids := s.picture.list.map AlarmRecord.id, position := 0, index := 0, sent := 0 }

def State.setServing (x : Serving) (s : State) : State := { s with transfer := { s.transfer with serving := x } }

/-- This station serves picture requests: its picture is valid and its number is lower than that of every PRESENT peer
whose record shows a valid picture (R162). -/
def State.serves (s : State) : Bool :=
  s.transfer.valid &&
    ((List.range 16).all fun i =>
      match s.peers.getD i none with
      | some r => if r.state == .present && r.info.any (fun x => x.pictureValid) then s.own.toNat < i + 1 else true
      | none => true)

/-- A PICTURE REQUEST from a peer (R162). -/
def State.applyPictureRequest (sender : Station) (s : State) : State :=
  if s.isActive && !s.isOwn sender && s.serves then
    match s.transfer.serving with
    | .idle => s.setServing (s.newStream (stationBit sender))
    | .streaming x => s.setServing (.streaming { x with staged := x.staged ||| stationBit sender })
  else s

/-- The end of a stream: the staged set starts a new one, or the serving side is IDLE (R164). A frame still held
belongs to no current stream. -/
def State.endStream (s : State) : State :=
  match s.transfer.serving with
  | .idle => s
  | .streaming x =>
    let s1 : State :=
      { s with tx := { s.tx with pictureFrame := s.tx.pictureFrame.map fun f => { f with current := false } } }
    if x.staged == 0 then s1.setServing .idle else s1.setServing (s1.newStream x.staged)

/-- A LOST peer leaves both requester sets; an active set left empty ends the stream (R164). -/
def State.dropRequester (t : Station) (s : State) : State :=
  match s.transfer.serving with
  | .idle => s
  | .streaming x =>
    let y := { x with active := x.active &&& ~~~ stationBit t, staged := x.staged &&& ~~~ stationBit t }
    let s1 := s.setServing (.streaming y)
    if y.active == 0 then s1.endStream else s1

/-- The age of a record, saturating at FFFFFFh (R163, R182). -/
def State.ageOf (s : State) (r : AlarmRecord) : BitVec 24 := BitVec.ofNat 24 (min 0xFFFFFF (s.since r.arrivalSec))

/-- A record as a picture record carries it (R163). -/
def State.pictureRecord (s : State) (r : AlarmRecord) : PictureRecord :=
  { id := r.id, priority := BitVec.ofNat 3 r.priority.num, cleared := r.cleared
    handling :=
      match r.handling with
      | .unack => .unack
      | .ack t b => .ack t b
      | .shelved e t b => .shelved t b (remaining s.now e)
    occurrence := r.occurrence, raiseTime := r.raiseTime, feed := r.feed, age := s.ageOf r }

/-- Walk the stream list for up to `room` records still in the alarm list: the records and the ids walked (R163). -/
def walkStream (l : List AlarmRecord) : Nat → List AlarmId → List AlarmRecord × Nat
  | _, [] => ([], 0)
  | 0, _ :: _ => ([], 0)
  | room + 1, id :: rest =>
    match findRecord id l with
    | some r =>
      let w := walkStream l room rest
      (r :: w.1, w.2 + 1)
    | none =>
      let w := walkStream l (room + 1) rest
      (w.1, w.2 + 1)

/-- The next frame of a stream, and the stream after its build (R163). -/
def State.streamFrame (s : State) (x : Stream) : Frame × Stream :=
  let w := walkStream s.picture.list 6 (x.ids.drop x.position)
  if w.1.isEmpty then (.pictureEnd x.active (BitVec.ofNat 16 x.sent), x)
  else
    (.picture x.active x.index (w.1.map s.pictureRecord),
      { x with position := x.position + w.2, sent := x.sent + w.1.length })

/-! ### The frame a station offers (R134, R136, R137) -/

/-- The lowest class that is not empty (R134). -/
def State.offeredClass (s : State) : Option TxClass :=
  if !s.tx.urgent.isEmpty then some .urgent
  else if s.tx.changeFrame.isSome || !s.tx.change.isEmpty then some .change
  else if s.tx.presence.isSome then some .presence
  else if s.tx.pictureFrame.isSome || s.transfer.serving != .idle then some .picture
  else none

def TxClass.num : TxClass → Nat
  | .urgent => 0
  | .change => 1
  | .presence => 2
  | .picture => 3

/-- The wait of a class: class × 16 plus the station number (R137). -/
def State.wait (s : State) (c : TxClass) : Nat := c.num * 16 + s.own.toNat

/-- Build an ALARM CHANGE frame from up to eight of the oldest entries, unless one is held (R13, R134). -/
def State.buildChange (s : State) : State :=
  match s.tx.changeFrame with
  | some _ => s
  | none =>
    { s with tx := { s.tx with
        changeFrame := some { frame := .alarmChange (s.tx.change.take 8), seq := none }
        change := s.tx.change.drop 8 } }

/-- Build the next frame of the stream, unless one is held (R134, R163). -/
def State.buildPicture (s : State) : State :=
  match s.tx.pictureFrame with
  | some _ => s
  | none =>
    match s.transfer.serving with
    | .idle => s
    | .streaming x =>
      let f := s.streamFrame x
      { s with
        tx := { s.tx with pictureFrame := some { tx := { frame := f.1, seq := none }, current := true } }
        transfer := { s.transfer with serving := .streaming f.2 } }

/-- A frame takes the sequence counter's value at its first attempt (R136). -/
def TxFrame.stamped (t : TxFrame) (n : Byte) : TxFrame := { t with seq := some (t.seq.getD n) }

/-- Change the frame at the head of a class. -/
def State.mapHead (f : TxFrame → TxFrame) (c : TxClass) (s : State) : State :=
  match c with
  | .urgent =>
    { s with tx := { s.tx with urgent := match s.tx.urgent with
        | [] => []
        | t :: rest => f t :: rest } }
  | .change => { s with tx := { s.tx with changeFrame := s.tx.changeFrame.map f } }
  | .presence => { s with tx := { s.tx with presence := s.tx.presence.map fun p => { p with tx := f p.tx } } }
  | .picture => { s with tx := { s.tx with pictureFrame := s.tx.pictureFrame.map fun p => { p with tx := f p.tx } } }

/-- The built frame at the head of a class. -/
def State.head (s : State) : TxClass → Option TxFrame
  | .urgent => s.tx.urgent.head?
  | .change => s.tx.changeFrame
  | .presence => s.tx.presence.map PresenceTx.tx
  | .picture => s.tx.pictureFrame.map PictureTx.tx

/-- Build what the class builds at a first attempt (R134). -/
def State.buildFor (c : TxClass) (s : State) : State :=
  match c with
  | .urgent => s
  | .change => s.buildChange
  | .presence => s
  | .picture => s.buildPicture

/-- Start an attempt of a class: build, take a sequence at the first attempt, drive both lines (R134, R136, R137). -/
def State.startAttempt (c : TxClass) (s : State) : State :=
  let s1 := s.buildFor c
  let first := (s1.head c).any fun t => t.seq.isNone
  let s2 := s1.mapHead (fun t => t.stamped s1.bus.seq) c
  { s2 with bus := { s2.bus with
      seq := if first then s2.bus.seq + 1 else s2.bus.seq
      sending := some { cls := c, stoppedA := false, stoppedB := false } } }

/-- The bytes this station is driving on a line, if it drives it (R132, R138). -/
def State.driven (s : State) (n : LineName) : Option (List Byte) :=
  match s.bus.sending with
  | none => none
  | some x =>
    let stopped := match n with
      | .a => x.stoppedA
      | .b => x.stoppedB
    if stopped then none
    else (s.head x.cls).map fun t => wire (frameKind t.frame) s.own (t.seq.getD 0) (frameBody t.frame)

/-- The levels this station drives on a line, bit by bit, if it drives it (R132, R138). -/
def State.drivenBits (s : State) (n : LineName) : Option (List Bool) := (s.driven n).map lineBits

end Sys2Proof.Machine
end

