-- ==== Sys2Proof/Machine/Refresh.lean ====
section
/-! DEFINITION. The requesting side of the picture transfer: the start of a refresh, the taking of a stream, the merge
of picture records with the pending events, completion and failure (chapter 11). -/

namespace Sys2Proof.Machine

def State.setRefresh (x : Option Refresh) (s : State) : State := { s with transfer := { s.transfer with refresh := x } }

def State.setPendingEvents (x : List PendingEvent) (s : State) : State :=
  { s with transfer := { s.transfer with pendingEvents := x } }

def State.setValid (s : State) : State := { s with transfer := { s.transfer with valid := true } }

/-- The peer table holds a PRESENT peer. -/
def State.anyPresent (s : State) : Bool :=
  s.peers.any fun
    | some r => r.state == .present
    | none => false

/-- The start of the refresh on becoming ACTIVE (R161). DEDUCED, safe: log entry 30. -/
def State.startRefresh (s : State) : State :=
  if s.anyPresent then
    (((s.queueIfRoom .pictureRequest).setPendingEvents []).setRefresh
      (some { phase := .waiting, attempt := 1, wait := s.now, repeatOwed := false, taken := 0 }))
  else s.setValid.latch .pictureDone

/-- The refresh ends: picture valid, the pending events discarded, NONE (R169, R170). A repeat request still owed is
dropped with it. DESIGN CHOICE, unsafe: log entry 42. -/
def State.endRefresh (s : State) : State := (s.setValid.setPendingEvents []).setRefresh none

/-! ### Merging (R166, R168) -/

/-- One pending entry applied to its record as the live frame would have been; a stale entry latches nothing (R168). -/
def State.applyPending (e : PendingEvent) (s : State) : State :=
  match findRecord e.id s.picture.list with
  | none => s
  | some r =>
    match e.kind with
    | .clear => s.clearRecord r
    | .ack o t b => if o == r.occurrence && r.handling.isUnack then s.acknowledgeRecord t b r else s

/-- The pending entries of an id, oldest first; each leaves the list (R168). -/
def State.matchPending (id : AlarmId) (s : State) : State :=
  (s.transfer.pendingEvents.filter fun e => e.id == id).foldl (fun s e => s.applyPending e) (s.dropPending id)

/-- The arrival second derived from an age: now minus the age, or 0 if that would be negative (R166). -/
def arrivalFromAge (now : Sec) (age : BitVec 24) : Sec :=
  if now.toNat < age.toNat then 0 else BitVec.ofNat 32 (now.toNat - age.toNat)

/-- The record inserted for a picture record (R166). `room`: the area's shelve limit leaves a place. None: a CLEARED
record whose shelf is dropped is not inserted, nor is one with the reserved handling. -/
def mergedRecord (now : Sec) (room : Bool) (p : Priority) (r : PictureRecord) : Option AlarmRecord :=
  let build := fun (h : Handling) =>
    ({ id := r.id, priority := p, cleared := r.cleared, handling := h, occurrence := r.occurrence,
       raiseTime := r.raiseTime, arrivalSec := arrivalFromAge now r.age, arrivalSeq := 0, escalated := false,
       feed := r.feed } : AlarmRecord)
  match r.handling with
  | .unack => some (build .unack)
  | .ack t b => if r.cleared then none else some (build (.ack t b))
  | .shelved t b left =>
    if room then some (build (.shelved (now + left.setWidth 32) t b))
    else if r.cleared then none
    else some (build .unack)
  | .reserved => none

/-- A picture record that is ignored: area not configured, priority outside 1..4, ACK with CLEARED, or the reserved
handling (R166, R183). -/
def State.pictureIgnored (r : PictureRecord) (s : State) : Bool :=
  !s.configured r.id.area.toNat || (priorityOf r.priority.toNat).isNone ||
    match r.handling with
    | .ack _ _ => r.cleared
    | .reserved => true
    | .unack => false
    | .shelved _ _ _ => false

/-- The insertion of a valid picture record whose id is not in the list, with the pending-events match; a full list
discards the pending entries for the id (R166, R168). Where the insertion evicts an ACK record (R3) and a pending entry
then removes the new one, the evicted record stays removed. DESIGN CHOICE, unsafe: log entry 45. -/
def State.insertPicture (r : PictureRecord) (s : State) : State :=
  let room := shelvedCount r.id.area r.id s.picture.list < s.shelveLimit r.id.area
  match priorityOf r.priority.toNat with
  | none => s
  | some p =>
    match mergedRecord s.now room p r with
    | none => s
    | some x =>
      match s.insert x with
      | none => (s.listFull).dropPending r.id
      | some s1 => s1.matchPending r.id

/-- One picture record merged (R166). DEDUCED, unsafe: log entry 14. -/
def State.mergeRecord (r : PictureRecord) (s : State) : State :=
  if s.pictureIgnored r then s
  else
    match findRecord r.id s.picture.list with
    | none => s.insertPicture r
    | some x =>
      if r.occurrence.toNat ≤ x.occurrence.toNat then s
      else (s.setList (dropRecord r.id s.picture.list)).insertPicture r

/-- The records of a PICTURE frame in frame order (R166). -/
def State.mergeAll (rs : List PictureRecord) (s : State) : State := rs.foldl (fun s r => s.mergeRecord r) s

/-! ### Taking a stream (R165, R169) -/

/-- A PICTURE frame taken: the stream's server, the records merged and counted, the last frame second now (R165).
DEDUCED, unsafe: log entry 21. The count does not stop at 256, which two streams of one server taken as one can pass.
DESIGN CHOICE, unsafe: log entry 46. -/
def State.takePicture (sender : Station) (rs : List PictureRecord) (x : Refresh) (taken : Nat) (s : State) : State :=
  (s.mergeAll rs).setRefresh
    (some { x with phase := .receiving sender s.now, taken := taken + rs.length })

/-- A PICTURE frame (R165). -/
def State.applyPicture (sender : Station) (active : StationSet) (index : Byte) (rs : List PictureRecord) (s : State) :
    State :=
  if inStations active s.own && !s.isOwn sender then
    match s.transfer.refresh with
    | none => s
    | some x =>
      match x.phase with
      | .waiting => if index == 0 then s.takePicture sender rs x 0 else s
      | .receiving server _ =>
        if server == sender then s.takePicture sender rs x (if index == 0 then 0 else x.taken) else s
  else s

/-- The completion of a refresh (R169). -/
def State.completeRefresh (count : Half) (taken : Nat) (s : State) : State :=
  (s.endRefresh.latch .pictureDone).latchIf (count.toNat != taken) .pictureDoubtful

/-- A PICTURE END frame (R165, R169). -/
def State.applyPictureEnd (sender : Station) (active : StationSet) (count : Half) (s : State) : State :=
  if inStations active s.own && !s.isOwn sender then
    match s.transfer.refresh with
    | none => s
    | some x =>
      match x.phase with
      | .waiting => if count == 0 then s.completeRefresh count 0 else s
      | .receiving server _ => if server == sender then s.completeRefresh count x.taken else s
  else s

/-! ### Failure (R170) -/

/-- A PICTURE REQUEST of this station has not yet completed on the bus. -/
def State.requestQueued (s : State) : Bool := s.tx.urgent.any fun t => t.frame == .pictureRequest

/-- A failure of the current attempt (R170). Back in WAITING, records taken keeps the count of the stream given up, until
a new stream is taken up. DESIGN CHOICE, unsafe: log entry 44. -/
def State.refreshFailed (x : Refresh) (s : State) : State :=
  if x.attempt == 1 then
    if s.requestQueued then
      s.setRefresh (some { x with phase := .waiting, attempt := 2, wait := s.now })
    else if s.hasRoom then
      (s.queue .pictureRequest).setRefresh (some { x with phase := .waiting, attempt := 2, wait := s.now })
    else s.setRefresh (some { x with phase := .waiting, attempt := 2, repeatOwed := true })
  else s.endRefresh.latch .pictureDoubtful

/-- The WAITING test; it is not made until an owed repeat is queued (R170). -/
def State.refreshWaitTest (s : State) : State :=
  match s.transfer.refresh with
  | none => s
  | some x =>
    match x.phase with
    | .waiting => if !x.repeatOwed && Config.refreshWait ≤ s.since x.wait then s.refreshFailed x else s
    | .receiving _ _ => s

/-- The RECEIVING test (R170). At attempt 2 it fails the refresh though the repeat request may still be owed.
DEDUCED, unsafe: log entry 37. -/
def State.refreshStallTest (s : State) : State :=
  match s.transfer.refresh with
  | none => s
  | some x =>
    match x.phase with
    | .waiting => s
    | .receiving _ last => if Config.refreshStall ≤ s.since last then s.refreshFailed x else s

/-- An owed repeat request is queued once the urgent queue has a place, and the wait second is set then (R170). -/
def State.repeatRequest (s : State) : State :=
  match s.transfer.refresh with
  | none => s
  | some x =>
    if x.repeatOwed && s.hasRoom then
      (s.queue .pictureRequest).setRefresh (some { x with repeatOwed := false, wait := s.now })
    else s

/-- A repeat request is owed. -/
def State.repeatOwed (s : State) : Bool := s.transfer.refresh.any fun x => x.repeatOwed

end Sys2Proof.Machine
end

