-- ==== Sys2Proof/Machine/Peers.lean ====
section
/-! DEFINITION. The peer table: tracking, loss, the application of a presence, duplicate station numbers, and the
console dark flag (chapter 10). -/

namespace Sys2Proof.Machine

def State.setPeer (t : Station) (r : PeerRecord) (s : State) : State :=
  if stationOk t then { s with peers := s.peers.set (t.toNat - 1) (some r) } else s

/-- A record as it is created: PRESENT, silence 0, not compared (R154). -/
def PeerRecord.created : PeerRecord :=
  { state := .present, silence := 0, info := none, mark := .none, digestMatch := .notCompared, millDiff := none,
    trouble := none }

/-- The silence count after a frame. A PRESENT peer at 3 is one the last second event has counted but not yet declared
LOST: the frame is then taken first, and the second event counts from 0 (R155). DEDUCED, safe: log entry 10. -/
def silenceAfter (r : PeerRecord) : Nat := if r.state == .present && r.silence == 3 then 1 else 0

/-- Every frame accepted from a peer tracks it (R154, R155). -/
def State.track (t : Station) (s : State) : State :=
  match s.peer t with
  | none => (s.setPeer t .created).latch .peerChange
  | some r =>
    (s.setPeer t { r with state := .present, silence := silenceAfter r }).latchIf (r.state == .lost) .peerChange

/-! ### Loss (R155) -/

/-- The silence count at a second event (R155). -/
def countSilence (r : PeerRecord) : PeerRecord :=
  if r.state == .present then { r with silence := min 3 (r.silence + 1) } else r

def State.countPeers (s : State) : State := { s with peers := s.peers.map (Option.map countSilence) }

/-- The sequence filter forgets a sender (R142). -/
def State.forgetSeq (t : Station) (s : State) : State :=
  if stationOk t then { s with bus := { s.bus with lastSeq := s.bus.lastSeq.set (t.toNat - 1) none } } else s

/-- A peer whose silence count is 3 is declared LOST, with its loss notices (R155). -/
def State.losePeer (t : Station) (s : State) : State :=
  match s.peer t with
  | none => s
  | some r =>
    if r.state == .present && r.silence == 3 then
      let s1 := (s.setPeer t { r with state := .lost, digestMatch := .notCompared, millDiff := none }).latch .peerChange
      (((s1.orphanAll t).bySecond (State.lossNotice t)).forgetSeq t).dropRequester t
    else s

/-! ### Presence (R156, R157, R160) -/

/-- The join-mark test: PRESENT before this presence, and last presence marked "no" (R157). -/
def restartedPeer (before : Option PeerRecord) (p : PresenceBody) : Bool :=
  p.joinMark && before.any fun r => r.state == .present && r.mark == .no

/-- The fields a presence replaces (R156). DEDUCED, safe: log entry 22. -/
def presenceInfo (p : PresenceBody) : PeerInfo :=
  { dark := p.dark, overdue := p.overdue, pictureValid := p.pictureValid, activeBadge := p.activeBadge,
    activeRank := p.activeRank, reliefBadge := p.reliefBadge, lineA := p.lineA, lineB := p.lineB, claims := p.claims }

/-- The record after a presence, from the record as tracked (R156, R157, R160). -/
def PeerRecord.withPresence (r : PeerRecord) (p : PresenceBody) (digest : Option Half) (millTime : Nat) : PeerRecord :=
  { r with
    info := some (presenceInfo p)
    mark := if p.joinMark then .yes else .no
    digestMatch := if digest == some p.digest then .yes else .no
    millDiff := some ((p.millTime.toNat : Int) - (millTime : Int))
    trouble := if anyReport p.reports then some p.reports else r.trouble }

/-- PEER_CHANGE for a dark flag that came or went (R156). -/
def darkChanged (r : PeerRecord) (p : PresenceBody) : Bool := p.dark != r.isDark

/-- PEER_TROUBLE cases at a rank-0 station (R156). -/
def troubleSeen (r : PeerRecord) (p : PresenceBody) : Bool :=
  (p.overdue && !(r.info.any fun i => i.overdue)) || anyReport p.reports ||
    match r.info with
    | some i => i.lineA != p.lineA || i.lineB != p.lineB
    | none => p.lineA != 0 || p.lineB != 0

/-- CONFIG_DIFFERS: the digests differ where the match was yes or not compared (R160). -/
def digestFlag (r : PeerRecord) (p : PresenceBody) (digest : Option Half) : Bool :=
  digest != some p.digest && r.digestMatch != .no

/-- A mill-time difference within 2 s. -/
def inStep (d : Int) : Bool := -2 ≤ d && d ≤ 2

/-- TIME_SKEW: above 2 s where the previous difference was absent or within 2 s (R160). -/
def skewFlag (r : PeerRecord) (p : PresenceBody) (millTime : Nat) : Bool :=
  !inStep ((p.millTime.toNat : Int) - (millTime : Int)) && r.millDiff.all inStep

/-- Step 1 of R156 on the record as tracked: the peer table takes in the frame. -/
def State.takePresence (t : Station) (p : PresenceBody) (restarted : Bool) (r : PeerRecord) (s : State) : State :=
  let s1 := s.setPeer t (r.withPresence p s.node.digest s.clock.millTime)
  let s2 := s1.latchIf (darkChanged r p) .peerChange
  let s3 := s2.latchIf (s.rankZero && troubleSeen r p) .peerTrouble
  let s4 := s3.latchIf (digestFlag r p s.node.digest) .configDiffers
  let s5 := s4.latchIf (skewFlag r p s.clock.millTime) .timeSkew
  if restarted then ((s5.latch .peerChange).orphanAll t).lossNotice t else s5

/-- A badge carried, leaving out badge 0, equals a local badge (R75). -/
def State.badgeClash (p : PresenceBody) (s : State) : Bool :=
  [p.activeBadge, p.reliefBadge].any fun b =>
    b != 0 && ((s.signOn.active.any fun o => o.badge == b) || (s.signOn.relief.any fun o => o.badge == b))

/-- A presence from a peer, which has been tracked; `before` is its record before that (R156). -/
def State.applyPresence (t : Station) (p : PresenceBody) (before : Option PeerRecord) (s : State) : State :=
  match s.peer t with
  | none => s
  | some r =>
    let s1 := s.takePresence t p (restartedPeer before p) r
    let s2 := s1.applyClaimList t p
    let s3 := if p.dark then s2.lossNotice t else s2
    s3.latchIf (s3.badgeClash p) .badgeTwice

/-! ### Duplicate station numbers (R159) -/

/-- An accepted frame that carries this station's own number (R159). -/
def State.duplicateSeen (s : State) : State :=
  match s.node.mode with
  | .joining => ({ s with node := { s.node with mode := .mute } }).latch .duplicateStation
  | .active => (s.latch .duplicateStation).setReport .duplicateSeen
  | .mute => s.latch .duplicateStation
  | .config => s
  | .ready => s

/-! ### The dark flag (R158) -/

/-- The dark flag falls due: clear, and 5 s or more since the last check-in (R158). -/
def State.darkDue (s : State) : Bool := !s.node.dark && Config.darkAfter ≤ s.since s.node.lastCheckIn

/-- Setting the dark flag hands on the own-dark notice (R158). -/
def State.goDark (s : State) : State :=
  if s.darkDue then (({ s with node := { s.node with dark := true } }) : State).bySecond State.ownDark else s

/-! ### The end of the listen (R149) -/

/-- The station leaves JOINING for ACTIVE, builds a marked presence and starts its refresh (R149, R161). The build of
R135 at the same second event comes last and replaces that presence. DESIGN CHOICE, unsafe: log entry 34. -/
def State.endListen (s : State) : State :=
  if s.node.mode == .joining && Config.listen ≤ s.since s.node.listenStart then
    (({ s with node := { s.node with mode := .active, activeSince := s.now } }) : State).buildPresence.startRefresh.buildPresence
  else s

end Sys2Proof.Machine
end

