-- ==== Sys2Proof/Machine/Bus.lean ====
section
/-! DEFINITION. The bus interface: the reception of a transmission (copies, sequence filter, peer tracking, the owning
block), and the attempt to send with its echo check, end and retry (chapter 9, R183). -/

namespace Sys2Proof.Machine

/-! ### The owning blocks (R141) -/

/-- A frame that completes on the bus is applied by the block that owns its kind: at a receiving station on acceptance,
at the sending station at the end of its attempt (R138, R141, R145). `before` is the sender's peer record before the
frame was tracked. -/
def State.applyFrame (sender : Station) (before : Option PeerRecord) (f : Frame) (s : State) : State :=
  match f with
  | .presence p => if s.isOwn sender then s.applyClaimList sender p else s.applyPresence sender p before
  | .alarmChange es => s.applyChanges sender es
  | .ack b es => s.applyAcks sender b es
  | .shelve id d b => s.applyShelve sender id d b
  | .unshelve id => s.applyUnshelve id
  | .claim r a n b => s.applyClaim (claimSourceOf r) (s.isOwn sender) false ⟨a.toNat, n, sender, b⟩
  | .take a n b => s.applyClaim .take (s.isOwn sender) false ⟨a.toNat, n, sender, b⟩
  | .offer n t b m xs => s.applyOffer sender n t b m xs
  | .answer o n d r b => s.applyAnswer sender o n d r b
  | .commit n i b es => s.applyCommit sender n i b es
  | .withdraw n t => s.applyWithdraw sender n t
  | .pictureRequest => s.applyPictureRequest sender
  | .picture m i rs => s.applyPicture sender m i rs
  | .pictureEnd m n => s.applyPictureEnd sender m n

/-! ### Receiving (R141 to R144) -/

/-- A good copy was delivered on at least one line. -/
def anyGood (rx : Rx) : Bool := rx.copyA == .good || rx.copyB == .good

/-- One line's part of a transmission that has a good copy: a good copy is counted, a bad one marks the line, and a line
without a copy is left (R141, R143, R144). -/
def State.lineDelivers (n : LineName) (c : Copy) (s : State) : State :=
  match c with
  | .good => s.goodCopyOn n
  | .bad => s.markLine n
  | .absent => s

/-- The last accepted sequence of a sender (R141). -/
def State.lastSeq (s : State) (t : Station) : Option Byte :=
  if stationOk t then s.bus.lastSeq.getD (t.toNat - 1) none else none

def State.noteSeq (t : Station) (n : Byte) (s : State) : State :=
  if stationOk t then { s with bus := { s.bus with lastSeq := s.bus.lastSeq.set (t.toNat - 1) (some n) } } else s

/-- A frame accepted by the sequence filter: this station's own number is evidence of a duplicate station; otherwise the
peer is tracked, and the owning block takes a well-formed body (R141, R159, R183). -/
def State.accepted (rx : Rx) (f : Option Frame) (s : State) : State :=
  if s.isOwn rx.sender then s.duplicateSeen
  else
    let s1 := s.track rx.sender
    match f with
    | some f => s1.applyFrame rx.sender (s.peer rx.sender) f
    | none => s1

/-- The station's own transmission reaches its receivers as echo alone (R138). DEDUCED, unsafe: log entry 23. -/
def State.isEcho (rx : Rx) (s : State) : Bool := s.isOwn rx.sender && s.bus.sending.isSome

/-- A transmission as the receivers settle it. In CONFIG and READY they are off. Without a good copy it is discarded and
marks no line. A good copy whose kind or sender is unknown counts for the lines alone; a repeated sequence is a
duplicate (R132, R141). `f`: the frame, or none for a malformed body. DESIGN CHOICE, safe: log entry 15. -/
def State.receive (rx : Rx) (known : Bool) (f : Option Frame) (s : State) : State :=
  if s.node.mode.receives && anyGood rx && !s.isEcho rx then
    let s1 := (s.lineDelivers .a rx.copyA).lineDelivers .b rx.copyB
    if known && stationOk rx.sender then
      if s1.lastSeq rx.sender == some rx.seq then s1
      else (s1.noteSeq rx.sender rx.seq).accepted rx f
    else s1
  else s

/-- A frame whose body is checked against the layout of its kind before the owning block takes it (R183). -/
def wellFormedFrame (f : Frame) : Option Frame := if frameFits f then some f else none

/-! ### Sending (R137 to R139) -/

/-- Slot `slot` has completed on a bus idle since the gap end: an ACTIVE station starts the frame it offers if that is
the slot of its wait (R137). DESIGN CHOICE, safe: log entry 16. -/
def State.access (slot : Nat) (s : State) : State :=
  if s.isActive && s.bus.sending.isNone then
    match s.offeredClass with
    | some c => if s.wait c == slot then s.startAttempt c else s
    | none => s
  else s

/-- The station stops driving a line. -/
def Sending.stop (x : Sending) (n : LineName) : Sending :=
  match n with
  | .a => { x with stoppedA := true }
  | .b => { x with stoppedB := true }

/-- It has stopped driving a line. -/
def Sending.stopped (x : Sending) (n : LineName) : Bool :=
  match n with
  | .a => x.stoppedA
  | .b => x.stoppedB

/-- A line fails the echo check while sending: it is no longer driven, it is marked, and an echo fault is reported
(R138, R143). -/
def State.echoFail (n : LineName) (s : State) : State :=
  match s.bus.sending with
  | none => s
  | some x =>
    if x.stopped n then s
    else
      ((({ s with bus := { s.bus with sending := some (x.stop n) } }) : State).markLine n).setReport .echoFault

/-- A failed attempt: counted, BUS_FAULT at the eighth in a row; a presence waiting beside a failed one takes its place
(R135, R138, R139). -/
def State.attemptFailed (x : Sending) (s : State) : State :=
  let s1 : State := { s with bus := { s.bus with sending := none, fails := min 8 (s.bus.fails + 1) } }
  let s2 := s1.latchIf (s.bus.fails == 7) .busFault
  if x.cls == .presence && s2.tx.nextPresence.isSome then
    { s2 with tx := { s2.tx with presence := s2.tx.nextPresence, nextPresence := none } }
  else s2

/-- The reports a completed presence carried are cleared, except those set again since it was built (R153). -/
def State.clearReports (p : PresenceTx) (s : State) : State :=
  match p.tx.frame with
  | .presence b =>
    { s with node := { s.node with reports := reportsAfter s.node.reports b.reports p.again } }
  | _ => s

/-- A frame that counts as sent frees its place (R134, R138). -/
def State.freePlace (c : TxClass) (s : State) : State :=
  match c with
  | .urgent => { s with tx := { s.tx with urgent := s.tx.urgent.tail } }
  | .change => { s with tx := { s.tx with changeFrame := none } }
  | .presence =>
    let s1 := match s.tx.presence with
      | some p => s.clearReports p
      | none => s
    { s1 with tx := { s1.tx with presence := s1.tx.nextPresence, nextPresence := none } }
  | .picture => { s with tx := { s.tx with pictureFrame := none } }

/-- A frame of the current stream counts as sent: the frame index rises, or its PICTURE END ends the stream (R163,
R164). -/
def State.streamSent (s : State) : State :=
  match s.tx.pictureFrame, s.transfer.serving with
  | some f, .streaming x =>
    if f.current then
      match f.tx.frame with
      | .pictureEnd _ _ => s.endStream
      | _ => s.setServing (.streaming { x with index := x.index + 1 })
    else s
  | _, _ => s

/-- An attempt that counts as sent: the frame is applied here, and its place is freed (R138). -/
def State.attemptSent (x : Sending) (s : State) : State :=
  let s1 : State := { s with bus := { s.bus with sending := none, fails := 0 } }
  let s2 := match s1.head x.cls with
    | some t => s1.applyFrame s1.own none t.frame
    | none => s1
  let s3 := if x.cls == .picture then s2.streamSent else s2
  s3.freePlace x.cls

/-- The end of an attempt: it fails if both lines were stopped, and counts as sent otherwise (R138). -/
def State.endAttempt (s : State) : State :=
  match s.bus.sending with
  | none => s
  | some x => if x.stoppedA && x.stoppedB then s.attemptFailed x else s.attemptSent x

end Sys2Proof.Machine
end

