-- ==== Sys2Proof/Machine/Second.lean ====
section
/-! DEFINITION. The shift calendar's instants and clock steps, and the second event with the work of every block that
falls at it (7, and each block's own rule). The manual does not order the work of different blocks at one second event
(R102), and the table gives each piece a row; what the rows leave undone is completed before the next second event. -/

namespace Sys2Proof.Machine

/-! ### The calendar (R108 to R111) -/

def State.setClock (f : Clock → Clock) (s : State) : State := { s with clock := f s.clock }

def State.setSecond (f : SecondWork → SecondWork) (s : State) : State := { s with second := f s.second }

/-- The shift number and the lead state recomputed from mill time; nothing is fired (R107, R111, R112). -/
def State.recompute (s : State) : State :=
  s.setClock fun c => { c with shift := c.pattern.shiftOf c.millTime, inLead := c.pattern.inLead c.millTime }

/-- The due instant: in lead, and HANDOVER_DUE with an operator seated (R109). -/
def State.reachDue (s : State) : State := (s.setClock fun c => { c with inLead := true }).latchIf s.seated .handoverDue

/-- The shift start: the new shift number, not in lead, and the start notice (R109). -/
def State.reachStart (s : State) : State :=
  (s.setClock fun c => { c with shift := c.pattern.shiftOf c.millTime, inLead := false }).startNotice

/-- The station is overdue (R110). -/
def State.isOverdue (s : State) : Bool := s.signOn.active.any (fun o => o.shift < s.clock.shift) && s.holdsAny

/-- The overdue test (R110). -/
def State.testOverdue (s : State) : State :=
  if s.isOverdue then (s.setClock fun c => { c with overdue := true }).latch .handoverOverdue else s

/-- The due instant of the last second event, if it is still to be taken. -/
def State.dueWork (s : State) : State :=
  if s.second.due then (s.setSecond fun w => { w with due := false }).reachDue else s

/-- The shift start of the last second event, after its due instant (R109). -/
def State.startWork (s : State) : State :=
  if s.dueWork.second.start then (s.dueWork.setSecond fun w => { w with start := false }).bySecond State.reachStart
  else s.dueWork

/-- The overdue instant of the last second event, after its due and start instants (R109). -/
def State.overdueWork (s : State) : State :=
  if s.startWork.second.overdue then (s.startWork.setSecond fun w => { w with overdue := false }).testOverdue
  else s.startWork

/-- The fire time that the last second event reached, if it is still to be taken (R129). -/
def State.scheduleWork (s : State) : State :=
  if s.second.schedule then (s.setSecond fun w => { w with schedule := false }).bySecond State.reachSchedule else s

/-- The calendar's and the schedule's work of the last second event. DESIGN CHOICE, unsafe: log entry 32. -/
def State.finishCalendar (s : State) : State := s.overdueWork.scheduleWork

/-- A forward step from `t0` to `t1`: each kind of instant crossed acts once, in the order due, start, overdue; then the
lead state is recomputed, and a fire time left behind is reached (R111, R129). -/
def State.forwardStep (t0 t1 : Nat) (s : State) : State :=
  let s1 : State := s.setClock fun c => { c with millTime := t1 }
  let p := s1.clock.pattern
  let s2 := s1.latchIf (p.crossesDue t0 t1 && s1.seated) .handoverDue
  let s3 := if p.crossesStart t0 t1 then
      (s2.setClock fun c => { c with shift := c.pattern.shiftOf t1 }).startNotice else s2
  let s4 := if p.crossesOverdue t0 t1 then s3.testOverdue else s3
  (s4.setClock fun c => { c with inLead := c.pattern.inLead t1 }).reachSchedule

/-- A backward step fires nothing and keeps the overdue flag (R111). -/
def State.backwardStep (t1 : Nat) (s : State) : State := (s.setClock fun c => { c with millTime := t1 }).recompute

/-- Mill time set to a new value (R105, R111). The calendar's own work of the last second event comes first. -/
def State.stepClock (t : Nat) (s : State) : State :=
  let s1 := s.finishCalendar
  if s1.clock.millTime < t then s1.forwardStep s1.clock.millTime t
  else if t < s1.clock.millTime then s1.backwardStep t
  else s1

/-! ### The work of the last second event, row by row -/

/-- Shelves that have run out (R34). -/
def State.shelfWork (s : State) : State :=
  if s.second.shelf then (s.setSecond fun w => { w with shelf := false }).expireShelves else s

/-- Response deadlines that have passed (R35). -/
def State.deadlineWork (s : State) : State :=
  if s.second.deadline then (s.setSecond fun w => { w with deadline := false }).testDeadlines else s

/-- An owed picture request (R170). -/
def State.repeatWork (s : State) : State :=
  if s.second.repeatWork then (s.setSecond fun w => { w with repeatWork := false }).repeatRequest else s

/-- The line supervisor's work (R143, R144). -/
def State.lineWork (s : State) : State := (((s.silenceLine .a).silenceLine .b).recoverLine .a).recoverLine .b

/-- Every peer whose silence count has reached 3 (R155). -/
def State.peerWork (s : State) : State :=
  (List.range 16).foldl (fun s i => s.losePeer (BitVec.ofNat 8 (i + 1))) s

/-- Every orphan grace that has run out (R97). Where the urgent queue has fewer free places than this station has takeover
claims to queue, the areas take them in ascending order. DESIGN CHOICE, unsafe: log entry 49. -/
def State.graceWork (s : State) : State := (List.range 32).foldl (fun s a => s.graceRunOut a) s

/-- The handover controller's timers and its scheduled offer (R122, R129). -/
def State.offerWork (s : State) : State := s.offerTimer.decisionTimer.commitTimer.fireSchedule

/-- The requesting side's tests (R170). -/
def State.refreshWork (s : State) : State := s.refreshWaitTest.refreshStallTest.repeatWork

/-- The re-badge claims that still wait, built while places are free (R127). DESIGN CHOICE, safe: log entry 20. -/
def State.rebadgeWork (s : State) : State := State.rebadgeMany Config.urgentCapacity s

/-- All that is left of the last second event's work, in an order of the model's (DESIGN CHOICE, unsafe: log entry 3). The
re-badge claims left over are built here, one for each free place (DESIGN CHOICE, safe: log entry 20). -/
def State.finishSecond (s : State) : State :=
  s.finishCalendar.lineWork.peerWork.goDark.endListen.graceWork.offerWork.refreshWork.rebadgeWork.shelfWork.deadlineWork

/-! ### The second event (R102 to R104) -/

/-- The length of a second that begins at a trim phase (R102, R106). -/
def secondLength (trim : Int) (phase : Nat) : Int := if phase = 15 then 32768 - trim else 32768

/-- Mill time, station-seconds and the trim phase advance (R102, R103, R104). -/
def Clock.advance (c : Clock) : Clock :=
  { c with
    millTime := if c.millTime < Config.lastMillTime then c.millTime + 1 else 0
    now := c.now + 1
    phase := (c.phase + 1) % 16
    secondPeriods := secondLength c.trim ((c.phase + 1) % 16) }

/-- The instants that a second event reaches are marked; the wrap of 2099 is a backward step (R104, R109). -/
def State.markInstants (s : State) : State :=
  if s.clock.millTime = 0 then s.recompute
  else
    s.setSecond fun w =>
      { w with
        due := s.clock.pattern.isDue s.clock.millTime
        start := s.clock.pattern.isStart s.clock.millTime
        overdue := s.clock.pattern.isOverdue s.clock.millTime }

/-- The tests that this second event owes (R34, R35, R129, R170). -/
def State.markTests (s : State) : State :=
  s.setSecond fun w =>
    { w with shelf := true, deadline := true, schedule := s.fireTimeCome, repeatWork := s.repeatOwed }

/-- The presence of this second event, while ACTIVE. Where the dark flag falls due at the same second event, a free
choice says whether it is set before the build (R135, R158). DESIGN CHOICE, safe: log entry 5. -/
def State.presenceWork (s : State) : State :=
  if s.isActive then
    if s.darkDue then
      let s1 : State := { s with freeCount := s.freeCount + 1 }
      (if Config.darkBeforePresence s.freeCount then s1.goDark else s1).buildPresence
    else s.buildPresence
  else s

/-- The second that begins: the clock advances, and every count and test of this second event is taken or marked.
DESIGN CHOICE, unsafe: log entry 6. -/
def State.beginSecond (s : State) : State :=
  (((s.setClock Clock.advance).markInstants.decayAll.countPeers.countLines).markTests).presenceWork

/-- The second event (R102): what is left of the last one's work, then this one. -/
def State.secondEvent (s : State) : State := s.finishSecond.beginSecond

end Sys2Proof.Machine
end

