-- ==== Sys2Proof/Machine/Resets.lean ====
section
/-! DEFINITION. The resets and the console port's own commands: POWER_ON_RESET, RESET_N, PART_START,
DISCARDED_TRANSACTION, BUSY_PERIOD_END, UNKNOWN_REQUEST, NOP and RESTART (chapter 12, and each chapter's "State after
reset"). -/

namespace Sys2Proof.Machine

/-- A command that has only a next state. -/
abbrev Done := Host.Outcome State Fault Refusal

/-- The state a power-on reset or RESET_N leaves; the commands that still wait are not part of the block (R181). -/
def State.hardReset (s : State) : State := { State.reset with pending := s.pending, freeCount := s.freeCount }

def execPowerOnReset (s : State) : Done := .next s.hardReset

def execResetN (s : State) : Done := .next s.hardReset

/-- The part starts: from now on the port listens and the pins are driven (R181). -/
def execPartStart (s : State) : Done := .next { s with port := { s.port with started := true } }

/-- A discarded transaction changes no state, whatever its cause (R172). -/
def execDiscardedTransaction (_cause : DiscardCause) (s : State) : Done := .next s

/-- R173. -/
def execBusyPeriodEnd (s : State) : Done := .next { s with port := { s.port with busy := false } }

/-- R172. -/
def ruleUnknown (s : State) : Reply := .refuse s .badValue

def execUnknownRequest (code : Byte) (s : State) : Done := .next (request code ruleUnknown s)

/-- R175. -/
def ruleNop (s : State) : Reply := .ok s

def execNop (s : State) : Done := .next (request 0x01 ruleNop s)

/-! ### RESTART (R150) -/

/-- What RESTART keeps of an area: its configuration (R65, R101). -/
def Area.restarted (r : Area) : Area := { Area.initial with config := r.config }

/-- The station goes to READY, and from CONFIG stays in CONFIG (R150). -/
def Mode.restarted : Mode → Mode
  | .config => .config
  | .ready => .ready
  | .joining => .ready
  | .active => .ready
  | .mute => .ready

/-- R150: number, gap and digest are kept (R133, R160). -/
def Node.restarted (n : Node) : Node :=
  { Node.initial with mode := n.mode.restarted, number := n.number, gap := n.gap, digest := n.digest }

/-- R112: mill time, trim and pattern are kept, shift number and lead state recomputed. -/
def Clock.restarted (c : Clock) : Clock :=
  { Clock.initial with
    millTime := c.millTime, trim := c.trim, pattern := c.pattern
    shift := c.pattern.shiftOf c.millTime, inLead := c.pattern.inLead c.millTime }

/-- R175, R181: RESTART's own OK, number 0, in a busy period it opened; every flag clear. -/
def Port.restarted : Port :=
  { started := true, busy := true, answer := { result := .ok, number := 0, request := 0x0B, body := .empty }
    counter := 0, attention := 0 }

/-- Every block takes the state its chapter gives for RESTART. -/
def State.restarted (s : State) : State :=
  { State.reset with
    node := s.node.restarted
    areas := s.areas.map Area.restarted
    clock := s.clock.restarted
    port := Port.restarted
    freeCount := s.freeCount
    pending := s.pending }

def execRestart (s : State) : Done := .next (if s.portOpen then s.restarted else s)

end Sys2Proof.Machine
end

