-- ==== Sys2Proof/Machine/Reads.lean ====
section
/-! DEFINITION. The requests that read: READ STATUS, READ ATTENTION, READ PEER, READ AREA, READ ALARM, READ LIST, READ
WINDOW and READ HANDOVER. Each is accepted in every station state. -/

namespace Sys2Proof.Machine

/-! ### READ STATUS (R82, R171, R179) -/

/-- A sign-on slot as READ STATUS returns it (R82). -/
def State.slotReport (s : State) (o : Operator) : SlotReport :=
  { badge := o.badge, rank := o.rank, acting := o.acting, qualified := o.qualified, age := s.since o.since,
    shift := o.shift, longWatch := s.longWatch o }

/-- The sizes of the serving side's active and staged sets (R171). -/
def State.servingSizes (s : State) : Nat × Nat :=
  match s.transfer.serving with
  | .idle => (0, 0)
  | .streaming x => (stationCount x.active, stationCount x.staged)

/-- The items of READ STATUS (R179). The horn's pattern stands beside its state only while it is SOUNDING, with the half
second of the cadence as State holds it. DESIGN CHOICE, unsafe: log entry 48. Beside the requesting state RECEIVING stand
its serving station and last frame second, beside a DISTURBED line's state its fault second, and beside a FLASHING lamp's
the half of its cycle; none of them is an item of the answer. DESIGN CHOICE, unsafe: log entry 51. -/
def State.statusReport (s : State) : StatusReport :=
  { mode := s.node.mode, number := s.node.number, gap := s.node.gap, dark := s.node.dark
    sinceCheckIn := s.since s.node.lastCheckIn, digest := s.node.digest
    millTime := s.clock.millTime, now := s.now, trim := s.clock.trim, pattern := s.clock.pattern
    shift := s.clock.shift, inLead := s.clock.inLead, overdue := s.clock.overdue
    nextStart := s.clock.pattern.nextStart s.clock.millTime
    active := s.signOn.active.map s.slotReport, relief := s.signOn.relief.map s.slotReport
    activeStepRank := s.signOn.active.map Operator.stepOne
    listLength := s.picture.list.length, lastStale := s.picture.lastStale
    horn := s.picture.horn, lamp := s.picture.lamp
    heldSet := s.heldSet, lastLost := s.lastLost
    urgentFree := s.urgentFree, changeFree := Config.changeCapacity - s.tx.change.length
    lineA := s.bus.lineA.state, quietA := s.bus.lineA.quiet, lineB := s.bus.lineB.state, quietB := s.bus.lineB.quiet
    fails := s.bus.fails
    pictureValid := s.transfer.valid, refreshPhase := s.transfer.refresh.map Refresh.phase
    attempt := (s.transfer.refresh.map Refresh.attempt).getD 0
    taken := (s.transfer.refresh.map Refresh.taken).getD 0
    pendingCount := s.transfer.pendingEvents.length
    streaming := s.transfer.serving != .idle
    activeSize := s.servingSizes.1, stagedSize := s.servingSizes.2 }

def ruleReadStatus (s : State) : Reply := .ok s (.status s.statusReport)

def execReadStatus (s : State) : Done := .next (request 0x02 ruleReadStatus s)

/-! ### READ ATTENTION (R178) -/

/-- The flags that are set are taken into the answer and cleared, and no other (R178). -/
def ruleReadAttention (s : State) : Reply :=
  .ok { s with port := { s.port with attention := 0 } } (.bytes (bytes3 s.port.attention))

def execReadAttention (s : State) : Done := .next (request 0x03 ruleReadAttention s)

/-! ### READ PEER (R154) -/

def ruleReadPeer (station : Byte) (s : State) : Reply :=
  if stationOk station then
    match s.peer station with
    | none => .refuse s .notFound
    | some r => .ok s (.peer station r)
  else .refuse s .badValue

def execReadPeer (station : Byte) (s : State) : Done := .next (request 0x04 (ruleReadPeer station) s)

/-! ### READ AREA (R100) -/

/-- The orphan age of an area, while it is ORPHANED. -/
def State.orphanAge (s : State) (a : Nat) : Option Nat :=
  match (s.area a).hold with
  | .orphaned _ _ since _ => some (s.since since)
  | .unheld => none
  | .held _ _ => none

/-- The items of READ AREA (R100). Beside the orphan age and the grace of an ORPHANED area stands its orphan since, which is
no item of the answer. DESIGN CHOICE, unsafe: log entry 51. -/
def State.areaReport (s : State) (a : Nat) : AreaReport :=
  { config := (s.area a).config, hold := (s.area a).hold, orphanAge := s.orphanAge a, serial := (s.area a).serial
    inFlight := s.inFlight a, load := (s.area a).load, flood := (s.area a).flood }

def ruleReadArea (area : Byte) (s : State) : Reply :=
  if areaOk area then .ok s (.area (s.areaReport area.toNat)) else .refuse s .badValue

def execReadArea (area : Byte) (s : State) : Done := .next (request 0x05 (ruleReadArea area) s)

/-! ### READ ALARM and READ LIST (R18, R19) -/

def ruleReadAlarm (id : AlarmId) (s : State) : Reply :=
  if idOk id then
    match findRecord id s.picture.list with
    | none => .refuse s .notFound
    | some r => .ok s (.bytes (alarmBytes s.now (positionOf id s.picture.list) r))
  else .refuse s .badValue

def execReadAlarm (area : Byte) (point : Half) (s : State) : Done :=
  .next (request 0x06 (ruleReadAlarm ⟨area, point⟩) s)

def ruleReadList (start : Half) (s : State) : Reply :=
  if start.toNat ≤ 255 then .ok s (.bytes (listBytes s.now start.toNat s.picture.list)) else .refuse s .badValue

def execReadList (start : Half) (s : State) : Done := .next (request 0x07 (ruleReadList start) s)

/-! ### READ WINDOW (R51) -/

/-- The window as it stands; the window-changed indicator is cleared (R51). -/
def ruleReadWindow (s : State) : Reply :=
  .ok { s with window := { s.window with changed := false } } (.bytes s.windowBytes)

def execReadWindow (s : State) : Done := .next (request 0x08 ruleReadWindow s)

/-! ### READ HANDOVER (R130) -/

/-- The offer of the incoming side, in PRESENTED or ANSWERED. -/
def Incoming.offer : Incoming → Option InOffer
  | .idle => none
  | .presented o => some o
  | .answered o _ => some o

def State.outgoingAge (s : State) : Option Nat :=
  match s.handover.outgoing with
  | .idle => none
  | .offered o => some (s.since o.start)
  | .committing o => some (s.since o.start)

/-- The remaining seconds of the decision window or the commit wait. -/
def State.incomingLeft (s : State) : Option Nat :=
  match s.handover.incoming with
  | .idle => none
  | .presented o => some (Config.decisionWindow - s.since o.start)
  | .answered _ t => some (Config.commitWait - s.since t)

def State.handoverReport (s : State) : HandoverReport :=
  { outgoing := s.handover.outgoing, outgoingAge := s.outgoingAge
    incoming := s.handover.incoming, remaining := s.incomingLeft
    floods := ((s.handover.incoming.offer.map fun o => areaList o.areas).getD []).map fun a => (a, s.inFlood a)
    scheduled := s.handover.scheduled, counter := s.handover.counter
    lastOut := s.handover.lastOut, lastIn := s.handover.lastIn, fireResult := s.handover.fireResult }

def ruleReadHandover (s : State) : Reply := .ok s (.handover s.handoverReport)

def execReadHandover (s : State) : Done := .next (request 0x09 ruleReadHandover s)

end Sys2Proof.Machine
end

