-- ==== Sys2Proof/Machine/Setup.lean ====
section
/-! DEFINITION. The requests that set the station up and its clock: SET STATION, SET AREA, SET SHIFT PATTERN, SET CLOCK,
SET TRIM and JOIN (chapters 6, 7, 9 and 10). -/

namespace Sys2Proof.Machine

/-- A test of the station state that a request makes first. -/
def State.modeIs (s : State) (m : Mode) : Bool := s.node.mode == m

/-! ### SET STATION (R133) -/

def ruleSetStation (number gap : Byte) (s : State) : Reply :=
  checked [(!s.modeIs .config, .badState), (!stationOk number || 3 < gap.toNat, .badValue)]
    (fun s => .ok { s with node := { s.node with number := some number, gap := BitVec.ofNat 2 gap.toNat } }) s

def execSetStation (number gap : Byte) (s : State) : Done := .next (request 0x10 (ruleSetStation number gap) s)

/-! ### SET AREA (R54, R55, R85) -/

/-- The configured value is 00h without settings or 01h with settings. DEDUCED, safe: log entry 33. -/
def areaValueOk (configured : Byte) (settings : Option AreaSettings) : Bool :=
  match settings with
  | none => configured == 0x00
  | some _ => configured == 0x01

/-- A record reconfigured: the hold fields are not touched, and an unconfigured area has load 0 and NORMAL (R55). -/
def Area.configure (c : Option AreaConfig) (r : Area) : Area :=
  match c with
  | some c => { r with config := some c }
  | none => { r with config := none, load := 0, flood := false }

def ruleSetArea (area configured : Byte) (settings : Option AreaSettings) (s : State) : Reply :=
  checked [(!s.modeIs .config, .badState),
      (!areaOk area || !areaValueOk configured settings, .badValue),
      (settings.any (fun c => !settingsValid c), .badValue)]
    (fun s =>
      let stored := settings.map storedConfig
      .ok (s.setArea area.toNat ((s.area area.toNat).configure stored)) (.areaConfig stored)) s

def execSetArea (area configured : Byte) (settings : Option AreaSettings) (s : State) : Done :=
  .next (request 0x11 (ruleSetArea area configured settings) s)

/-! ### SET SHIFT PATTERN (R107) -/

def ruleSetShiftPattern (perDay : Byte) (firstStart : Half) (lead grace : Byte) (s : State) : Reply :=
  checked [(!s.modeIs .config, .badState),
      (perDay.toNat < 1 || 4 < perDay.toNat || 1439 < firstStart.toNat, .badValue)]
    (fun s =>
      let p : ShiftPattern := ⟨perDay.toNat, firstStart.toNat, clampLead lead, clampLead grace⟩
      let s1 := (s.finishCalendar.setClock fun c => { c with pattern := p }).recompute
      .ok s1 (.pattern p s1.clock.shift)) s

def execSetShiftPattern (perDay : Byte) (firstStart : Half) (lead grace : Byte) (s : State) : Done :=
  .next (request 0x12 (ruleSetShiftPattern perDay firstStart lead grace) s)

/-! ### SET CLOCK (R105, R111) -/

/-- SET CLOCK is refused in JOINING and MUTE (R105). -/
def clockSettable : Mode → Bool
  | .config => true
  | .ready => true
  | .active => true
  | .joining => false
  | .mute => false

/-- The clock action: step 1 of R76 gives 0 for the active operator (R79). -/
def State.clockPermitted (s : State) : Bool := s.signOn.active.any fun o => o.stepOne == 0

def ruleSetClock (millTime : Quad) (s : State) : Reply :=
  checked [(!clockSettable s.node.mode, .badState),
      (Config.lastMillTime < millTime.toNat, .badValue),
      (s.isActive && !s.seated, .notSignedOn),
      (s.isActive && !s.clockPermitted, .notPermitted)]
    (fun s =>
      let s1 := s.stepClock millTime.toNat
      .ok s1 (.clock s1.clock.millTime s1.clock.shift)) s

def execSetClock (millTime : Quad) (s : State) : Done := .next (request 0x13 (ruleSetClock millTime) s)

/-! ### SET TRIM (R106) -/

def ruleSetTrim (trim : Byte) (s : State) : Reply :=
  .ok (s.setClock fun c => { c with trim := clampTrim trim }) (.trim (clampTrim trim))

def execSetTrim (trim : Byte) (s : State) : Done := .next (request 0x0A (ruleSetTrim trim) s)

/-! ### JOIN (R148) -/

/-- The digest JOIN leaves: formed from CONFIG, kept from READY (R148, R160). -/
def State.joinDigest (s : State) : Option Half := if s.modeIs .config then some s.formDigest else s.node.digest

def ruleJoin (s : State) : Reply :=
  checked [(!s.modeIs .config && !s.modeIs .ready, .badState),
      (s.node.number.isNone || !((List.range 32).any s.configured), .badValue)]
    (fun s =>
      .ok { s with node := { s.node with mode := .joining, digest := s.joinDigest, listenStart := s.now } }
        (.digest s.joinDigest)) s

def execJoin (s : State) : Done := .next (request 0x14 ruleJoin s)

end Sys2Proof.Machine
end

