-- ==== Sys2Proof/Machine/SignOn.lean ====
section
/-! DEFINITION. The requests on the sign-on table: SIGN ON, SIGN ON RELIEF, SIGN OFF for either slot, and SET ACTING
RANK (chapter 5). -/

namespace Sys2Proof.Machine

/-- Not ACTIVE: the first check of every request that does its work in ACTIVE (R176). -/
def State.inactive (s : State) : Bool := !s.isActive

/-- A badge seated at a PRESENT peer, as its last presence announced (R68). -/
def peerSeats (b : Badge) (r : PeerRecord) : Bool :=
  r.state == .present && r.info.any fun i => i.activeBadge == b || i.reliefBadge == b

/-- The badge test refuses a badge already seated in the room (R68). -/
def State.badgeTaken (b : Badge) (s : State) : Bool :=
  (s.signOn.active.any fun o => o.badge == b) || (s.signOn.relief.any fun o => o.badge == b) ||
    s.peers.any fun p => p.any (peerSeats b)

/-- The record of an operator who signs on (R67). -/
def State.newOperator (badge : Badge) (rank : Byte) (qualified : AreaSet) (s : State) : Operator :=
  { badge := badge, rank := rank.toNat, qualified := qualified, acting := none, since := s.now, shift := s.signedShift }

/-! ### SIGN ON (R67) -/

def ruleSignOn (badge : Badge) (rank : Byte) (qualified : AreaSet) (s : State) : Reply :=
  checked [(s.inactive, .badState), (badge == 0 || 3 < rank.toNat, .badValue), (s.seated, .occupied),
      (s.badgeTaken badge, .badgeInUse)]
    (fun s =>
      let s1 : State := { s with signOn := { s.signOn with active := some (s.newOperator badge rank qualified) } }
      .ok s1.activeChanged (.signedShift s.signedShift)) s

def execSignOn (badge : Badge) (rank : Byte) (qualified : AreaSet) (s : State) : Done :=
  .next (request 0x20 (ruleSignOn badge rank qualified) s)

/-! ### SIGN ON RELIEF (R69) -/

def ruleSignOnRelief (badge : Badge) (rank : Byte) (qualified : AreaSet) (s : State) : Reply :=
  checked [(s.inactive, .badState), (badge == 0 || 3 < rank.toNat, .badValue),
      (!s.seated || s.signOn.relief.isSome, .occupied), (s.badgeTaken badge, .badgeInUse)]
    (fun s =>
      .ok { s with signOn := { s.signOn with relief := some (s.newOperator badge rank qualified) } }
        (.signedShift s.signedShift)) s

def execSignOnRelief (badge : Badge) (rank : Byte) (qualified : AreaSet) (s : State) : Done :=
  .next (request 0x21 (ruleSignOnRelief badge rank qualified) s)

/-! ### SIGN OFF (R70, R71, R125) -/

/-- The incoming offer is ANSWERED. -/
def State.inAnswered (s : State) : Bool :=
  match s.handover.incoming with
  | .answered _ _ => true
  | .idle => false
  | .presented _ => false

def ruleSignOffActive (s : State) : Reply :=
  checked [(s.inactive, .badState), (!s.seated, .notSignedOn), (s.holdsAny, .holding), (s.claimsQueued, .holding),
      (s.inAnswered, .holding), (!s.outIdle, .handoverBusy)]
    (fun s =>
      let s1 : State := { s with signOn := { s.signOn with active := none } }
      .ok s1.activeChanged.operatorGone) s

def execSignOffActive (s : State) : Done := .next (request 0x22 ruleSignOffActive s)

def ruleSignOffRelief (slot : Byte) (s : State) : Reply :=
  checked [(s.inactive, .badState), (slot != 0x01, .badValue), (s.signOn.relief.isNone, .notSignedOn)]
    (fun s => .ok (({ s with signOn := { s.signOn with relief := none } }) : State).reliefGone) s

def execSignOffRelief (slot : Byte) (s : State) : Done := .next (request 0x22 (ruleSignOffRelief slot) s)

/-! ### SET ACTING RANK (R73) -/

/-- The record of a slot: 00h active, 01h relief. -/
def State.slot (slot : Byte) (s : State) : Option Operator := if slot = 0x00 then s.signOn.active else s.signOn.relief

def State.setSlot (slot : Byte) (o : Operator) (s : State) : State :=
  if slot = 0x00 then { s with signOn := { s.signOn with active := some o } }
  else { s with signOn := { s.signOn with relief := some o } }

/-- FFh is "remove" (R182). -/
def actingOf (rank : Byte) : Option Nat := if rank = 0xFF then none else some rank.toNat

def ruleSetActingRank (slot rank : Byte) (s : State) : Reply :=
  checked [(s.inactive, .badState), (1 < slot.toNat || (3 < rank.toNat && rank != 0xFF), .badValue)]
    (fun s =>
      match s.slot slot with
      | none => .refuse s .notSignedOn
      | some o =>
        let o1 := { o with acting := actingOf rank }
        .ok (s.setSlot slot o1) (.rank o1.stepOne)) s

def execSetActingRank (slot rank : Byte) (s : State) : Done := .next (request 0x23 (ruleSetActingRank slot rank) s)

end Sys2Proof.Machine
end

