-- ==== Sys2Proof/Machine/AlarmRequests.lean ====
section
/-! DEFINITION. The requests on alarms: POST RAISE, POST CLEAR, ACKNOWLEDGE, ACKNOWLEDGE AREA, SHELVE, UNSHELVE and
SILENCE HORN (chapters 1 and 2). -/

namespace Sys2Proof.Machine

/-! ### POST RAISE and POST CLEAR (R11, R12) -/

/-- This station is the configured feed station of an area. -/
def State.isFeed (s : State) (a : Nat) : Bool :=
  match (s.area a).config with
  | some c => s.isOwn c.feed
  | none => false

/-- The change queue holds 32 entries. -/
def State.changeFull (s : State) : Bool := Config.changeCapacity ≤ s.tx.change.length

/-- An entry at the tail of the change queue, answered with the places still free (R11). -/
def State.post (e : ChangeEntry) (s : State) : Reply :=
  .ok { s with tx := { s.tx with change := s.tx.change ++ [e] } }
    (.places (Config.changeCapacity - (s.tx.change.length + 1)))

/-- R11: the raise time is the station's mill time at acceptance. -/
def raiseEntry (s : State) (id : AlarmId) (priority : Byte) : ChangeEntry :=
  ⟨0x01, id, priority, BitVec.ofNat 32 s.clock.millTime⟩

/-- R182: in a clear entry the priority and raise time are 0. -/
def clearEntry (id : AlarmId) : ChangeEntry := ⟨0x02, id, 0, 0⟩

def rulePostRaise (id : AlarmId) (priority : Byte) (s : State) : Reply :=
  checked [(s.inactive, .badState), (!idOk id || (priorityOf priority.toNat).isNone, .badValue),
      (!s.isFeed id.area.toNat, .notFeed), (s.changeFull, .queueFull)]
    (fun s => s.post (raiseEntry s id priority)) s

def execPostRaise (area : Byte) (point : Half) (priority : Byte) (s : State) : Done :=
  .next (request 0x30 (rulePostRaise ⟨area, point⟩ priority) s)

def rulePostClear (id : AlarmId) (s : State) : Reply :=
  checked [(s.inactive, .badState), (!idOk id, .badValue), (!s.isFeed id.area.toNat, .notFeed),
      (s.changeFull, .queueFull)]
    (fun s => s.post (clearEntry id)) s

def execPostClear (area : Byte) (point : Half) (s : State) : Done :=
  .next (request 0x31 (rulePostClear ⟨area, point⟩) s)

/-! ### ACKNOWLEDGE (R21, R22) -/

/-- R21, checks 6 and 8, then a built frame at the tail of the urgent queue. -/
def State.sendPermitted (act : Action) (area : Nat) (f : Frame) (b : AnswerBody) (s : State) : Reply :=
  checked [(!s.permitted act area, .notPermitted), (!s.hasRoom, .queueFull)] (fun s => .ok (s.queue f) b) s

def ruleAcknowledge (id : AlarmId) (occurrence : Byte) (s : State) : Reply :=
  checked [(s.inactive, .badState), (!idOk id || occurrence == 0, .badValue), (!s.seated, .notSignedOn)]
    (fun s =>
      match findRecord id s.picture.list with
      | none => .refuse s .notFound
      | some r =>
        if r.handling.isUnack then
          s.sendPermitted .acknowledge id.area.toNat (.ack s.activeBadge [⟨id, occurrence⟩]) (.covered 1)
        else .ok s (.covered 0)) s

def execAcknowledge (area : Byte) (point : Half) (occurrence : Byte) (s : State) : Done :=
  .next (request 0x32 (ruleAcknowledge ⟨area, point⟩ occurrence) s)

/-! ### ACKNOWLEDGE AREA (R23, R24) -/

/-- The entries collected from an area: its UNACK records in list order, each at its current occurrence (R24). -/
def State.collect (area : Byte) (s : State) : List AckEntry :=
  (s.picture.list.filter fun r => r.id.area == area && r.handling.isUnack).map fun r => ⟨r.id, r.occurrence⟩

/-- Frames of up to eight entries each, at most `n` of them (R24). -/
def ackFrames (badge : Badge) : Nat → List AckEntry → List Frame
  | 0, _ => []
  | _ + 1, [] => []
  | n + 1, e :: rest => .ack badge ((e :: rest).take 8) :: ackFrames badge n ((e :: rest).drop 8)

/-- The number of collected records that the free places cover (R24). -/
def coveredCount (places collected : Nat) : Nat := min collected (8 * places)

def State.queueAll (fs : List Frame) (s : State) : State := fs.foldl (fun s f => s.queue f) s

/-- R24. -/
def State.acknowledgeAll (area : Byte) (s : State) : Reply :=
  let es := s.collect area
  .ok (s.queueAll (ackFrames s.activeBadge s.urgentFree es))
    (.coveredLeft (coveredCount s.urgentFree es.length) (es.length - coveredCount s.urgentFree es.length))

/-- The chosen area: the one given, or the focus area if it is omitted (R23). -/
def State.chosenArea (area : Byte) (s : State) : Except ResultCode Byte :=
  if omittedArea area then
    match s.window.focus with
    | some a => .ok a
    | none => .error .noArea
  else if areaOk area then .ok area
  else .error .badValue

def ruleAcknowledgeArea (area : Byte) (s : State) : Reply :=
  checked [(s.inactive, .badState)]
    (fun s =>
      match s.chosenArea area with
      | .error c => .refuse s c
      | .ok a =>
        checked [(!s.seated, .notSignedOn), (!s.permitted .acknowledge a.toNat, .notPermitted)]
          (fun s => s.acknowledgeAll a) s) s

def execAcknowledgeArea (area : Byte) (s : State) : Done := .next (request 0x33 (ruleAcknowledgeArea area) s)

/-! ### SHELVE (R21, R30) -/

/-- The shelve limit test (R30). -/
def State.shelfFull (id : AlarmId) (s : State) : Bool :=
  s.shelveLimit id.area ≤ shelvedCount id.area id s.picture.list

def ruleShelve (id : AlarmId) (minutes : Half) (s : State) : Reply :=
  checked [(s.inactive, .badState), (!idOk id, .badValue), (!s.seated, .notSignedOn),
      ((findRecord id s.picture.list).isNone, .notFound), (!s.permitted .shelve id.area.toNat, .notPermitted),
      (s.shelfFull id, .shelfFull), (!s.hasRoom, .queueFull)]
    (fun s => .ok (s.queue (.shelve id (clampMinutes minutes) s.activeBadge))) s

def execShelve (area : Byte) (point : Half) (minutes : Half) (s : State) : Done :=
  .next (request 0x35 (ruleShelve ⟨area, point⟩ minutes) s)

/-! ### UNSHELVE (R21, R32) -/

def ruleUnshelve (id : AlarmId) (s : State) : Reply :=
  checked [(s.inactive, .badState), (!idOk id, .badValue), (!s.seated, .notSignedOn)]
    (fun s =>
      match findRecord id s.picture.list with
      | none => .refuse s .notFound
      | some r =>
        if r.handling.isShelved then s.sendPermitted .shelve id.area.toNat (.unshelve id) (.covered 1)
        else .ok s (.covered 0)) s

def execUnshelve (area : Byte) (point : Half) (s : State) : Done :=
  .next (request 0x36 (ruleUnshelve ⟨area, point⟩) s)

/-! ### SILENCE HORN (R27, R28) -/

/-- R27. -/
def Horn.silence : Horn → Horn
  | .quiet => .quiet
  | .sounding _ _ => .silenced
  | .silenced => .silenced

def ruleSilenceHorn (s : State) : Reply :=
  checked [(s.inactive, .badState), (!s.seated, .notSignedOn)]
    (fun s =>
      .ok { s with picture := { s.picture with horn := s.picture.horn.silence } } (.horn s.picture.horn.silence)) s

def execSilenceHorn (s : State) : Done := .next (request 0x37 ruleSilenceHorn s)

end Sys2Proof.Machine
end

