-- ==== Sys2Proof/Machine/WindowRequests.lean ====
section
/-! DEFINITION. The requests on the acknowledge window: PLACE CURSOR, SCROLL, SET SCOPE, SET FOCUS, SET ENTRY MODE and
ACKNOWLEDGE AT CURSOR (chapter 3). -/

namespace Sys2Proof.Machine

def State.setWindow (f : Window → Window) (s : State) : State := { s with window := f s.window }

/-- A placement: a change of the window's position, the window-changed test, and a snapshot (R42, R50). -/
def State.place (f : State → State) (s : State) : State := ((f s).noteView s.view).takeSnapshot

/-! ### PLACE CURSOR (R43) -/

def rulePlaceCursor (row : Byte) (s : State) : Reply :=
  checked [(s.inactive, .badState), (7 < row.toNat, .badValue)]
    (fun s =>
      let s1 := (s.setWindow fun w => { w with row := row.toNat }).takeSnapshot
      .ok s1 (.snapshot s1.window.snapshot)) s

def execPlaceCursor (row : Byte) (s : State) : Done := .next (request 0x40 (rulePlaceCursor row) s)

/-! ### SCROLL (R44) -/

/-- The offset added to the top position and clamped to the last page (R44). -/
def scrolledTop (top length : Nat) (offset : Int) : Nat := min ((top : Int) + offset).toNat (length - 8)

def ruleScroll (offset : Half) (s : State) : Reply :=
  checked [(s.inactive, .badState), (offset.toInt < -255 || 255 < offset.toInt, .badValue)]
    (fun s =>
      let s1 := s.place fun s => s.setWindow fun w =>
        { w with top := scrolledTop w.top s.scoped.length offset.toInt }
      .ok s1 (.scrolled s1.window.top s1.window.snapshot)) s

def execScroll (offset : Half) (s : State) : Done := .next (request 0x41 (ruleScroll offset) s)

/-! ### SET SCOPE (R45) -/

/-- Clamp the top position to the last page of the scoped list (R45, R46). -/
def State.clampTop (s : State) : State := s.setWindow fun w => { w with top := lastPage w.top s.scoped.length }

def ruleSetScope (scope : Byte) (s : State) : Reply :=
  checked [(s.inactive, .badState)]
    (fun s =>
      match scopeOf scope with
      | none => .refuse s .badValue
      | some x =>
        let s1 := s.place fun s => (s.setWindow fun w => { w with scope := x }).clampTop
        .ok s1 (.viewed s1.scoped.length s1.window.top s1.window.snapshot)) s

def execSetScope (scope : Byte) (s : State) : Done := .next (request 0x42 (ruleSetScope scope) s)

/-! ### SET FOCUS (R46) -/

/-- FFh is "none" (R182). -/
def focusOf (area : Byte) : Option Byte := if omittedArea area then none else some area

def ruleSetFocus (area : Byte) (s : State) : Reply :=
  checked [(s.inactive, .badState), (!omittedArea area && !areaOk area, .badValue)]
    (fun s =>
      let put := fun (s : State) => s.setWindow fun w => { w with focus := focusOf area }
      if s.window.scope == .focus then
        let s1 := s.place fun s => (put s).clampTop
        .ok s1 (.viewed s1.scoped.length s1.window.top s1.window.snapshot)
      else .ok (put s) (.snapshot s.window.snapshot)) s

def execSetFocus (area : Byte) (s : State) : Done := .next (request 0x43 (ruleSetFocus area) s)

/-! ### SET ENTRY MODE (R47) -/

def ruleSetEntryMode (direction follow : Byte) (s : State) : Reply :=
  checked [(s.inactive, .badState)]
    (fun s =>
      match directionOf direction, followOf follow with
      | some d, some f => .ok (s.setWindow fun w => { w with direction := d, follow := f })
      | none, _ => .refuse s .badValue
      | some _, none => .refuse s .badValue) s

def execSetEntryMode (direction follow : Byte) (s : State) : Done :=
  .next (request 0x44 (ruleSetEntryMode direction follow) s)

/-! ### ACKNOWLEDGE AT CURSOR (R48, R49) -/

/-- The cursor one row on in the entry direction, scrolling at the view's edge while follow is on (R49). -/
def Window.advanced (length : Nat) (w : Window) : Window :=
  match w.direction with
  | .down =>
    if w.row < 7 then { w with row := w.row + 1 }
    else if w.follow && w.top + 1 ≤ length - 8 then { w with top := w.top + 1 }
    else w
  | .up =>
    if 0 < w.row then { w with row := w.row - 1 }
    else if w.follow && 0 < w.top then { w with top := w.top - 1 }
    else w

/-- The cursor advance, with its snapshot (R49). -/
def State.advance (s : State) : State := s.place fun s => s.setWindow (Window.advanced s.scoped.length)

/-- GONE and CHANGED retake the snapshot, and their answers carry it (R48, R176). -/
def Reply.retake (s : State) (c : ResultCode) : Reply :=
  ⟨s.takeSnapshot, c, .bytes (snapshotBytes s.takeSnapshot.window.snapshot)⟩

/-- R48, steps 4 to 9. -/
def State.acknowledgeSnapshot (x : Snapshot) (s : State) : Reply :=
  match findRecord x.id s.picture.list with
  | none => .retake s .gone
  | some r =>
    if r.occurrence != x.occurrence then .retake s .changed
    else if !r.handling.isUnack then .ok s.advance (.covered 0)
    else
      checked [(!s.permitted .acknowledge x.id.area.toNat, .notPermitted), (!s.hasRoom, .queueFull)]
        (fun s => .ok ((s.queue (.ack s.activeBadge [⟨x.id, x.occurrence⟩])).advance) (.covered 1)) s

def ruleAcknowledgeAtCursor (s : State) : Reply :=
  checked [(s.inactive, .badState), (!s.seated, .notSignedOn)]
    (fun s =>
      match s.window.snapshot with
      | none => .refuse s .emptyRow
      | some x => s.acknowledgeSnapshot x) s

def execAcknowledgeAtCursor (s : State) : Done := .next (request 0x34 ruleAcknowledgeAtCursor s)

end Sys2Proof.Machine
end

