-- ==== Sys2Proof/Machine/AreaRequests.lean ====
section
/-! DEFINITION. CLAIM AREA and TAKE AREA (R91, R92). -/

namespace Sys2Proof.Machine

/-- The area is HELD. -/
def Hold.isHeld : Hold → Bool
  | .held _ _ => true
  | .unheld => false
  | .orphaned _ _ _ _ => false

def Hold.isOrphaned : Hold → Bool
  | .orphaned _ _ _ _ => true
  | .unheld => false
  | .held _ _ => false

/-- Checks 1 to 3, which CLAIM AREA and TAKE AREA share (R91, R92). -/
def State.areaChecks (area : Byte) (s : State) : List (Bool × ResultCode) :=
  [(s.inactive, .badState), (!areaOk area || !s.configured area.toNat, .badValue), (!s.seated, .notSignedOn)]

/-- Steps 5 to 10; `wrong` is the hold status that the other request serves (R91, R92). -/
def State.claimChecks (act : Action) (wrong : Bool) (a : Nat) (s : State) : List (Bool × ResultCode) :=
  [((s.area a).hold.isHeld, .occupied), (wrong, .badState), ((s.inFlight a).isSome, .busy),
   (!s.qualified a, .notQualified), (!s.permitted act a, .notPermitted), (!s.hasRoom, .queueFull)]

/-- Steps 4 to the end: an area HELD here is answered with its serial; a request that passes queues the frame and is
answered with the serial used (R91, R92). R92 does not say whether TAKE AREA's OK for an area HELD here carries the
serial; here it does. DESIGN CHOICE, unsafe: log entry 40. -/
def State.claimOrAnswer (act : Action) (wrong : Bool) (a : Nat) (f : Frame) (s : State) : Reply :=
  if s.holds a then .ok s (.serial (s.area a).serial)
  else checked (s.claimChecks act wrong a) (fun s => .ok (s.queue f) (.serial (s.nextSerial a))) s

def ruleClaimArea (area : Byte) (s : State) : Reply :=
  checked (s.areaChecks area)
    (fun s =>
      let a := area.toNat
      s.claimOrAnswer .hold (s.area a).hold.isOrphaned a (.claim 0x01 area (s.nextSerial a) s.activeBadge)) s

def execClaimArea (area : Byte) (s : State) : Done := .next (request 0x50 (ruleClaimArea area) s)

def ruleTakeArea (area : Byte) (s : State) : Reply :=
  checked (s.areaChecks area)
    (fun s =>
      let a := area.toNat
      s.claimOrAnswer .take ((s.area a).hold == .unheld) a (.take area (s.nextSerial a) s.activeBadge)) s

def execTakeArea (area : Byte) (s : State) : Done := .next (request 0x51 (ruleTakeArea area) s)

end Sys2Proof.Machine
end

