-- ==== Sys2Proof/Machine/OfferRequests.lean ====
section
/-! DEFINITION. The requests on offers: OFFER HANDOVER to another station and to this one (a seat change), ACCEPT and
DECLINE HANDOVER, WITHDRAW OFFER, SCHEDULE OFFER and CANCEL SCHEDULE (chapter 8). -/

namespace Sys2Proof.Machine

/-! ### OFFER HANDOVER (R115, R116, R126) -/

/-- R115 and R116; a target equal to this station makes a seat change (R126). -/
def ruleOffer (target : Station) (areas : AreaSet) (s : State) : Reply :=
  match s.offerRefusal target areas with
  | some c => .refuse s c
  | none => .ok (s.makeOffer target areas) (.handoverNumber s.nextOffer)

def execOfferHandover (target : Byte) (areas : AreaSet) (s : State) : Done :=
  .next (request 0x60 (ruleOffer target areas) s)

/-- OFFER HANDOVER with the target this station (R126). -/
def ruleSeatOffer (areas : AreaSet) (s : State) : Reply := ruleOffer s.own areas s

def execOfferSeatChange (areas : AreaSet) (s : State) : Done := .next (request 0x60 (ruleSeatOffer areas) s)

/-! ### ACCEPT HANDOVER and DECLINE HANDOVER (R118, R127) -/

/-- Checks 1 to 3 of R118, then the rest of the request on the presented offer. -/
def State.decide (number : Byte) (rest : InOffer → State → Reply) (s : State) : Reply :=
  checked [(s.inactive, .badState)]
    (fun s =>
      match s.presented with
      | none => .refuse s .badState
      | some o => if o.number == number then rest o s else .refuse s .notFound) s

/-- An operator is qualified for every area of a set. -/
def qualifiedAll (o : Option Operator) (areas : AreaSet) : Bool :=
  (areaList areas).all fun a => o.any fun x => x.qualifiedFor a

/-- The accept action's check passes for every area of a set (R79). -/
def State.permitsAll (s : State) (o : Option Operator) (areas : AreaSet) : Bool :=
  (areaList areas).all fun a => o.any fun x => s.permits x .hold a

/-- Acceptance of a remote offer (R118). DEDUCED, unsafe: log entry 31. -/
def State.acceptRemote (o : InOffer) (s : State) : Reply :=
  checked [(!qualifiedAll s.signOn.active o.areas, .notQualified),
      (!s.permitsAll s.signOn.active o.areas, .notPermitted), (!s.hasRoom, .queueFull)]
    (fun s =>
      let s1 := s.queue (answerAccept o.origin o.number s.activeBadge)
      .ok { s1 with handover := { s1.handover with incoming := .answered o s1.now } }) s

/-- Acceptance of a seat change, checked for the relief over the held set (R80, R127). -/
def State.acceptSeat (o : InOffer) (s : State) : Reply :=
  checked [(!qualifiedAll s.signOn.relief s.heldSet, .notQualified),
      (!s.permitsAll s.signOn.relief s.heldSet, .notPermitted)]
    (fun s => .ok (s.commitSeat o.number)) s

def ruleAccept (number : Byte) (s : State) : Reply :=
  s.decide number (fun o s => if s.isOwn o.origin then s.acceptSeat o else s.acceptRemote o)

def execAcceptHandover (number : Byte) (s : State) : Done := .next (request 0x61 (ruleAccept number) s)

/-- Decline of a remote offer (R118). -/
def State.declineRemote (o : InOffer) (s : State) : Reply :=
  checked [(!s.hasRoom, .queueFull)]
    (fun s => .ok ((s.queue (answerDecline o.origin o.number reasonDeclined)).endIn o (.declined reasonDeclined))) s

def ruleDecline (number : Byte) (s : State) : Reply :=
  s.decide number (fun o s =>
    if s.isOwn o.origin then .ok (s.endSeat o.number (.declined reasonDeclined)) else s.declineRemote o)

def execDeclineHandover (number : Byte) (s : State) : Done := .next (request 0x62 (ruleDecline number) s)

/-! ### WITHDRAW OFFER (R121) -/

def ruleWithdraw (s : State) : Reply :=
  checked [(s.inactive, .badState)]
    (fun s =>
      match s.handover.outgoing with
      | .idle => .refuse s .badState
      | .committing _ => .refuse s .handoverBusy
      | .offered o => .ok (s.dropOffer o .withdrawn)) s

def execWithdrawOffer (s : State) : Done := .next (request 0x63 ruleWithdraw s)

/-! ### SCHEDULE OFFER and CANCEL SCHEDULE (R128) -/

/-- The scheduled offer, with the fire time that the last second event reached and the mark of a firing forgotten: they
were another offer's. -/
def State.setScheduled (x : Scheduled) (s : State) : State :=
  { s with
    handover := { s.handover with scheduled := x, fireBySecond := false }
    second := { s.second with schedule := false } }

def ruleSchedule (target : Station) (areas : AreaSet) (fire : FireTime) (s : State) : Reply :=
  checked [(s.inactive, .badState),
      (!stationOk target || !fireTimeOk fire || (!s.isOwn target && areas == 0), .badValue),
      (!s.seated, .notSignedOn), (s.handover.scheduled != .empty, .handoverBusy)]
    (fun s => .ok (s.setScheduled (.armed ⟨target, areas, fire⟩))) s

def execScheduleOffer (target : Byte) (areas : AreaSet) (fireTime : Quad) (s : State) : Done :=
  .next (request 0x64 (ruleSchedule target areas (fireTimeOf fireTime)) s)

def ruleCancelSchedule (s : State) : Reply :=
  checked [(s.inactive, .badState), (s.handover.scheduled == .empty, .badState)]
    (fun s => .ok (s.setScheduled .empty)) s

def execCancelSchedule (s : State) : Done := .next (request 0x65 ruleCancelSchedule s)

end Sys2Proof.Machine
end

