-- ==== Sys2Proof/Machine/Timed.lean ====
section
/-! DEFINITION. The second event and the rows of the work that falls at it, each of which acts where its own condition
holds and changes nothing otherwise (R102, and the rule of each row). -/

namespace Sys2Proof.Machine

/-- R102. -/
def execSecondEvent (s : State) : Done := .next s.secondEvent

/-- R34. -/
def execShelfExpiry (s : State) : Done := .next s.shelfWork

/-- R35. -/
def execResponseDeadline (s : State) : Done := .next s.deadlineWork

/-- R97, R98. -/
def execOrphanGraceRunOut (area : Byte) (s : State) : Done := .next (s.graceRunOut area.toNat)

/-- R155. -/
def execPeerLost (station : Byte) (s : State) : Done := .next (s.losePeer station)

/-- R158. -/
def execConsoleDark (s : State) : Done := .next s.goDark

/-- R149. -/
def execListenEnd (s : State) : Done := .next s.endListen

/-- R143. -/
def execLineRecovery (line : LineName) (s : State) : Done := .next (s.recoverLine line)

/-- R144. -/
def execLineSilent (line : LineName) (s : State) : Done := .next (s.silenceLine line)

/-- R109. -/
def execDueInstant (s : State) : Done := .next s.dueWork

/-- R109. -/
def execShiftStart (s : State) : Done := .next s.startWork

/-- R110. -/
def execOverdueInstant (s : State) : Done := .next s.overdueWork

/-- R129. -/
def execScheduleReached (s : State) : Done := .next s.scheduleWork

/-- R129. -/
def execScheduledOfferFire (s : State) : Done := .next s.fireSchedule

/-- R122. -/
def execOfferTimeout (s : State) : Done := .next s.offerTimer

/-- R122. -/
def execDecisionWindow (s : State) : Done := .next s.decisionTimer

/-- R122. -/
def execCommitWait (s : State) : Done := .next s.commitTimer

/-- R170. -/
def execRefreshWaitFailure (s : State) : Done := .next s.refreshWaitTest

/-- R170. -/
def execRefreshStallFailure (s : State) : Done := .next s.refreshStallTest

/-- R170. -/
def execPictureRequestRepeat (s : State) : Done := .next s.repeatWork

/-- R127. -/
def execRebadgeClaimBuild (s : State) : Done := .next s.rebadgeOne

/-! ### ANNUNCIATOR_HALF_SECOND (R29, R180) -/

/-- The half seconds of a pattern's cycle. -/
def Pattern.halves : Pattern → Nat
  | .steady => 1
  | .oneHz => 2
  | .halfHz => 4

/-- A half second of the horn's cadence. -/
def Horn.tick : Horn → Horn
  | .quiet => .quiet
  | .silenced => .silenced
  | .sounding p half => .sounding p ((half + 1) % p.halves)

/-- A half second of the lamp's flash. -/
def Lamp.tick : Lamp → Lamp
  | .off => .off
  | .steady => .steady
  | .flashing high => .flashing (!high)

/-- DESIGN CHOICE, safe: log entry 25. -/
def State.cadence (which : Annunciator) (s : State) : State :=
  match which with
  | .horn => { s with picture := { s.picture with horn := s.picture.horn.tick } }
  | .lamp => { s with picture := { s.picture with lamp := s.picture.lamp.tick } }

def execAnnunciatorHalfSecond (which : Annunciator) (s : State) : Done := .next (s.cadence which)

end Sys2Proof.Machine
end

