-- ==== Sys2Proof/Machine/Frames.lean ====
section
/-! DEFINITION. The rows of the station bus: the access, echo check and end of an attempt, and the frames received, one
row for each kind (chapters 9 to 11 and 13). -/

namespace Sys2Proof.Machine

/-! ### Sending -/

/-- R137. -/
def execAccessStart (slot : BitVec 7) (s : State) : Done := .next (s.access slot.toNat)

/-- R138, R143. -/
def execEchoCheckFailure (line : LineName) (s : State) : Done := .next (s.echoFail line)

/-- R138, R139. -/
def execAttemptEnd (s : State) : Done := .next s.endAttempt

/-! ### Receiving -/

/-- A frame of a known kind: settled by the receivers, checked against its layout, applied by its owner (R141, R183). -/
def State.hear (rx : Rx) (f : Frame) (s : State) : State := s.receive rx true (wellFormedFrame f)

/-- A good copy whose kind, sender or body fits no row: the general reception (R132, R141, R183). -/
def execMalformedFrame (rx : Rx) (kind : Byte) (body : List Byte) (s : State) : Done :=
  .next (s.receive rx (kindOk kind) (decodeFrame kind body))

/-- A transmission with this station's own number that this station did not send: no block applies it (R141, R159). -/
def execDuplicateFrame (seq : Byte) (copyA copyB : Copy) (s : State) : Done :=
  .next (s.receive ⟨s.own, seq, copyA, copyB⟩ true none)

def execPresence (rx : Rx) (body : PresenceBody) (s : State) : Done := .next (s.hear rx (.presence body))

def execAlarmChange (rx : Rx) (entries : List ChangeEntry) (s : State) : Done := .next (s.hear rx (.alarmChange entries))

def execAckFrame (rx : Rx) (badge : Badge) (entries : List AckEntry) (s : State) : Done :=
  .next (s.hear rx (.ack badge entries))

def execShelveFrame (rx : Rx) (id : AlarmId) (minutes : Half) (badge : Badge) (s : State) : Done :=
  .next (s.hear rx (.shelve id minutes badge))

def execUnshelveFrame (rx : Rx) (id : AlarmId) (s : State) : Done := .next (s.hear rx (.unshelve id))

def execClaimFrame (rx : Rx) (reason area : Byte) (serial : Half) (badge : Badge) (s : State) : Done :=
  .next (s.hear rx (.claim reason area serial badge))

def execTakeFrame (rx : Rx) (area : Byte) (serial : Half) (badge : Badge) (s : State) : Done :=
  .next (s.hear rx (.take area serial badge))

def execOfferFrame (rx : Rx) (number : Byte) (target : Station) (badge : Badge) (areas : AreaSet)
    (summaries : List OfferSummary) (s : State) : Done :=
  .next (s.hear rx (.offer number target badge areas summaries))

def execAnswerFrame (rx : Rx) (origin : Station) (number decision reason : Byte) (badge : Badge) (s : State) : Done :=
  .next (s.hear rx (.answer origin number decision reason badge))

def execCommitFrame (rx : Rx) (number : Byte) (incoming : Station) (badge : Badge) (entries : List CommitEntry)
    (s : State) : Done :=
  .next (s.hear rx (.commit number incoming badge entries))

def execWithdrawFrame (rx : Rx) (number : Byte) (target : Station) (s : State) : Done :=
  .next (s.hear rx (.withdraw number target))

def execPictureRequest (rx : Rx) (s : State) : Done := .next (s.hear rx .pictureRequest)

def execPicture (rx : Rx) (active : StationSet) (index : Byte) (records : List PictureRecord) (s : State) : Done :=
  .next (s.hear rx (.picture active index records))

def execPictureEnd (rx : Rx) (active : StationSet) (count : Half) (s : State) : Done :=
  .next (s.hear rx (.pictureEnd active count))

end Sys2Proof.Machine
end

