-- ==== Sys2Proof/Machine/Dispatch.lean ====
section
/-! DEFINITION. `exec`: one arm for each command of the table, each a direct call of its meaning. -/

namespace Sys2Proof.Machine

/-- The effect of a command on everything but the queue. -/
def exec (i : Instr) (s : State) : Host.Outcome State Fault Refusal :=
  match i with
  | .powerOnReset => Sys2Proof.Machine.execPowerOnReset s
  | .resetN => Sys2Proof.Machine.execResetN s
  | .partStart => Sys2Proof.Machine.execPartStart s
  | .discardedTransaction cause => Sys2Proof.Machine.execDiscardedTransaction cause s
  | .busyPeriodEnd => Sys2Proof.Machine.execBusyPeriodEnd s
  | .unknownRequest code => Sys2Proof.Machine.execUnknownRequest code s
  | .nop => Sys2Proof.Machine.execNop s
  | .readStatus => Sys2Proof.Machine.execReadStatus s
  | .readAttention => Sys2Proof.Machine.execReadAttention s
  | .readPeer station => Sys2Proof.Machine.execReadPeer station s
  | .readArea area => Sys2Proof.Machine.execReadArea area s
  | .readAlarm area point => Sys2Proof.Machine.execReadAlarm area point s
  | .readList start => Sys2Proof.Machine.execReadList start s
  | .readWindow => Sys2Proof.Machine.execReadWindow s
  | .readHandover => Sys2Proof.Machine.execReadHandover s
  | .setTrim trim => Sys2Proof.Machine.execSetTrim trim s
  | .restart => Sys2Proof.Machine.execRestart s
  | .setStation number gap => Sys2Proof.Machine.execSetStation number gap s
  | .setArea area configured settings => Sys2Proof.Machine.execSetArea area configured settings s
  | .setShiftPattern perDay firstStart lead grace => Sys2Proof.Machine.execSetShiftPattern perDay firstStart lead grace s
  | .setClock millTime => Sys2Proof.Machine.execSetClock millTime s
  | .join => Sys2Proof.Machine.execJoin s
  | .signOn badge rank qualified => Sys2Proof.Machine.execSignOn badge rank qualified s
  | .signOnRelief badge rank qualified => Sys2Proof.Machine.execSignOnRelief badge rank qualified s
  | .signOffActive => Sys2Proof.Machine.execSignOffActive s
  | .signOffRelief slot => Sys2Proof.Machine.execSignOffRelief slot s
  | .setActingRank slot rank => Sys2Proof.Machine.execSetActingRank slot rank s
  | .postRaise area point priority => Sys2Proof.Machine.execPostRaise area point priority s
  | .postClear area point => Sys2Proof.Machine.execPostClear area point s
  | .acknowledge area point occurrence => Sys2Proof.Machine.execAcknowledge area point occurrence s
  | .acknowledgeArea area => Sys2Proof.Machine.execAcknowledgeArea area s
  | .acknowledgeAtCursor => Sys2Proof.Machine.execAcknowledgeAtCursor s
  | .shelve area point minutes => Sys2Proof.Machine.execShelve area point minutes s
  | .unshelve area point => Sys2Proof.Machine.execUnshelve area point s
  | .silenceHorn => Sys2Proof.Machine.execSilenceHorn s
  | .placeCursor row => Sys2Proof.Machine.execPlaceCursor row s
  | .scroll offset => Sys2Proof.Machine.execScroll offset s
  | .setScope scope => Sys2Proof.Machine.execSetScope scope s
  | .setFocus area => Sys2Proof.Machine.execSetFocus area s
  | .setEntryMode direction follow => Sys2Proof.Machine.execSetEntryMode direction follow s
  | .claimArea area => Sys2Proof.Machine.execClaimArea area s
  | .takeArea area => Sys2Proof.Machine.execTakeArea area s
  | .offerHandover target areas => Sys2Proof.Machine.execOfferHandover target areas s
  | .offerSeatChange areas => Sys2Proof.Machine.execOfferSeatChange areas s
  | .acceptHandover number => Sys2Proof.Machine.execAcceptHandover number s
  | .declineHandover number => Sys2Proof.Machine.execDeclineHandover number s
  | .withdrawOffer => Sys2Proof.Machine.execWithdrawOffer s
  | .scheduleOffer target areas fireTime => Sys2Proof.Machine.execScheduleOffer target areas fireTime s
  | .cancelSchedule => Sys2Proof.Machine.execCancelSchedule s
  | .secondEvent => Sys2Proof.Machine.execSecondEvent s
  | .shelfExpiry => Sys2Proof.Machine.execShelfExpiry s
  | .responseDeadline => Sys2Proof.Machine.execResponseDeadline s
  | .orphanGraceRunOut area => Sys2Proof.Machine.execOrphanGraceRunOut area s
  | .peerLost station => Sys2Proof.Machine.execPeerLost station s
  | .consoleDark => Sys2Proof.Machine.execConsoleDark s
  | .listenEnd => Sys2Proof.Machine.execListenEnd s
  | .lineRecovery line => Sys2Proof.Machine.execLineRecovery line s
  | .lineSilent line => Sys2Proof.Machine.execLineSilent line s
  | .dueInstant => Sys2Proof.Machine.execDueInstant s
  | .shiftStart => Sys2Proof.Machine.execShiftStart s
  | .overdueInstant => Sys2Proof.Machine.execOverdueInstant s
  | .scheduleReached => Sys2Proof.Machine.execScheduleReached s
  | .scheduledOfferFire => Sys2Proof.Machine.execScheduledOfferFire s
  | .offerTimeout => Sys2Proof.Machine.execOfferTimeout s
  | .decisionWindow => Sys2Proof.Machine.execDecisionWindow s
  | .commitWait => Sys2Proof.Machine.execCommitWait s
  | .refreshWaitFailure => Sys2Proof.Machine.execRefreshWaitFailure s
  | .refreshStallFailure => Sys2Proof.Machine.execRefreshStallFailure s
  | .pictureRequestRepeat => Sys2Proof.Machine.execPictureRequestRepeat s
  | .rebadgeClaimBuild => Sys2Proof.Machine.execRebadgeClaimBuild s
  | .accessStart slot => Sys2Proof.Machine.execAccessStart slot s
  | .echoCheckFailure line => Sys2Proof.Machine.execEchoCheckFailure line s
  | .attemptEnd => Sys2Proof.Machine.execAttemptEnd s
  | .malformedFrame rx kind body => Sys2Proof.Machine.execMalformedFrame rx kind body s
  | .duplicateFrame seq copyA copyB => Sys2Proof.Machine.execDuplicateFrame seq copyA copyB s
  | .presence rx body => Sys2Proof.Machine.execPresence rx body s
  | .alarmChange rx entries => Sys2Proof.Machine.execAlarmChange rx entries s
  | .ackFrame rx badge entries => Sys2Proof.Machine.execAckFrame rx badge entries s
  | .shelveFrame rx id minutes badge => Sys2Proof.Machine.execShelveFrame rx id minutes badge s
  | .unshelveFrame rx id => Sys2Proof.Machine.execUnshelveFrame rx id s
  | .claimFrame rx reason area serial badge => Sys2Proof.Machine.execClaimFrame rx reason area serial badge s
  | .takeFrame rx area serial badge => Sys2Proof.Machine.execTakeFrame rx area serial badge s
  | .offerFrame rx number target badge areas summaries => Sys2Proof.Machine.execOfferFrame rx number target badge areas summaries s
  | .answerFrame rx origin number decision reason badge => Sys2Proof.Machine.execAnswerFrame rx origin number decision reason badge s
  | .commitFrame rx number incoming badge entries => Sys2Proof.Machine.execCommitFrame rx number incoming badge entries s
  | .withdrawFrame rx number target => Sys2Proof.Machine.execWithdrawFrame rx number target s
  | .pictureRequest rx => Sys2Proof.Machine.execPictureRequest rx s
  | .picture rx active index records => Sys2Proof.Machine.execPicture rx active index records s
  | .pictureEnd rx active count => Sys2Proof.Machine.execPictureEnd rx active count s
  | .annunciatorHalfSecond which => Sys2Proof.Machine.execAnnunciatorHalfSecond which s

end Sys2Proof.Machine
end

