-- ==== Sys2Proof/Safety.lean ====
section
/-! DEFINITION. What is always true of a sound state of the block, in the terms the statements use, and what a safe run
is: one whose every step answers a next state. The manual's own claims stand beside each part. -/

namespace Sys2Proof.Machine

/-- A step that answers a next state. -/
def Steps (s t : State) : Prop := step s = .next t

/-- A safe run: every command of the queue, in order, answers a next state. -/
inductive SafeRun : State → State → Prop where
  | done (s : State) (h : s.pending = []) : SafeRun s s
  | more (s t u : State) (h : s.pending ≠ []) (first : Steps s t) (rest : SafeRun t u) : SafeRun s u

/-! ### The alarm list (R1, R2, R3) -/

/-- No record is ACK and CLEARED at once, and only an UNACK record is escalated (R1, R9, R38). -/
abbrev AlarmRecord.Sound (r : AlarmRecord) : Prop :=
  ¬(r.handling.isAck = true ∧ r.cleared = true) ∧ (r.escalated = true → r.handling.isUnack = true)

/-- `x` does not come after `y` by priority and then by arrival second (R2). -/
abbrev NotAfter (x y : AlarmRecord) : Prop :=
  x.priority.num < y.priority.num ∨
    (x.priority.num = y.priority.num ∧ x.arrivalSec.toNat ≤ y.arrivalSec.toNat)

/-- At most 256 records, one for each id, in list order, each of them sound. -/
structure ListSound (l : List AlarmRecord) : Prop where
  capacity : l.length ≤ Config.listCapacity
  ids      : (l.map AlarmRecord.id).Nodup
  order    : l.Pairwise NotAfter
  records  : ∀ r ∈ l, r.Sound

/-! ### The load unit (R53 to R60) -/

/-- An unconfigured area has load 0 and is NORMAL; a configured one has its flood-off level below its flood-on level, is
below the flood-on level while NORMAL, and above the flood-off level while in FLOOD. -/
abbrev Area.LoadSound (r : Area) : Prop :=
  r.load ≤ 65535 ∧
    match r.config with
    | none => r.load = 0 ∧ r.flood = false
    | some c => c.floodOff < c.floodOn ∧ (r.flood = false → r.load < c.floodOn) ∧ (r.flood = true → c.floodOff < r.load)

/-! ### The queues (R13, R134, R139, R167) -/

structure QueuesSound (s : State) : Prop where
  urgent  : s.tx.urgent.length ≤ Config.urgentCapacity
  change  : s.tx.change.length ≤ Config.changeCapacity
  waiting : s.transfer.pendingEvents.length ≤ Config.pendingCapacity
  fails   : s.bus.fails ≤ 8

/-! ### The clock and calendar (R102, R104, R106, R107, R108) -/

structure ClockSound (c : Clock) : Prop where
  mill   : c.millTime ≤ Config.lastMillTime
  phase  : c.phase ≤ 15
  trim   : -63 ≤ c.trim ∧ c.trim ≤ 63
  perDay : 1 ≤ c.pattern.perDay ∧ c.pattern.perDay ≤ 4
  first  : c.pattern.firstStart ≤ 1439
  lead   : c.pattern.lead ≤ 120
  grace  : c.pattern.grace ≤ 120

/-- The shift number and the lead state are those of mill time, but for an instant of the last second event that is
still to be taken. -/
structure CalendarSound (s : State) : Prop where
  shift : s.second.start = false → s.clock.shift = s.clock.pattern.shiftOf s.clock.millTime
  lead  : s.second.due = false → s.second.start = false → s.clock.inLead = s.clock.pattern.inLead s.clock.millTime
  start : s.second.start = true → s.clock.pattern.isStart s.clock.millTime = true
  due   : s.second.due = true → s.clock.pattern.isDue s.clock.millTime = true
  pair  : s.second.due = true → s.clock.pattern.isStart s.clock.millTime = true → s.second.start = true

/-! ### The acknowledge window (R40, R41) -/

structure WindowSound (s : State) : Prop where
  row : s.window.row ≤ 7
  top : s.window.top ≤ s.scoped.length - 1

/-! ### The port (R173, R175) -/

structure PortSound (p : Port) : Prop where
  number : p.answer.number = p.counter
  busy   : p.busy = true → p.started = true

/-! ### The peer table (R154, R155) -/

structure PeersSound (s : State) : Prop where
  places  : s.peers.length = 16
  own     : ∀ n, s.node.number = some n → s.peer n = none
  silence : ∀ r ∈ s.peers, ∀ p, r = some p → p.silence ≤ 3
  lost    : ∀ r ∈ s.peers, ∀ p, r = some p → p.state = .lost → p.digestMatch = .notCompared ∧ p.millDiff = none

/-! ### Horn and lamp (R15, R16, R17, R29) -/

/-- The lamp shows the routed sets; a horn that is not QUIET has a routed UNACK record, and a SOUNDING one has the
pattern of the highest priority among them. -/
structure AnnunciatorSound (s : State) : Prop where
  flashing : (∃ high, s.picture.lamp = .flashing high) ↔ s.routedUnack ≠ []
  steady   : s.picture.lamp = .steady ↔ s.routedUnack = [] ∧ ∃ r ∈ s.routedAck, r.cleared = false
  quiet    : s.routedUnack = [] → s.picture.horn = .quiet
  pattern  : ∀ p half, s.picture.horn = .sounding p half → (highest s.routedUnack).map Priority.pattern = some p

/-! ### The handover controller (R113, R124, R127) -/

/-- The outgoing offer and the re-badge list name held areas only, and a station that is not ACTIVE has neither. -/
structure HandoverSound (s : State) : Prop where
  rebadge    : ∀ a, s.handover.rebadge.getLsbD a = true → s.holds a = true
  offered    : ∀ o, s.handover.outgoing = .offered o → ∀ a, o.areas.getLsbD a = true → s.holds a = true
  committing : ∀ o, s.handover.outgoing = .committing o → ∀ a, o.areas.getLsbD a = true → s.holds a = true
  inactive   : s.node.mode ≠ .active → s.handover.outgoing = .idle ∧ s.handover.rebadge = 0

/-! ### The station (R147) -/

/-- Only an ACTIVE station is sending; one whose receivers are off has an empty list, an empty peer table and no held
area, and in CONFIG every load is 0. -/
structure StationSound (s : State) : Prop where
  areas   : s.areas.length = 32
  sending : s.node.mode ≠ .active → s.bus.sending = none
  list    : s.node.mode.receives = false → s.picture.list = []
  peers   : s.node.mode.receives = false → ∀ r ∈ s.peers, r = none
  holds   : s.node.mode.receives = false → ∀ r ∈ s.areas, r.hold = .unheld
  loads   : s.node.mode = .config → ∀ r ∈ s.areas, r.load = 0 ∧ r.flood = false

/-- A sound state. -/
structure State.Sound (s : State) : Prop where
  list     : ListSound s.picture.list
  loads    : ∀ r ∈ s.areas, r.LoadSound
  queues   : QueuesSound s
  clock    : ClockSound s.clock
  calendar : CalendarSound s
  window   : WindowSound s
  port     : PortSound s.port
  peers    : PeersSound s
  station  : StationSound s
  output   : AnnunciatorSound s
  handover : HandoverSound s

end Sys2Proof.Machine
end

