-- ==== Sys2Proof/WellFormed.lean ====
section
/-! DEFINITION. Which commands are well formed: the shape that the table's row and chapter 13 give a command. A value
that the manual says a rule answers (an area of 40, a rank of 7) is well formed; only a command that is not the row it
claims to be is not. -/

namespace Sys2Proof

open Sys2Proof.Machine

/-! ### The checks -/

/-- A received frame: a sender 1 to 16, and a good copy on at least one line (R132, R141). -/
def Rx.wellFormed (rx : Rx) : Bool := stationOk rx.sender && anyGood rx

/-- A frame row: its transmission, and a body that fits the layout of its kind (R183). -/
def wellFormedRow (rx : Rx) (f : Frame) : Bool := rx.wellFormed && frameFits f

/-- A SET AREA body: 2 bytes unless the value is "yes", 13 bytes unless it is "no" (13.4). -/
def settingsShape (configured : Byte) (settings : Option AreaSettings) : Bool :=
  match settings with
  | none => configured != 0x01
  | some _ => configured != 0x00

/-- The slot byte 00h is SIGN_OFF_ACTIVE's (13.4). -/
def slotShape (slot : Byte) : Bool := slot != 0x00

/-- A slot of the longest wait, 3 × 16 + 16 (R137). -/
def accessShape (slot : BitVec 7) : Bool := 1 ≤ slot.toNat && slot.toNat ≤ 64

/-- MALFORMED_FRAME: a good copy of at most 120 body bytes that fits no row of its own (R132, R183). -/
def malformedShape (rx : Rx) (kind : Byte) (body : List Byte) : Bool :=
  anyGood rx && body.length ≤ 120 && (!stationOk rx.sender || (decodeFrame kind body).isNone)

/-- DUPLICATE_FRAME: a good copy on at least one line (R141, R159). -/
def copiesShape (copyA copyB : Copy) : Bool := copyA == .good || copyB == .good

/-- Whether a command is well formed. -/
def Instr.wellFormed : Instr → Bool
  | .powerOnReset => true
  | .resetN => true
  | .partStart => true
  | .discardedTransaction _ => true
  | .busyPeriodEnd => true
  | .unknownRequest _ => true
  | .nop => true
  | .readStatus => true
  | .readAttention => true
  | .readPeer _ => true
  | .readArea _ => true
  | .readAlarm _ _ => true
  | .readList _ => true
  | .readWindow => true
  | .readHandover => true
  | .setTrim _ => true
  | .restart => true
  | .setStation _ _ => true
  | .setArea _ configured settings => settingsShape configured settings
  | .setShiftPattern _ _ _ _ => true
  | .setClock _ => true
  | .join => true
  | .signOn _ _ _ => true
  | .signOnRelief _ _ _ => true
  | .signOffActive => true
  | .signOffRelief slot => slotShape slot
  | .setActingRank _ _ => true
  | .postRaise _ _ _ => true
  | .postClear _ _ => true
  | .acknowledge _ _ _ => true
  | .acknowledgeArea _ => true
  | .acknowledgeAtCursor => true
  | .shelve _ _ _ => true
  | .unshelve _ _ => true
  | .silenceHorn => true
  | .placeCursor _ => true
  | .scroll _ => true
  | .setScope _ => true
  | .setFocus _ => true
  | .setEntryMode _ _ => true
  | .claimArea _ => true
  | .takeArea _ => true
  | .offerHandover _ _ => true
  | .offerSeatChange _ => true
  | .acceptHandover _ => true
  | .declineHandover _ => true
  | .withdrawOffer => true
  | .scheduleOffer _ _ _ => true
  | .cancelSchedule => true
  | .secondEvent => true
  | .shelfExpiry => true
  | .responseDeadline => true
  | .orphanGraceRunOut area => areaOk area
  | .peerLost station => stationOk station
  | .consoleDark => true
  | .listenEnd => true
  | .lineRecovery _ => true
  | .lineSilent _ => true
  | .dueInstant => true
  | .shiftStart => true
  | .overdueInstant => true
  | .scheduleReached => true
  | .scheduledOfferFire => true
  | .offerTimeout => true
  | .decisionWindow => true
  | .commitWait => true
  | .refreshWaitFailure => true
  | .refreshStallFailure => true
  | .pictureRequestRepeat => true
  | .rebadgeClaimBuild => true
  | .accessStart slot => accessShape slot
  | .echoCheckFailure _ => true
  | .attemptEnd => true
  | .malformedFrame rx kind body => malformedShape rx kind body
  | .duplicateFrame _ copyA copyB => copiesShape copyA copyB
  | .presence rx body => wellFormedRow rx (.presence body)
  | .alarmChange rx entries => wellFormedRow rx (.alarmChange entries)
  | .ackFrame rx badge entries => wellFormedRow rx (.ack badge entries)
  | .shelveFrame rx id minutes badge => wellFormedRow rx (.shelve id minutes badge)
  | .unshelveFrame rx id => wellFormedRow rx (.unshelve id)
  | .claimFrame rx reason area serial badge => wellFormedRow rx (.claim reason area serial badge)
  | .takeFrame rx area serial badge => wellFormedRow rx (.take area serial badge)
  | .offerFrame rx number target badge areas summaries => wellFormedRow rx (.offer number target badge areas summaries)
  | .answerFrame rx origin number decision reason badge => wellFormedRow rx (.answer origin number decision reason badge)
  | .commitFrame rx number incoming badge entries => wellFormedRow rx (.commit number incoming badge entries)
  | .withdrawFrame rx number target => wellFormedRow rx (.withdraw number target)
  | .pictureRequest rx => wellFormedRow rx .pictureRequest
  | .picture rx active index records => wellFormedRow rx (.picture active index records)
  | .pictureEnd rx active count => wellFormedRow rx (.pictureEnd active count)
  | .annunciatorHalfSecond _ => true

end Sys2Proof
end

