-- ==== Sys2Proof/Certificates/Slice0/Obligations.lean ====
section
/-! DEFINITION. The statements about the model. Each says what a command or the machine does; its next state is given
with everything that it leaves as it was. -/

namespace Sys2Proof.Claims

open Sys2Proof.Machine

/-! ### The vocabulary of the statements -/

/-- The port takes a request: the part has started and no busy period is open (R173, R181). -/
abbrev Open (s : State) : Prop := s.port.started = true ∧ s.port.busy = false

/-- The station is ACTIVE. -/
abbrev Active (s : State) : Prop := s.node.mode = .active

/-- The station's part after a check-in (R158). -/
def noted (s : State) : Node := { s.node with lastCheckIn := s.clock.now, dark := false }

/-- The port after the answer to a request, in the busy period it opened (R173, R175). -/
def answered (s : State) (code : Byte) (r : ResultCode) (b : AnswerBody) : Port :=
  { s.port with
    busy := true, counter := s.port.counter + 1
    answer := { result := r, number := s.port.counter + 1, request := code, body := b } }

/-- The state after a request that changed nothing but the port and the check-in. -/
def told (s : State) (code : Byte) (r : ResultCode) (b : AnswerBody) : State :=
  { s with node := noted s, port := answered s code r b }

/-- A request refused with a code: no state changes, and the answer body is empty (R176). -/
abbrev Refuses (c : Instr) (code : Byte) (r : ResultCode) (s : State) : Prop := exec c s = .next (told s code r .empty)

/-- A flag latched on top of a set of flags. -/
def plus (flags : BitVec 24) (f : Flag) : BitVec 24 := flags ||| BitVec.twoPow 24 f.bit

/-- A line that is GOOD and not about to go SILENT. -/
abbrev Sound (l : Line) : Prop := l.state = .good ∧ l.silentDue = false

/-- A transmission good on both lines, from a peer known to be PRESENT, with a sequence not heard before. -/
structure Hears (s : State) (rx : Rx) : Prop where
  receives : s.node.mode.receives = true
  copyA    : rx.copyA = .good
  copyB    : rx.copyB = .good
  low      : 1 ≤ rx.sender.toNat
  high     : rx.sender.toNat ≤ 16
  other    : s.node.number ≠ some rx.sender
  fresh    : s.lastSeq rx.sender ≠ some rx.seq
  lineA    : Sound s.bus.lineA
  lineB    : Sound s.bus.lineB
  known    : ∃ r, s.peer rx.sender = some r ∧ r.state = .present ∧ r.silence < 3

/-- A transmission good on both lines, with a sequence not heard before, from a station with another number. -/
structure Arrives (s : State) (rx : Rx) : Prop where
  receives : s.node.mode.receives = true
  copyA    : rx.copyA = .good
  copyB    : rx.copyB = .good
  low      : 1 ≤ rx.sender.toNat
  high     : rx.sender.toNat ≤ 16
  other    : s.node.number ≠ some rx.sender
  fresh    : s.lastSeq rx.sender ≠ some rx.seq
  lineA    : Sound s.bus.lineA
  lineB    : Sound s.bus.lineB

/-- The command that a frame is when it is received. -/
def received (rx : Rx) : Frame → Instr
  | .presence p => .presence rx p
  | .alarmChange es => .alarmChange rx es
  | .ack b es => .ackFrame rx b es
  | .shelve id d b => .shelveFrame rx id d b
  | .unshelve id => .unshelveFrame rx id
  | .claim r a n b => .claimFrame rx r a n b
  | .take a n b => .takeFrame rx a n b
  | .offer n t b m xs => .offerFrame rx n t b m xs
  | .answer o n d r b => .answerFrame rx o n d r b
  | .commit n i b es => .commitFrame rx n i b es
  | .withdraw n t => .withdrawFrame rx n t
  | .pictureRequest => .pictureRequest rx
  | .picture m i rs => .picture rx m i rs
  | .pictureEnd m n => .pictureEnd rx m n

/-- The state after a bad copy beside a good one has marked a line (R143). -/
def marked (s : State) (l : LineName) : State :=
  { s.setLine l { s.line l with state := .disturbed s.clock.now } with
    node := { s.node with reports := { s.node.reports with lineDisturbed := true } }
    tx := { s.tx with
      presence := s.tx.presence.map fun p => { p with again := { p.again with lineDisturbed := true } }
      nextPresence := s.tx.nextPresence.map fun p => { p with again := { p.again with lineDisturbed := true } } }
    port := { s.port with
      attention := if (s.line l).state.code = 1 then s.port.attention
        else s.port.attention ||| BitVec.twoPow 24 Flag.lineFault.bit } }

/-- What every frame does before its owner applies it: the lines have delivered a good copy, the sequence is stored, and
the sender's silence count is 0 (R141, R144, R155). -/
def heard (s : State) (rx : Rx) : State :=
  { s with
    bus := { s.bus with
      lineA := { s.bus.lineA with heard := true }
      lineB := { s.bus.lineB with heard := true }
      lastSeq := s.bus.lastSeq.set (rx.sender.toNat - 1) (some rx.seq) }
    peers := s.peers.set (rx.sender.toNat - 1) ((s.peer rx.sender).map fun r => { r with silence := 0 }) }

/-- Every record but those of one id is as it was. -/
abbrev OthersKept (id : AlarmId) (s t : State) : Prop :=
  ∀ other, other ≠ id → findRecord other t.picture.list = findRecord other s.picture.list

/-- A change of the alarm list that is handed on: only the list, the horn and the lamp differ, and of the window only
the top position and the window-changed indicator (R10). -/
abbrev ListChange (s t : State) : Prop :=
  t = { s with
    picture := { s.picture with list := t.picture.list, horn := t.picture.horn, lamp := t.picture.lamp }
    window := { s.window with top := t.window.top, changed := t.window.changed } }

/-- A record comes before another in the alarm list: by priority, then arrival second, then arrival sequence, compared as
serial numbers (R2; arrival seconds as plain numbers: log entry 35). -/
abbrev Ahead (x y : AlarmRecord) : Prop :=
  x.priority.num < y.priority.num ∨
    (x.priority.num = y.priority.num ∧
      (x.arrivalSec.toNat < y.arrivalSec.toNat ∨
        (x.arrivalSec = y.arrivalSec ∧ 1 ≤ (y.arrivalSeq - x.arrivalSeq).toNat ∧
          (y.arrivalSeq - x.arrivalSeq).toNat < 2147483648)))

/-- A list is another one with a record put in at its position: ahead of the first record that it comes before. -/
abbrev Placed (r : AlarmRecord) (before after : List AlarmRecord) : Prop :=
  ∃ l m, before = l ++ m ∧ after = l ++ r :: m ∧ (∀ x ∈ l, ¬Ahead r x) ∧ ∀ x, m.head? = some x → Ahead r x

/-- A state with its window at another top position. -/
def atTop (n : Nat) (s : State) : State := { s with window := { s.window with top := n } }

/-- The view differs by a change of the list, taken at the top position as it stood, or by the top adjustment after it:
both start the window-changed test (R50). -/
def viewMoved (s t : State) : Bool := (atTop s.window.top t).view != s.view || t.view != (atTop s.window.top t).view

/-- The window after one change of the alarm list: the top position is pulled back within the scoped list, and the
window-changed indicator is set where the change or the adjustment changes the view (R41, R50). -/
abbrev WindowFollows (s t : State) : Prop :=
  t.window.top = (if t.scoped.length ≤ s.window.top then t.scoped.length - 1 else s.window.top) ∧
    t.window.changed = (s.window.changed || viewMoved s t)

/-- A state with its routed sets re-evaluated: the lamp set from them, the horn given a quiet demand or the highest
routed UNACK priority, and no sound demand (R15, R17, R27, R29). -/
def rerouted (s : State) : State :=
  { s with picture := { s.picture with
      horn := s.picture.horn.reevaluate (highest s.routedUnack)
      lamp := s.picture.lamp.reevaluate (!s.routedUnack.isEmpty) (s.routedAck.any fun r => !r.cleared) } }

/-- `u`, a change of the scoped list's contents at `s`, with the window after it: the top position pulled back, and the
window-changed indicator set where the change or the adjustment changes the view (R41, R50). -/
def followed (s u : State) : State :=
  let t := atTop (if u.scoped.length ≤ s.window.top then u.scoped.length - 1 else s.window.top) u
  { t with window := { t.window with changed := s.window.changed || u.view != s.view || t.view != u.view } }

/-- A state with another alarm list, the change handed on to the window and the routing (R10). -/
def relisted (l : List AlarmRecord) (s : State) : State :=
  rerouted (followed s { s with picture := { s.picture with list := l } })

/-- A state after a sound demand, or without one (R27). -/
def demanded (demand : Bool) (s : State) : State :=
  if demand then { s with picture := { s.picture with horn := s.picture.horn.sound (highest s.routedUnack) } } else s

/-- A record that has just become or stayed UNACK makes a sound demand: it is routed here, and its area is NORMAL or it
is URGENT (R16, R33). -/
def sounds (s : State) (r : AlarmRecord) (flood : Bool) : Bool :=
  s.routed r && r.handling.isUnack && (!flood || r.priority == .urgent)

/-- The horn and the lamp after one change of the alarm list of `u`, with a sound demand or without one. -/
abbrev Annunciates (demand : Bool) (u t : State) : Prop :=
  t.picture = (demanded demand (relisted t.picture.list u)).picture

/-- `u`, a change of the hold fields of an area at `s`, handed on (R89): the window where the held set changes and the
scope is HELD, and the routing where the holder station or the hold status changes. -/
def handedOn (a : Nat) (s u : State) : State :=
  let v := if s.window.scope = .held ∧ s.holds a ≠ u.holds a then followed s u else u
  if (u.area a).hold.holderStatus = (s.area a).hold.holderStatus then v else rerouted v

/-- A record, or none, after a pending entry for its id (R168). -/
def matched (x : Option AlarmRecord) (e : PendingEvent) : Option AlarmRecord :=
  match x, e.kind with
  | none, _ => none
  | some r, .clear => if r.handling.isAck = true then none else some { r with cleared := true }
  | some r, .ack o t b =>
    if o = r.occurrence ∧ r.handling = .unack then
      (if r.cleared = true then none else some { r with handling := .ack t b, escalated := false })
    else some r

/-- A frame of several entries does what a frame of its first entry and then a further one of the others would do, but
for the sequence stored. -/
abbrev InTurn (whole first rest : Instr) (s : State) : Prop :=
  ∃ t u, exec first s = .next t ∧ exec rest t = .next u ∧
    exec whole s = .next { u with bus := { u.bus with lastSeq := t.bus.lastSeq } }

/-- A sign-on slot in the answer to READ STATUS (R82, R77). -/
def slotOf (s : State) (o : Operator) : SlotReport :=
  { badge := o.badge, rank := o.rank, acting := o.acting, qualified := o.qualified, shift := o.shift
    age := (s.clock.now - o.since).toNat
    longWatch := decide (2 * (60 * (1440 / s.clock.pattern.perDay)) ≤ (s.clock.now - o.since).toNat) }

/-- A number in bytes, most significant first. -/
def octets (k n : Nat) : List Byte := (List.range k).map fun i => BitVec.ofNat 8 (n / 256 ^ (k - 1 - i))

/-- The record flags of an answer: priority in bits 2..0, CLEARED 3, handling 5..4, escalated 6 (13.3). -/
def flagsOf (r : AlarmRecord) : Byte :=
  BitVec.ofNat 8 (r.priority.num + (if r.cleared then 8 else 0) + (if r.escalated then 64 else 0) +
    match r.handling with
    | .unack => 0
    | .ack _ _ => 16
    | .shelved _ _ _ => 32)

/-- The scheduled offer is WAITING. -/
def waits (s : State) : Bool :=
  match s.handover.scheduled with
  | .waiting _ => true
  | .empty => false
  | .armed _ => false

/-- The mark of a firing once work of a second event has ended the outgoing offer: a WAITING offer fires by it (the
model's mark: log entry 4). -/
def firesBySecond (s : State) : Bool := s.handover.fireBySecond || (waits s && s.handover.outgoing != .idle)

/-- The rows of the work that falls at a second event, in the order in which the next one does what is left of it (the
model's order: log entry 3). -/
def workRows : List Instr :=
  [.dueInstant, .shiftStart, .overdueInstant, .scheduleReached, .lineSilent .a, .lineSilent .b, .lineRecovery .a,
    .lineRecovery .b] ++
  (List.range 16).map (fun i => .peerLost (BitVec.ofNat 8 (i + 1))) ++ [.consoleDark, .listenEnd] ++
  (List.range 32).map (fun a => .orphanGraceRunOut (BitVec.ofNat 8 a)) ++
  [.offerTimeout, .decisionWindow, .commitWait, .scheduledOfferFire, .refreshWaitFailure, .refreshStallFailure,
    .pictureRequestRepeat] ++ List.replicate 8 .rebadgeClaimBuild ++ [.shelfExpiry, .responseDeadline]

/-- The state after a command. -/
def ran (s : State) (c : Instr) : State :=
  match exec c s with
  | .next t => t
  | .fault _ => s
  | .refused _ => s

/-- A state after what is left of the last second event's work: as it was where each row has been done. -/
def leftOver (s : State) : State := workRows.foldl ran s

/-- An instant lies after one mill time and at or before another. -/
abbrev Crosses (instant : Nat → Bool) (t0 t1 : Nat) : Prop := ∃ i, t0 < i ∧ i ≤ t1 ∧ instant i = true

/-- The first check that an offer of areas `m` to station `n` fails: those of R115 in their order, with those of R126 in
place of the last five where `n` is this station; none if it passes. `flooded`: the flood states that they find. -/
def offerFails (s : State) (flooded : Nat → Bool) (n : Station) (m : AreaSet) : Option ResultCode :=
  if s.node.mode ≠ .active then some .badState
  else if n.toNat < 1 ∨ 16 < n.toNat ∨ (s.node.number ≠ some n ∧ m = 0) then some .badValue
  else if s.signOn.active = none then some .notSignedOn
  else if s.handover.outgoing ≠ .idle ∨ (s.node.number = some n ∧ s.handover.incoming ≠ .idle) then some .handoverBusy
  else if s.node.number = some n then
    if s.signOn.relief = none then some .noRelief
    else if (List.range 32).any (fun a => s.holds a && flooded a) then some .flooded
    else none
  else if (List.range 32).any (fun a => m.getLsbD a && !s.holds a) then some .notHeld
  else if (List.range 32).any (fun a => m.getLsbD a && flooded a) then some .flooded
  else if s.peerReady n = false then some .peerUnknown
  else if (List.range 32).any (fun a => m.getLsbD a && !s.signOn.active.any fun x => s.permits x .hold a) then
    some .notPermitted
  else if 8 ≤ s.tx.urgent.length then some .queueFull
  else none

/-- The port with a flag latched. -/
def flagged (s : State) (f : Flag) : Port := { s.port with attention := plus s.port.attention f }

/-- The scheduler with a built frame at the tail of the urgent queue. -/
def queued (s : State) (f : Frame) : Transmit := { s.tx with urgent := s.tx.urgent ++ [⟨f, none⟩] }

/-- A state in which the sender of a frame has this peer record, PEER_CHANGE latched: what tracking makes of a peer that is
new or LOST (R154, R155). -/
def peered (s : State) (rx : Rx) (r : PeerRecord) : State :=
  { s with peers := s.peers.set (rx.sender.toNat - 1) (some r), port := flagged s .peerChange }

/-- A peer record with the fields that a presence replaces (R156, R157, R160). -/
def shown (s : State) (r : PeerRecord) (p : PresenceBody) : PeerRecord :=
  { r with
    silence := 0
    info := some ⟨p.dark, p.overdue, p.pictureValid, p.activeBadge, p.activeRank, p.reliefBadge, p.lineA, p.lineB, p.claims⟩
    mark := if p.joinMark = true then .yes else .no
    digestMatch := if s.node.digest = some p.digest then .yes else .no
    millDiff := some ((p.millTime.toNat : Int) - s.clock.millTime)
    trouble := if p.reports = .none then r.trouble else some p.reports }

/-- A presence shows a restart of its sender (R157). -/
abbrev Restarts (r : PeerRecord) (p : PresenceBody) : Prop := p.joinMark = true ∧ r.mark = .no

/-- A presence latches a flag, its claims apart: PEER_CHANGE where its sender restarts or goes dark or comes back,
PEER_TROUBLE at a rank-0 station, CONFIG_DIFFERS, TIME_SKEW, BADGE_TWICE, and HANDOVER_FAILED where it ends an offer to or
from its sender (R156, R157, R160, R75, R123). -/
abbrev Latches (s : State) (n : Station) (r : PeerRecord) (p : PresenceBody) (f : Flag) : Prop :=
  (f = .peerChange ∧ (Restarts r p ∨ (p.dark = true ↔ ∀ i, r.info = some i → i.dark = false))) ∨
  (f = .peerTrouble ∧ s.rankZero = true ∧
    ((p.overdue = true ∧ ∀ i, r.info = some i → i.overdue = false) ∨ p.reports ≠ .none ∨
      (∃ i, r.info = some i ∧ (i.lineA ≠ p.lineA ∨ i.lineB ≠ p.lineB)) ∨
      (r.info = none ∧ (p.lineA ≠ 0 ∨ p.lineB ≠ 0)))) ∨
  (f = .configDiffers ∧ s.node.digest ≠ some p.digest ∧ r.digestMatch ≠ .no) ∨
  (f = .timeSkew ∧ 2 < ((p.millTime.toNat : Int) - s.clock.millTime).natAbs ∧
    ∀ d, r.millDiff = some d → d.natAbs ≤ 2) ∨
  (f = .badgeTwice ∧ ∃ b x, (b = p.activeBadge ∨ b = p.reliefBadge) ∧ b ≠ 0 ∧ x.badge = b ∧
    (s.signOn.active = some x ∨ s.signOn.relief = some x)) ∨
  (f = .handoverFailed ∧ (p.dark = true ∨ Restarts r p) ∧
    ((∃ o, s.handover.outgoing = .offered o ∧ o.target = n) ∨
      ∃ o a, (s.handover.incoming = .presented o ∨ s.handover.incoming = .answered o a) ∧ o.origin = n))

/-- A state after this station has lost an area: it leaves the re-badge list and the outgoing offer, and a remote OFFERED
one left without areas ends AREAS_LOST, with its WITHDRAW if that has a place (R121, R124, R127). -/
def areaGone (a : Nat) (s : State) : State :=
  let h := { s.handover with rebadge := s.handover.rebadge &&& ~~~BitVec.twoPow 32 a }
  match s.handover.outgoing with
  | .idle => { s with handover := h }
  | .committing o =>
    { s with handover := { h with outgoing := .committing { o with areas := o.areas &&& ~~~BitVec.twoPow 32 a } } }
  | .offered o =>
    let left := o.areas &&& ~~~BitVec.twoPow 32 a
    if left ≠ 0 ∨ s.node.number = some o.target then
      { s with handover := { h with outgoing := .offered { o with areas := left } } }
    else
      { s with
        handover := { h with outgoing := .idle, lastOut := some ⟨o.number, o.target, .areasLost⟩ }
        tx := if s.tx.urgent.length < 8 then queued s (.withdraw o.number o.target) else s.tx
        port := flagged s .handoverFailed }

/-- A claim of station `n` beats a record: a higher serial, or an equal one and no lower station holds the area (R88). -/
def beats (n : Station) (serial : Half) (r : Area) : Bool :=
  decide (r.serial.toNat < serial.toNat) ||
    (r.serial == serial && match r.hold with
      | .held t0 _ => decide (n.toNat ≤ t0.toNat)
      | .unheld => true
      | .orphaned _ _ _ _ => true)

/-- A record already ORPHANED with this holder and serial (R95). -/
def orphanedBy (n : Station) (serial : Half) (r : Area) : Bool :=
  match r.hold with
  | .orphaned t0 _ _ _ => t0 == n && r.serial == serial
  | .unheld => false
  | .held _ _ => false

/-- A state after an accepted claim has given an area these hold fields: handed on, and where this station held the area
CLAIM_LOST latched if that is a loss, and the area-lost notice given if the area has left the held set (R89, R124). -/
def claimed (h : Hold) (serial : Half) (loss : Bool) (a : Nat) (s : State) : State :=
  let u := handedOn a s { s with areas := s.areas.set a { s.area a with hold := h, serial := serial } }
  let v := if s.holds a && loss then { u with lastLost := some a, port := flagged u .claimLost } else u
  if s.holds a && !u.holds a then areaGone a v else v

/-- What a claim that holds an area at station `n` makes of a state; none for an area not configured and for a rejected
claim (R87, R88). `orphan`: an accepted one leaves the area ORPHANED with its grace RUNNING (R95, R120). -/
def tried (n : Station) (b : Badge) (orphan loss : Bool) (serial : Half) (a : Nat) (s : State) : Option State :=
  if (s.area a).config.isNone || !beats n serial (s.area a) then none
  else some (claimed (if orphan then .orphaned n b s.clock.now .running else .held n b) serial loss a s)

/-- A state after one claim of a presence of station `n`. One for an area not configured, or rejected, changes nothing; an
accepted one makes the area HELD by `n`, or ORPHANED with its grace RUNNING where the presence is dark, unless it is so
at that serial already; this station's loss latches CLAIM_LOST (R87 to R89, R95). -/
def settled (n : Station) (p : PresenceBody) (s : State) (e : ClaimEntry) : State :=
  if p.dark && orphanedBy n e.serial (s.area e.area.toNat) then s
  else (tried n (e.badge.getD p.activeBadge) p.dark true e.serial e.area.toNat s).getD s

/-- One entry of a COMMIT that names station `n` as incoming: the areas whose claims have been accepted, and the state
(R87, R120). -/
def committedTo (n : Station) (b : Badge) (orphan loss : Bool) (x : AreaSet × State) (e : CommitEntry) : AreaSet × State :=
  match tried n b orphan loss e.serial e.area.toNat x.2 with
  | none => x
  | some t => (x.1 ||| BitVec.twoPow 32 e.area.toNat, t)

/-- A COMMIT's claims leave their areas ORPHANED: at the incoming station when its active slot is empty, at any other one
whose peer record of it is LOST or dark (R120). -/
def commitOrphaned (n : Station) (s : State) : Bool :=
  if s.node.number = some n then s.signOn.active.isNone else (s.peer n).any fun r => r.state == .lost || r.isDark

/-- The scope of the window admits a record (R40). -/
def admitted (s : State) (r : AlarmRecord) : Bool :=
  match s.window.scope with
  | .focus => !r.handling.isShelved && decide (s.window.focus = some r.id.area)
  | .held => !r.handling.isShelved && s.holds r.id.area.toNat
  | .all => !r.handling.isShelved
  | .shelved => r.handling.isShelved

/-- This station is a target of an area's records that nobody holds, or that are escalated: it is the area's standby
station, or a rank-0 station (R14). -/
abbrev Targets (s : State) (a : Nat) : Prop :=
  (∃ k n, (s.area a).config = some k ∧ k.standby = some n ∧ s.node.number = some n) ∨
    ∃ x, s.signOn.active = some x ∧ x.rank = 0

/-- A shelf has run out (R34; an expiry less than 2^31 s past: log entry 17). -/
abbrev RunOut (s : State) (r : AlarmRecord) : Prop :=
  ∃ e n b, r.handling = .shelved e n b ∧ (s.clock.now - e).toNat < 2147483648

/-- The commands that are console requests. -/
def isRequest (c : Instr) : Bool :=
  match c with
  | .unknownRequest _ => true
  | c => (requestBytes 0 c).isSome

end Sys2Proof.Claims

open Sys2Proof Sys2Proof.Machine Sys2Proof.Claims

/-! ### The block -/

/-- Tier 1. The step takes the command at the front of the queue, and idles on an empty one (log entries 1 and 2). -/
def Obligations.StepRunsTheFrontCommand : Prop :=
  (∀ c q s, s.pending = c :: q → step s = exec c { s with pending := q }) ∧ (∀ s, s.pending = [] → step s = .next s)

/-- Tier 2. Every queue of commands runs out: no command stops the block, and each leaves the commands that wait as they
were. The manual names no condition that stops the part; it knows no queue, which is the model's: that the step takes
its front and idles when it is empty, and that a reset leaves it, are the model's choice (log entries 1, 2 and 28). -/
def Obligations.EveryQueueRunsOut : Prop :=
  (∀ s, ∃ t, SafeRun s t ∧ t.pending = []) ∧ ∀ c s t, exec c s = .next t → t.pending = s.pending

/-- Tier 1. The state after reset is sound. -/
def Obligations.ResetIsSound : Prop := State.reset.Sound

/-! ### What every step keeps -/

/-- Tier 3. The alarm list holds at most 256 records, one for each id, ordered by priority and then by arrival second, no
record ACK and CLEARED at once and none escalated but an UNACK one (R1, R3, R9, R38; of R2 the first two keys, arrival
seconds as plain numbers: log entry 35). ChangeEntriesChangeTheList states the third key, the arrival sequence. -/
def Obligations.StepKeepsList : Prop := ∀ s t, s.Sound → step s = .next t → ListSound t.picture.list

/-- Tier 3. R60: every load lies in 0..65535 and every flood-off level below its flood-on level; an area at or above its
flood-on level is in FLOOD, and one in FLOOD is above its flood-off level. Every step keeps this true. -/
def Obligations.StepKeepsLoads : Prop := ∀ s t, s.Sound → step s = .next t → ∀ r ∈ t.areas, r.LoadSound

/-- Tier 3. Mill time, trim phase, trim and pattern stay in their ranges, and the shift number and lead state stay those
of mill time, but for an instant of the last second event that the model still holds marked (log entry 3); the next
shift start may lie beyond 2099 (log entry 18). -/
def Obligations.StepKeepsCalendar : Prop :=
  ∀ s t, s.Sound → step s = .next t → ClockSound t.clock ∧ CalendarSound t

/-- Tier 3. No queue outgrows its places and the failed attempts stay at 8 (R13, R134, R139, R167); the top position lies
within the scoped list and the cursor row in 0..7 (R40, R41). -/
def Obligations.StepKeepsQueuesAndWindow : Prop :=
  ∀ s t, s.Sound → step s = .next t → QueuesSound t ∧ WindowSound t

/-- Tier 3. The lamp shows the routed sets and the horn sounds only for a routed UNACK record, in the pattern of the
highest priority (R15, R17, R29). A record is routed here when its area is HELD here; when its area is UNHELD or ORPHANED,
or the record is escalated, it is routed to the area's standby station and to a rank-0 station (R14). -/
def Obligations.StepKeepsAnnunciator : Prop :=
  (∀ s t, s.Sound → step s = .next t → AnnunciatorSound t) ∧
    ∀ s : State,
      (∀ a, s.holds a = true ↔ ∃ n b, (s.area a).hold = .held n b ∧ s.node.number = some n) ∧
      (∀ a, s.heldSet.getLsbD a = true ↔ a < 32 ∧ s.holds a = true) ∧
      (∀ r, s.routed r = true ↔
        (∃ n b, (s.area r.id.area.toNat).hold = .held n b ∧ s.node.number = some n) ∨
        ((s.area r.id.area.toNat).hold = .unheld ∧ Targets s r.id.area.toNat) ∨
        ((∃ n b f g, (s.area r.id.area.toNat).hold = .orphaned n b f g) ∧ Targets s r.id.area.toNat) ∨
        (r.escalated = true ∧ Targets s r.id.area.toNat)) ∧
      (∀ r, r ∈ s.routedUnack ↔ r ∈ s.picture.list ∧ r.handling = .unack ∧ s.routed r = true) ∧
      (∀ r, r ∈ s.routedAck ↔ r ∈ s.picture.list ∧ (∃ n b, r.handling = .ack n b) ∧ s.routed r = true) ∧
      (∀ p, highest s.routedUnack = some p → (∃ r ∈ s.routedUnack, r.priority = p) ∧
        ∀ r ∈ s.routedUnack, p.num ≤ r.priority.num)

/-- Tier 3. The outgoing offer and the re-badge list name held areas only (R124, R127). -/
def Obligations.StepKeepsOffers : Prop := ∀ s t, s.Sound → step s = .next t → HandoverSound t

/-- Tier 3. Only an ACTIVE station is sending, the peer table holds no record of the station's own number, a LOST peer's
comparisons are forgotten, and the pending answer carries the answer counter (R147, R154, R155, R175). -/
def Obligations.StepKeepsStation : Prop :=
  ∀ s t, s.Sound → step s = .next t → StationSound t ∧ PeersSound t ∧ PortSound t.port

/-! ### Rules of the whole machine -/

/-- Tier 3. Outside CONFIG no command but a power-on reset or RESET_N changes the configuration of an area, the shift
pattern, the station number, the gap setting or the configuration digest formed of them (R147, R160). -/
def Obligations.ConfigurationIsLocked : Prop :=
  ∀ c s t, exec c s = .next t → s.node.mode ≠ .config → c ≠ .powerOnReset → c ≠ .resetN →
    t.areas.map Area.config = s.areas.map Area.config ∧ t.clock.pattern = s.clock.pattern ∧
      t.node.number = s.node.number ∧ t.node.gap = s.node.gap ∧ t.node.digest = s.node.digest

/-- Tier 3. A latched flag stays set through every command but READ ATTENTION, RESTART, a power-on reset and RESET_N. -/
def Obligations.FlagsStayLatched : Prop :=
  ∀ c s t f, exec c s = .next t → s.flagSet f = true →
    c ≠ .readAttention → c ≠ .restart → c ≠ .powerOnReset → c ≠ .resetN → t.flagSet f = true

/-- Tier 3. An area's claim serial never decreases, except through a power-on reset, RESET_N or RESTART. -/
def Obligations.ClaimSerialNeverFalls : Prop :=
  ∀ c s t a, exec c s = .next t → c ≠ .restart → c ≠ .powerOnReset → c ≠ .resetN →
    (s.area a).serial.toNat ≤ (t.area a).serial.toNat

/-- Tier 2. Only the second event moves station-seconds, by one; a reset or RESTART sets them to 0. -/
def Obligations.StationSecondsMoveByOne : Prop :=
  ∀ c s t, exec c s = .next t →
    t.clock.now = s.clock.now ∨ (c = .secondEvent ∧ t.clock.now = s.clock.now + 1) ∨
      (t.clock.now = 0 ∧ (c = .restart ∨ c = .powerOnReset ∨ c = .resetN))

/-- Tier 2. A transmission starts only at an access of an ACTIVE station: one in any other state sends nothing. -/
def Obligations.OnlyAnActiveStationSends : Prop :=
  ∀ c s t, exec c s = .next t → s.bus.sending = none → t.bus.sending ≠ none →
    s.node.mode = .active ∧ ∃ slot, c = .accessStart slot

/-- Tier 2. A refused request changes no state but the check-in and the answer; GONE and CHANGED also retake the
snapshot, which their answer carries. -/
def Obligations.RefusalsChangeNothing : Prop :=
  ∀ c s t, isRequest c = true → Open s → exec c s = .next t → t.port.answer.result ≠ .ok →
    ((t.port.answer.result ≠ .gone ∧ t.port.answer.result ≠ .changed) →
      t = told s t.port.answer.request t.port.answer.result .empty) ∧
    ((t.port.answer.result = .gone ∨ t.port.answer.result = .changed) →
      t = { s with
        node := noted s
        port := answered s t.port.answer.request t.port.answer.result (.bytes (snapshotBytes s.snapshotHere))
        window := { s.window with snapshot := s.snapshotHere } })

/-! ### Encodings -/

/-- Tier 2. Every frame body that fits the layout of its kind is read back as it was built. -/
def Obligations.FrameBodiesReadBack : Prop := ∀ f, frameFits f = true → decodeFrame (frameKind f) (frameBody f) = some f

/-- Tier 2. A frame sent is the frame received: its bytes on a line, and its bits, are a good copy, and the copy is the
command of its kind from that sender. A byte is a start bit, its bits from the least significant, and a stop bit; with
one stop bit wrong the copy is not good. -/
def Obligations.SentFrameIsReceived : Prop :=
  (∀ b : Byte, lineBits [b] = [false, b.getLsbD 0, b.getLsbD 1, b.getLsbD 2, b.getLsbD 3, b.getLsbD 4, b.getLsbD 5,
    b.getLsbD 6, b.getLsbD 7, true]) ∧
  (∀ f (sender seq : Byte) own copyA copyB, frameFits f = true → stationOk sender = true → own ≠ some sender →
    ∃ raw, goodCopy (wire (frameKind f) sender seq (frameBody f)) = some raw ∧
      goodBits (lineBits (wire (frameKind f) sender seq (frameBody f))) = some raw ∧
      receivedCommand own raw copyA copyB = received ⟨sender, seq, copyA, copyB⟩ f) ∧
  (∀ l i, i < l.length → goodBits ((lineBits l).set (10 * i + 9) false) = none)

/-- Tier 2. Every well-formed request, in the code and body of 13.4, is read back as that request; an OFFER HANDOVER
that names this station is the seat change. -/
def Obligations.RequestsReadBack : Prop :=
  ∀ own c code body, c.wellFormed = true → requestBytes own c = some (code, body) →
    requestCommand (some own) code body =
      match c with
      | .offerHandover t m => if t = own then .offerSeatChange m else .offerHandover t m
      | c => c

/-! ### Resets and the port -/

/-- Tier 1. What a power-on reset and RESET_N leave; the commands that wait are no part of the station (log entry 2),
and the mark of a firing is the model's own (log entry 4). -/
def Obligations.HardResetsEmptyTheStation : Prop :=
  ∀ c s, c = .powerOnReset ∨ c = .resetN →
    ∃ t, exec c s = .next t ∧ t.pending = s.pending ∧
      t.node.mode = .config ∧ t.node.number = none ∧ t.node.gap = 1 ∧ t.node.digest = none ∧ t.node.dark = false ∧
      t.node.lastCheckIn = 0 ∧ t.node.listStart = 0 ∧ t.node.reports = .none ∧
      t.picture = { list := [], arrivals := 0, lastStale := none, horn := .quiet, lamp := .off } ∧
      t.window = { scope := .all, focus := none, top := 0, row := 0, direction := .down, follow := true,
                   snapshot := none, changed := false } ∧
      (∀ a, t.area a = { config := none, hold := .unheld, serial := 0, load := 0, flood := false }) ∧
      t.lastLost = none ∧ t.signOn = { active := none, relief := none } ∧
      t.clock.millTime = 0 ∧ t.clock.now = 0 ∧ t.clock.trim = 0 ∧ t.clock.phase = 0 ∧
      t.clock.pattern = { perDay := 1, firstStart := 0, lead := 0, grace := 0 } ∧
      t.clock.shift = 1 ∧ t.clock.inLead = false ∧ t.clock.overdue = false ∧
      t.handover = { outgoing := .idle, incoming := .idle, scheduled := .empty, counter := 0, lastOut := none,
                     lastIn := none, fireResult := none, rebadge := 0, fireBySecond := false } ∧
      t.bus.lineA.state = .good ∧ t.bus.lineA.quiet = 0 ∧ t.bus.lineB.state = .good ∧ t.bus.lineB.quiet = 0 ∧
      t.bus.seq = 0 ∧ (∀ n, t.lastSeq n = none) ∧ t.bus.fails = 0 ∧ t.bus.sending = none ∧
      t.tx = { urgent := [], change := [], changeFrame := none, presence := none, nextPresence := none,
               pictureFrame := none } ∧
      (∀ n, t.peer n = none) ∧
      t.transfer = { valid := false, refresh := none, pendingEvents := [], serving := .idle } ∧
      t.port.answer = { result := .ok, number := 0, request := 0, body := .empty } ∧ t.port.counter = 0 ∧
      t.port.busy = false ∧ t.port.attention = 0 ∧ t.port.started = false

/-- Tier 1. RESTART keeps the configuration, the station number, the gap setting, the digest, mill time, trim and the
shift pattern, goes to READY (CONFIG stays CONFIG), answers its own OK numbered 0, and empties the rest. Of the lines,
that no good copy counts as heard and that no line is about to go SILENT are the model's own (log entries 9 and 3), as
is that the commands that wait are left (log entries 2 and 28). -/
def Obligations.RestartKeepsTheConfiguration : Prop :=
  ∀ s, Open s →
    ∃ t, exec .restart s = .next t ∧ t.pending = s.pending ∧
      t.node.mode = (if s.node.mode = .config then .config else .ready) ∧ t.node.number = s.node.number ∧
      t.node.gap = s.node.gap ∧ t.node.digest = s.node.digest ∧ t.node.dark = false ∧ t.node.lastCheckIn = 0 ∧
      t.node.listStart = 0 ∧ t.node.reports = .none ∧
      t.areas = s.areas.map (fun r => { config := r.config, hold := .unheld, serial := 0, load := 0, flood := false }) ∧
      t.clock.millTime = s.clock.millTime ∧ t.clock.trim = s.clock.trim ∧ t.clock.pattern = s.clock.pattern ∧
      t.clock.now = 0 ∧ t.clock.phase = 0 ∧ t.clock.overdue = false ∧
      t.clock.shift = s.clock.pattern.shiftOf s.clock.millTime ∧
      t.clock.inLead = s.clock.pattern.inLead s.clock.millTime ∧
      t.port = { started := true, busy := true, counter := 0, attention := 0
                 answer := { result := .ok, number := 0, request := 0x0B, body := .empty } } ∧
      t.picture = State.reset.picture ∧ t.window = State.reset.window ∧ t.lastLost = none ∧
      t.signOn = State.reset.signOn ∧ t.handover = State.reset.handover ∧ t.bus = State.reset.bus ∧
      t.tx = State.reset.tx ∧ t.peers = State.reset.peers ∧ t.transfer = State.reset.transfer

/-- Tier 1. The part's start and the end of a busy period change the port alone; a discarded transaction, and a request
made while the port is busy or has not started, change no state. A half second, which names its output (log entry 25),
moves a SOUNDING horn along its pattern's cycle and turns a FLASHING lamp over. The status byte, ATTN_N, HORN, LAMP and
MISO as the state gives them (log entry 29): MISO is high-impedance while CS_N is high or a reset lasts and shifts each
byte out most significant bit first, as MOSI is read. The status byte comes first, then FFh while the port is not open,
and otherwise the pending answer, as result code, answer number, request code, body length and body, followed by FFh
(R174, R175, 13.4). A body whose layout 13.4 does not give is some bytes, at most 125 (log entry 8). -/
def Obligations.PortAndCadenceEvents : Prop :=
  ∀ s, exec .partStart s = .next { s with port := { s.port with started := true } } ∧
    exec .busyPeriodEnd s = .next { s with port := { s.port with busy := false } } ∧
    (∀ cause, exec (.discardedTransaction cause) s = .next s) ∧
    (∀ c, isRequest c = true → ¬Open s → exec c s = .next s) ∧
    (∀ p half, s.picture.horn = .sounding p half →
      exec (.annunciatorHalfSecond .horn) s = .next { s with picture := { s.picture with
        horn := .sounding p ((half + 1) % (match p with
          | .steady => 1
          | .oneHz => 2
          | .halfHz => 4)) } }) ∧
    (∀ high, s.picture.lamp = .flashing high →
      exec (.annunciatorHalfSecond .lamp) s = .next { s with picture := { s.picture with lamp := .flashing !high } }) ∧
    (s.picture.horn = .quiet ∨ s.picture.horn = .silenced → exec (.annunciatorHalfSecond .horn) s = .next s) ∧
    (s.picture.lamp = .off ∨ s.picture.lamp = .steady → exec (.annunciatorHalfSecond .lamp) s = .next s) ∧
    ((s.statusByte.getLsbD 7 = true ↔ ¬Open s) ∧ (s.statusByte.getLsbD 6 = true ↔ ∃ f, s.flagSet f = true) ∧
      s.statusByte.getLsbD 5 = s.window.changed ∧ s.statusByte.getLsbD 4 = s.node.dark ∧
      s.statusByte.getLsbD 3 = false ∧ s.statusByte.extractLsb' 0 3 = (match s.node.mode with
        | .config => 0
        | .ready => 1
        | .joining => 2
        | .active => 3
        | .mute => 4)) ∧
    (s.attnLow = true ↔ s.port.started = true ∧ ∃ f, s.flagSet f = true) ∧
    (s.hornPin = true ↔ s.port.started = true ∧ ((∃ h, s.picture.horn = .sounding .steady h) ∨
      (∃ h, s.picture.horn = .sounding .oneHz h ∧ h % 2 = 0) ∨
      (∃ h, s.picture.horn = .sounding .halfHz h ∧ h % 4 < 2))) ∧
    (s.lampPin = true ↔ s.port.started = true ∧ (s.picture.lamp = .steady ∨ s.picture.lamp = .flashing true)) ∧
    (∀ k reset cs, s.misoPin reset cs k = none ↔ reset = true ∨ cs = true) ∧
    (∀ k, k < 8 → s.misoPin false false k = some (s.statusByte.getMsbD k)) ∧
    (¬Open s → ∀ k, 8 ≤ k → s.misoPin false false k = some true) ∧
    (∀ k, ∃ b, (s.shiftedOut (k / 8 + 1)).getLast? = some b ∧ s.misoPin false false k = some (b.getMsbD (k % 8))) ∧
    (¬Open s → ∀ n, s.shiftedOut n = (s.statusByte :: List.replicate n 0xFF).take n) ∧
    (Open s → ∀ n body, body = bodyBytes s.port.answer.body →
      s.shiftedOut n = (s.statusByte :: resultByte s.port.answer.result :: s.port.answer.number ::
        s.port.answer.request :: BitVec.ofNat 8 body.length :: body ++ List.replicate n 0xFF).take n) ∧
    [ResultCode.ok, .busy, .badState, .badValue, .notSignedOn, .notPermitted, .notFeed, .queueFull, .occupied, .holding,
      .badgeInUse, .notHeld, .flooded, .shelfFull, .noArea, .emptyRow, .gone, .changed, .notFound, .peerUnknown,
      .handoverBusy, .notQualified, .noRelief].map resultByte = (List.range 23).map (BitVec.ofNat 8) ∧
    bodyBytes .empty = [] ∧ (∀ l, bodyBytes (.bytes l) = l) ∧
    (∀ b, (∀ l, b ≠ .bytes l) → (bodyBytes b).length ≤ 125) ∧
    (∀ l : List Byte, s.sampled (l.flatMap portBits) = s.transaction false l) ∧
    (∀ b : Byte, portBits b = [b.getMsbD 0, b.getMsbD 1, b.getMsbD 2, b.getMsbD 3, b.getMsbD 4, b.getMsbD 5,
      b.getMsbD 6, b.getMsbD 7])

/-- Tier 1. NOP and the reads that clear nothing are answered in every station state and change nothing but the check-in
and the answer; an unknown code or a body of the wrong length is answered BAD_VALUE. The status, the handover state and
an area's record are given item by item (R82, R100, R130, R171, R179). That the horn's pattern stands in the status only
while it is SOUNDING is the model's choice (log entry 48), as is what a state carries beyond its item: the halves of
horn and lamp, a line's fault second, the serving station and last frame second, an area's orphan since (log entry 51).
A next shift start may lie beyond 2099 (log entry 18). -/
def Obligations.ReadsChangeNothing : Prop :=
  ∀ s, Open s →
    exec .nop s = .next (told s 0x01 .ok .empty) ∧
    (∀ code, Refuses (.unknownRequest code) code .badValue s) ∧
    (∃ held : AreaSet,
      (∀ a, held.getLsbD a = true ↔ a < 32 ∧ ∃ n b, (s.area a).hold = .held n b ∧ s.node.number = some n) ∧
      exec .readStatus s = .next (told s 0x02 .ok (.status
        { mode := s.node.mode, number := s.node.number, gap := s.node.gap, dark := false, sinceCheckIn := 0
          digest := s.node.digest, millTime := s.clock.millTime, now := s.clock.now, trim := s.clock.trim
          pattern := s.clock.pattern, shift := s.clock.shift, inLead := s.clock.inLead, overdue := s.clock.overdue
          nextStart := s.clock.pattern.nextStart s.clock.millTime
          active := s.signOn.active.map (slotOf s), relief := s.signOn.relief.map (slotOf s)
          activeStepRank := s.signOn.active.map fun o => max o.rank (o.acting.getD o.rank)
          listLength := s.picture.list.length, lastStale := s.picture.lastStale
          horn := s.picture.horn, lamp := s.picture.lamp, heldSet := held, lastLost := s.lastLost
          urgentFree := 8 - s.tx.urgent.length, changeFree := 32 - s.tx.change.length
          lineA := s.bus.lineA.state, quietA := s.bus.lineA.quiet
          lineB := s.bus.lineB.state, quietB := s.bus.lineB.quiet, fails := s.bus.fails
          pictureValid := s.transfer.valid, refreshPhase := s.transfer.refresh.map fun x => x.phase
          attempt := match s.transfer.refresh with
            | none => 0
            | some x => x.attempt
          taken := match s.transfer.refresh with
            | none => 0
            | some x => x.taken
          pendingCount := s.transfer.pendingEvents.length
          streaming := match s.transfer.serving with
            | .idle => false
            | .streaming _ => true
          activeSize := match s.transfer.serving with
            | .idle => 0
            | .streaming x => ((List.range 16).filter x.active.getLsbD).length
          stagedSize := match s.transfer.serving with
            | .idle => 0
            | .streaming x => ((List.range 16).filter x.staged.getLsbD).length }))) ∧
    (∃ floods age left, exec .readHandover s = .next (told s 0x09 .ok (.handover
        { outgoing := s.handover.outgoing, outgoingAge := age, incoming := s.handover.incoming, remaining := left
          floods := floods, scheduled := s.handover.scheduled, counter := s.handover.counter
          lastOut := s.handover.lastOut, lastIn := s.handover.lastIn, fireResult := s.handover.fireResult })) ∧
      (s.handover.outgoing = .idle → age = none) ∧
      (∀ o, s.handover.outgoing = .offered o ∨ s.handover.outgoing = .committing o →
        age = some (s.clock.now - o.start).toNat) ∧
      (s.handover.incoming = .idle → left = none ∧ floods = []) ∧
      (∀ o, s.handover.incoming = .presented o → left = some (110 - (s.clock.now - o.start).toNat)) ∧
      (∀ o f, s.handover.incoming = .answered o f → left = some (10 - (s.clock.now - f).toNat)) ∧
      (∀ o f, s.handover.incoming = .presented o ∨ s.handover.incoming = .answered o f →
        floods = ((List.range 32).filter o.areas.getLsbD).map fun a => (a, (s.area a).flood))) ∧
    (∀ n : Byte, (¬(1 ≤ n.toNat ∧ n.toNat ≤ 16) → Refuses (.readPeer n) 0x04 .badValue s) ∧
      ((1 ≤ n.toNat ∧ n.toNat ≤ 16) → s.peer n = none → Refuses (.readPeer n) 0x04 .notFound s) ∧
      (∀ r, (1 ≤ n.toNat ∧ n.toNat ≤ 16) → s.peer n = some r →
        exec (.readPeer n) s = .next (told s 0x04 .ok (.peer n r)))) ∧
    (∀ a : Byte, (32 ≤ a.toNat → Refuses (.readArea a) 0x05 .badValue s) ∧
      (a.toNat < 32 → ∃ flight, exec (.readArea a) s = .next (told s 0x05 .ok (.area
          { config := (s.area a.toNat).config, hold := (s.area a.toNat).hold, serial := (s.area a.toNat).serial
            load := (s.area a.toNat).load, flood := (s.area a.toNat).flood, inFlight := flight
            orphanAge := match (s.area a.toNat).hold with
              | .orphaned _ _ since _ => some (s.clock.now - since).toNat
              | .unheld => none
              | .held _ _ => none })) ∧
        ((∀ x ∈ s.tx.urgent, (∀ r n b, x.frame ≠ .claim r a n b) ∧ ∀ n b, x.frame ≠ .take a n b) → flight = none) ∧
        (∀ l x m n, s.tx.urgent = l ++ x :: m →
          (∀ y ∈ l, (∀ r n b, y.frame ≠ .claim r a n b) ∧ ∀ n b, y.frame ≠ .take a n b) →
          (∃ r b, x.frame = .claim r a n b) ∨ (∃ b, x.frame = .take a n b) → flight = some n)))

/-- Tier 2. READ ALARM answers the record in its 25 bytes, the number of records before it first; READ LIST answers the
list's length and up to four records from the start position on, each as READ ALARM answers it. The record's bytes:
position, area, point, record flags, occurrence, raise time, age, feed station, acknowledged-by and shelf, zeros where
the handling carries none (R18, R182, 13.4; of the remaining seconds of an absent shelf that is the model's choice: log
entry 47). The remaining seconds of a shelf are stated below 65536; above, two bytes do not
hold them (log entry 38), and an expiry less than 2^31 s past has run out (log entry 17). -/
def Obligations.RecordsAreRead : Prop :=
  (∀ s, Open s →
    (∀ a p r l m, a.toNat < 32 → p.toNat < 4096 → s.picture.list = l ++ r :: m → r.id = ⟨a, p⟩ →
      (∀ x ∈ l, x.id ≠ ⟨a, p⟩) →
      exec (.readAlarm a p) s = .next (told s 0x06 .ok (.bytes (alarmBytes s.clock.now l.length r)))) ∧
    (∀ a p, (32 ≤ a.toNat ∨ 4096 ≤ p.toNat) → Refuses (.readAlarm a p) 0x06 .badValue s) ∧
    (∀ a p, a.toNat < 32 → p.toNat < 4096 → findRecord ⟨a, p⟩ s.picture.list = none →
      Refuses (.readAlarm a p) 0x06 .notFound s) ∧
    (∀ n, 255 < n.toNat → Refuses (.readList n) 0x07 .badValue s) ∧
    (∀ n, n.toNat ≤ 255 →
      ∃ body, exec (.readList n) s = .next (told s 0x07 .ok (.bytes body)) ∧
        body = octets 2 s.picture.list.length ++ ((List.range 4).filterMap fun i =>
          (s.picture.list[n.toNat + i]?).map (alarmBytes s.clock.now (n.toNat + i))).flatten ∧
        body.length = 2 + 25 * min 4 (s.picture.list.length - n.toNat))) ∧
  (∀ (now : Sec) k r, ∃ hand, alarmBytes now k r = BitVec.ofNat 8 k :: r.id.area :: octets 2 r.id.point.toNat ++
      flagsOf r :: r.occurrence :: octets 4 r.raiseTime.toNat ++ octets 4 (now - r.arrivalSec).toNat ++
        r.feed :: hand ∧
    hand.length = 10 ∧ (r.handling = .unack → hand = octets 10 0) ∧
    (∀ n b, r.handling = .ack n b → hand = n :: octets 3 b.toNat ++ octets 6 0) ∧
    (∀ e n b, r.handling = .shelved e n b →
      hand.take 8 = octets 4 0 ++ n :: octets 3 b.toNat ∧
      ((now - e).toNat < 2147483648 → hand.drop 8 = octets 2 0) ∧
      (2147483648 ≤ (now - e).toNat → (e - now).toNat < 65536 → hand.drop 8 = octets 2 (e - now).toNat)))

/-- Tier 1. READ ATTENTION answers the flags that are set, three bytes, and clears each of them. READ WINDOW answers the
window as it stands in its 51 bytes, and clears the window-changed indicator: scope, focus area or FFh, scoped length,
top position, cursor row, mode with bit 0 up and bit 1 follow on, snapshot, and the eight rows from the top position on,
an empty one as FFh and zeros (R51, R182, 13.4). -/
def Obligations.ReadsThatClear : Prop :=
  ∀ s, Open s →
    exec .readAttention s = .next { s with
      node := noted s
      port := { answered s 0x03 .ok (.bytes (octets 3 s.port.attention.toNat)) with attention := 0 } } ∧
    (∃ body, exec .readWindow s = .next { told s 0x08 .ok (.bytes body) with
        window := { s.window with changed := false } } ∧
      body.length = 51 ∧
      body = (match s.window.scope with
          | .focus => 0x00
          | .held => 0x01
          | .all => 0x02
          | .shelved => 0x03) :: s.window.focus.getD 0xFF :: octets 2 s.scoped.length ++
        BitVec.ofNat 8 s.window.top :: BitVec.ofNat 8 s.window.row ::
        BitVec.ofNat 8 ((if s.window.direction = .up then 1 else 0) + (if s.window.follow then 2 else 0)) ::
        (match s.window.snapshot with
          | some x => x.id.area :: octets 2 x.id.point.toNat ++ [x.occurrence]
          | none => [0xFF, 0, 0, 0]) ++
        ((List.range 8).map fun i => match s.scoped[s.window.top + i]? with
          | some r => r.id.area :: octets 2 r.id.point.toNat ++ [flagsOf r, r.occurrence]
          | none => [0xFF, 0, 0, 0, 0]).flatten)

/-! ### Setting up -/

/-- Tier 1. SET TRIM is answered in every station state with the trim as stored, clamped to −63..+63; SET STATION stores
the number and the gap setting in CONFIG. -/
def Obligations.TrimAndStationAreStored : Prop :=
  ∀ s, Open s →
    (∀ b : Byte, exec (.setTrim b) s = .next { told s 0x0A .ok (.trim (max (-63) (min 63 b.toInt))) with
      clock := { s.clock with trim := max (-63) (min 63 b.toInt) } }) ∧
    (∀ n g : Byte,
      (s.node.mode ≠ .config → Refuses (.setStation n g) 0x10 .badState s) ∧
      (s.node.mode = .config → ¬(1 ≤ n.toNat ∧ n.toNat ≤ 16 ∧ g.toNat ≤ 3) →
        Refuses (.setStation n g) 0x10 .badValue s) ∧
      (s.node.mode = .config → (1 ≤ n.toNat ∧ n.toNat ≤ 16 ∧ g.toNat ≤ 3) →
        exec (.setStation n g) s = .next { told s 0x10 .ok .empty with
          node := { noted s with number := some n, gap := g.setWidth 2 } }))

/-- Tier 2. SET AREA in CONFIG stores the configuration, a flood-on level below 256 as 256, a flood-off level at or
above the flood-on level as one below it and a shelve limit above 16 as 16, or returns the area to unconfigured; the
hold fields are not touched. A configured byte that does not fit its settings is refused (log entry 33). -/
def Obligations.SetAreaStoresTheConfiguration : Prop :=
  ∀ s (a c : Byte) x, Open s →
    (s.node.mode ≠ .config → Refuses (.setArea a c x) 0x11 .badState s) ∧
    (s.node.mode = .config → 32 ≤ a.toNat → Refuses (.setArea a c x) 0x11 .badValue s) ∧
    (s.node.mode = .config → c ≠ 0x00 → c ≠ 0x01 → Refuses (.setArea a c x) 0x11 .badValue s) ∧
    (s.node.mode = .config → a.toNat < 32 →
      exec (.setArea a 0x00 none) s = .next { told s 0x11 .ok (.areaConfig none) with
        areas := s.areas.set a.toNat { s.area a.toNat with config := none, load := 0, flood := false } }) ∧
    (∀ v, s.node.mode = .config → a.toNat < 32 → settingsValid v = true →
      ∃ k, exec (.setArea a 0x01 (some v)) s = .next { told s 0x11 .ok (.areaConfig (some k)) with
          areas := s.areas.set a.toNat { s.area a.toNat with config := some k } } ∧
        k.feed = v.feed ∧ k.standby = (if v.standby = 0 then none else some v.standby) ∧
        k.ackRank = v.ackRank.toNat ∧ k.shelveRank = v.shelveRank.toNat ∧ k.holdRank = v.holdRank.toNat ∧
        k.takeRank = v.takeRank.toNat ∧ k.floodOn = max 256 v.floodOn.toNat ∧
        k.floodOff = (if k.floodOn ≤ v.floodOff.toNat then k.floodOn - 1 else v.floodOff.toNat) ∧
        k.shelveLimit = min 16 v.shelveLimit.toNat) ∧
    (∀ v, settingsValid v = true ↔ (1 ≤ v.feed.toNat ∧ v.feed.toNat ≤ 16) ∧
      (v.standby = 0 ∨ (1 ≤ v.standby.toNat ∧ v.standby.toNat ≤ 16)) ∧ v.ackRank.toNat ≤ 3 ∧ v.shelveRank.toNat ≤ 3 ∧
      v.holdRank.toNat ≤ 3 ∧ v.takeRank.toNat ≤ 3) ∧
    (∀ v, s.node.mode = .config → a.toNat < 32 → settingsValid v = false →
      Refuses (.setArea a 0x01 (some v)) 0x11 .badValue s) ∧
    (∀ v, s.node.mode = .config → a.toNat < 32 →
      Refuses (.setArea a 0x00 (some v)) 0x11 .badValue s ∧ Refuses (.setArea a 0x01 none) 0x11 .badValue s)

/-- Tier 2. SET SHIFT PATTERN stores the pattern with its clamps and recomputes the shift number and the lead state from
mill time, firing nothing, once no instant of the last second event is marked (log entries 3 and 32). The shift number,
the shift starts with their due and overdue instants, the next shift start (beyond 2099 too: log entry 18) and the lead
state are those of the pattern (R108, R109). -/
def Obligations.SetShiftPatternRecomputes : Prop :=
  (∀ (p : ShiftPattern) T, 1 ≤ p.perDay → p.perDay ≤ 4 →
    p.shiftOf T = (if T < 60 * p.firstStart then 0
      else (T - 60 * p.firstStart) / 86400 * p.perDay +
        (T - 60 * p.firstStart) % 86400 / (60 * (1440 / p.perDay)) + 1) ∧
    (p.isStart T = true ↔
      ∃ day i, i < p.perDay ∧ T = 60 * p.firstStart + 86400 * day + i * (60 * (1440 / p.perDay))) ∧
    (p.isDue T = true ↔ p.isStart (T + 60 * p.lead) = true) ∧
    (p.isOverdue T = true ↔ ∃ S, p.isStart S = true ∧ T = S + 60 * p.grace) ∧
    (p.inLead T = true ↔ ∃ S, p.isStart S = true ∧ T < S ∧ S ≤ T + 60 * p.lead) ∧
    (p.isStart (p.nextStart T) = true ∧ T < p.nextStart T ∧
      ∀ S, p.isStart S = true → T < S → p.nextStart T ≤ S)) ∧
  ∀ s (n : Byte) (m : Half) (l g : Byte), Open s →
    (s.node.mode ≠ .config → Refuses (.setShiftPattern n m l g) 0x12 .badState s) ∧
    (s.node.mode = .config → ¬(1 ≤ n.toNat ∧ n.toNat ≤ 4 ∧ m.toNat ≤ 1439) →
      Refuses (.setShiftPattern n m l g) 0x12 .badValue s) ∧
    (s.node.mode = .config → (1 ≤ n.toNat ∧ n.toNat ≤ 4 ∧ m.toNat ≤ 1439) → s.second.due = false →
      s.second.start = false → s.second.overdue = false → s.second.schedule = false →
      ∃ p, p = { perDay := n.toNat, firstStart := m.toNat, lead := min 120 l.toNat, grace := min 120 g.toNat } ∧
        exec (.setShiftPattern n m l g) s =
          .next { told s 0x12 .ok (.pattern p (p.shiftOf s.clock.millTime)) with
            clock := { s.clock with
              pattern := p, shift := p.shiftOf s.clock.millTime, inLead := p.inLead s.clock.millTime } })

/-- Tier 2. SET CLOCK: who may set it, and what a step leaves once no instant of the last second event is marked (log
entries 3 and 32). A backward step recomputes the calendar and fires nothing. A forward step acts once on each kind of
instant it crosses, due, start and overdue, recomputes the lead state and reaches an ARMED offer left behind. Neither
moves station-seconds. -/
def Obligations.SetClockSteps : Prop :=
  ∀ s (v : Quad), Open s →
    (s.node.mode = .joining ∨ s.node.mode = .mute → Refuses (.setClock v) 0x13 .badState s) ∧
    (s.node.mode ≠ .joining → s.node.mode ≠ .mute → 3155759999 < v.toNat → Refuses (.setClock v) 0x13 .badValue s) ∧
    (Active s → v.toNat ≤ 3155759999 → s.signOn.active = none → Refuses (.setClock v) 0x13 .notSignedOn s) ∧
    (∀ o, Active s → v.toNat ≤ 3155759999 → s.signOn.active = some o → o.stepOne ≠ 0 →
      Refuses (.setClock v) 0x13 .notPermitted s) ∧
    (v.toNat ≤ 3155759999 →
      s.node.mode = .config ∨ s.node.mode = .ready ∨ (Active s ∧ ∃ o, s.signOn.active = some o ∧ o.stepOne = 0) →
      ∃ t, exec (.setClock v) s = .next t ∧ t.clock.millTime = v.toNat ∧ t.clock.now = s.clock.now ∧
        t.clock.phase = s.clock.phase ∧ t.clock.secondPeriods = s.clock.secondPeriods ∧
        t.port.answer.result = .ok ∧ t.port.answer.body = .clock v.toNat t.clock.shift ∧
        t = { s with node := noted s, port := t.port, clock := t.clock, handover := t.handover, second := t.second } ∧
        (s.second.due = false → s.second.start = false → s.second.overdue = false → s.second.schedule = false →
          (v.toNat = s.clock.millTime → t.clock = s.clock ∧ t.port.attention = s.port.attention) ∧
          (v.toNat < s.clock.millTime → t.port.attention = s.port.attention ∧ t.handover = s.handover ∧
            t.clock = { s.clock with
              millTime := v.toNat
              shift := s.clock.pattern.shiftOf v.toNat
              inLead := s.clock.pattern.inLead v.toNat }) ∧
          (∀ due start late, s.clock.millTime < v.toNat →
            (due ↔ Crosses s.clock.pattern.isDue s.clock.millTime v.toNat) →
            (start ↔ Crosses s.clock.pattern.isStart s.clock.millTime v.toNat) →
            (late ↔ Crosses s.clock.pattern.isOverdue s.clock.millTime v.toNat ∧
              ∃ x a, s.signOn.active = some x ∧ x.shift < t.clock.shift ∧ a < 32 ∧ s.holds a = true) →
            t.second = s.second ∧ (start → t.clock.shift = s.clock.pattern.shiftOf v.toNat) ∧
            (¬start → t.clock.shift = s.clock.shift) ∧ (t.clock.overdue = true ↔ s.clock.overdue = true ∨ late) ∧
            t.clock = { s.clock with
              millTime := v.toNat, shift := t.clock.shift, inLead := s.clock.pattern.inLead v.toNat
              overdue := t.clock.overdue } ∧
            (∀ f, t.flagSet f = true ↔ s.flagSet f = true ∨ (f = .handoverDue ∧ due ∧ s.signOn.active ≠ none) ∨
              (f = .handoverOverdue ∧ late)) ∧
            ((∀ o, s.handover.scheduled ≠ .armed o) → t.handover = s.handover) ∧
            (∀ o, s.handover.scheduled = .armed o →
              ((o.fire = .nextShiftStart ∧ start) ∨ (∃ i, o.fire = .at i ∧ i ≤ v.toNat) →
                t.handover = { s.handover with scheduled := .waiting o }) ∧
              ((o.fire = .nextShiftStart ∧ ¬start) ∨ (∃ i, o.fire = .at i ∧ v.toNat < i) →
                t.handover = s.handover)))))

/-- Tier 1. JOIN: from CONFIG it locks the configuration and forms the digest, the CRC of the areas and the shift pattern
in their bytes (R160, 13.3); the station goes to JOINING, and its listen starts now. -/
def Obligations.JoinStartsTheListen : Prop :=
  (∀ s : State, s.digestInput =
    (List.range 32).flatMap (fun a => match (s.area a).config with
      | none => [0x00]
      | some k => [0x01, k.feed, k.standby.getD 0, BitVec.ofNat 8
          (64 * (k.ackRank % 4) + 16 * (k.shelveRank % 4) + 4 * (k.holdRank % 4) + k.takeRank % 4)] ++
          octets 2 k.floodOn ++ octets 2 k.floodOff ++ [BitVec.ofNat 8 k.shelveLimit]) ++
    BitVec.ofNat 8 s.clock.pattern.perDay :: octets 2 s.clock.pattern.firstStart ++
    [BitVec.ofNat 8 s.clock.pattern.lead, BitVec.ofNat 8 s.clock.pattern.grace]) ∧
  ∀ s, Open s →
    (s.node.mode ≠ .config → s.node.mode ≠ .ready → Refuses .join 0x14 .badState s) ∧
    (s.node.mode = .config ∨ s.node.mode = .ready →
      (s.node.number = none ∨ ∀ a, a < 32 → (s.area a).config = none) → Refuses .join 0x14 .badValue s) ∧
    (∀ a n, a < 32 → (s.area a).config ≠ none → s.node.number = some n →
      (s.node.mode = .config →
        exec .join s = .next { told s 0x14 .ok (.digest (some (crc16 s.digestInput))) with
          node := { noted s with
            mode := .joining, digest := some (crc16 s.digestInput), listenStart := s.clock.now } }) ∧
      (s.node.mode = .ready →
        exec .join s = .next { told s 0x14 .ok (.digest s.node.digest) with
          node := { noted s with mode := .joining, listenStart := s.clock.now } }))

/-! ### Operators (chapter 5) -/

/-- Tier 2. The effective rank (R76) and the verdict (R78): the badge or acting rank, whichever is weaker; two weaker for
an area the operator is not qualified for, one weaker for one not held here unless the badge rank is 0; one weaker on
long watch for shelve and take; never above 4. In flood, shelving asks for one rank more. -/
def Obligations.PermissionCheckFollowsTheRanks : Prop :=
  ∀ (s : State) (o : Operator) (act : Action) (a : Nat) (e : Nat), e = s.effectiveRank o act a →
    (o.qualified.getLsbD a = true → s.holds a = true ∨ o.rank = 0 → act = .acknowledge ∨ act = .hold →
      e = min 4 (max o.rank (o.acting.getD o.rank))) ∧
    (o.qualified.getLsbD a = true → s.holds a = false → o.rank ≠ 0 → act = .acknowledge ∨ act = .hold →
      e = min 4 (max o.rank (o.acting.getD o.rank) + 1)) ∧
    (o.qualified.getLsbD a = false → act = .acknowledge ∨ act = .hold →
      e = min 4 (max o.rank (o.acting.getD o.rank) + 2)) ∧
    (act = .shelve ∨ act = .take → e = min 4 (s.effectiveRank o .hold a +
      if 2 * (60 * (1440 / s.clock.pattern.perDay)) ≤ elapsed s.clock.now o.since then 1 else 0)) ∧
    (∀ k, (s.area a).config = some k → act = .shelve →
      (s.permits o act a = true ↔
        e ≤ (if (s.area a).flood = true then k.shelveRank - 1 else k.shelveRank) ∧ e < 4)) ∧
    (∀ k, (s.area a).config = some k → act = .hold → (s.permits o act a = true ↔ e ≤ k.holdRank ∧ e < 4)) ∧
    (∀ k, (s.area a).config = some k → act = .acknowledge → (s.permits o act a = true ↔ e ≤ k.ackRank ∧ e < 4)) ∧
    (∀ k, (s.area a).config = some k → act = .take → (s.permits o act a = true ↔ e ≤ k.takeRank ∧ e < 4)) ∧
    ((s.area a).config = none → (s.permits o act a = true ↔ e = 0)) ∧ o.stepOne = max o.rank (o.acting.getD o.rank)

/-- Tier 2. SIGN ON and SIGN ON RELIEF: the checks in their order, and the record that a request that passes seats. A
badge is in use where a local slot holds it, or a PRESENT peer, dark or not, has announced it (R68). A change of the
active slot re-evaluates routing and clears the overdue flag. -/
def Obligations.SignOnSeatsTheOperator : Prop :=
  ∀ s (b : Badge) (r : Byte) (q : AreaSet), Open s →
    (s.badgeTaken b = true ↔
      (∃ x, (s.signOn.active = some x ∨ s.signOn.relief = some x) ∧ x.badge = b) ∨
      ∃ y i, some y ∈ s.peers ∧ y.state = .present ∧ y.info = some i ∧ (i.activeBadge = b ∨ i.reliefBadge = b)) ∧
    (¬Active s → Refuses (.signOn b r q) 0x20 .badState s ∧ Refuses (.signOnRelief b r q) 0x21 .badState s) ∧
    (Active s → b = 0 ∨ 3 < r.toNat →
      Refuses (.signOn b r q) 0x20 .badValue s ∧ Refuses (.signOnRelief b r q) 0x21 .badValue s) ∧
    (Active s → b ≠ 0 → r.toNat ≤ 3 → s.signOn.active ≠ none → Refuses (.signOn b r q) 0x20 .occupied s) ∧
    (Active s → b ≠ 0 → r.toNat ≤ 3 → s.signOn.active = none ∨ s.signOn.relief ≠ none →
      Refuses (.signOnRelief b r q) 0x21 .occupied s) ∧
    (Active s → b ≠ 0 → r.toNat ≤ 3 → s.signOn.active = none → s.badgeTaken b = true →
      Refuses (.signOn b r q) 0x20 .badgeInUse s) ∧
    (Active s → b ≠ 0 → r.toNat ≤ 3 → s.signOn.active ≠ none → s.signOn.relief = none → s.badgeTaken b = true →
      Refuses (.signOnRelief b r q) 0x21 .badgeInUse s) ∧
    (∀ o, o = { badge := b, rank := r.toNat, qualified := q, acting := none, since := s.clock.now,
                shift := if s.clock.inLead = true then s.clock.shift + 1 else s.clock.shift } →
      Active s → b ≠ 0 → r.toNat ≤ 3 → s.badgeTaken b = false →
      (s.signOn.active = none →
        exec (.signOn b r q) s = .next (rerouted { told s 0x20 .ok (.signedShift o.shift) with
          signOn := { s.signOn with active := some o }
          clock := { s.clock with overdue := false } })) ∧
      (s.signOn.active ≠ none → s.signOn.relief = none →
        exec (.signOnRelief b r q) s = .next { told s 0x21 .ok (.signedShift o.shift) with
          signOn := { s.signOn with relief := some o } }))

/-- Tier 2. SIGN OFF for either slot and SET ACTING RANK, set and removed in either slot: the checks in their order, and
what a request that passes leaves. The operator-gone notice declines a PRESENTED remote offer, and the relief-gone
notice ends a seat change (R125). BAD_STATE comes before BAD_VALUE (log entry 24). SIGN_OFF_RELIEF is the command for any
slot byte but 00h, and with any but 01h is refused; it is refused so with 00h too, which no transaction makes of it. -/
def Obligations.SignOffAndActingRank : Prop :=
  ∀ s, Open s →
    (¬Active s → Refuses .signOffActive 0x22 .badState s ∧ (∀ slot, Refuses (.signOffRelief slot) 0x22 .badState s) ∧
      (∀ slot r, Refuses (.setActingRank slot r) 0x23 .badState s)) ∧
    (Active s → s.signOn.active = none → Refuses .signOffActive 0x22 .notSignedOn s) ∧
    (Active s → s.signOn.active ≠ none → (∃ a, a < 32 ∧ s.holds a = true) → Refuses .signOffActive 0x22 .holding s) ∧
    (Active s → s.signOn.active ≠ none → s.claimsQueued = true → Refuses .signOffActive 0x22 .holding s) ∧
    (s.claimsQueued = true ↔ ∃ x ∈ s.tx.urgent, (∃ r a n b, x.frame = .claim r a n b) ∨ ∃ a n b, x.frame = .take a n b) ∧
    (∀ o f, Active s → s.signOn.active ≠ none → s.handover.incoming = .answered o f →
      Refuses .signOffActive 0x22 .holding s) ∧
    (Active s → s.signOn.active ≠ none → (∀ a, a < 32 → s.holds a = false) → s.claimsQueued = false →
      (∀ o f, s.handover.incoming ≠ .answered o f) → s.handover.outgoing ≠ .idle →
      Refuses .signOffActive 0x22 .handoverBusy s) ∧
    (Active s → s.signOn.active ≠ none → (∀ a, a < 32 → s.holds a = false) → s.claimsQueued = false →
      s.handover.outgoing = .idle → ∀ u, u = rerouted { told s 0x22 .ok .empty with
        signOn := { s.signOn with active := none }
        clock := { s.clock with overdue := false } } →
      (s.handover.incoming = .idle → exec .signOffActive s = .next u) ∧
      (∀ o v, s.handover.incoming = .presented o → s.node.number ≠ some o.origin →
        v = { u with
          handover := { s.handover with
            incoming := .idle, lastIn := some ⟨o.number, o.origin, .autoDeclined 0x03⟩ }
          port := { u.port with attention := plus s.port.attention .offerEnded } } →
        (s.tx.urgent.length < 8 →
          exec .signOffActive s = .next { v with tx := queued s (.answer o.origin o.number 0x02 0x03 0) }) ∧
        (8 ≤ s.tx.urgent.length → exec .signOffActive s = .next v))) ∧
    (∀ slot, Active s → slot ≠ 0x01 → Refuses (.signOffRelief slot) 0x22 .badValue s) ∧
    (Active s → s.signOn.relief = none → Refuses (.signOffRelief 0x01) 0x22 .notSignedOn s) ∧
    (Active s → s.signOn.relief ≠ none →
      ((∀ o, s.handover.outgoing = .offered o → s.node.number ≠ some o.target) →
        exec (.signOffRelief 0x01) s = .next { told s 0x22 .ok .empty with
          signOn := { s.signOn with relief := none } }) ∧
      (∀ o, s.handover.outgoing = .offered o → s.node.number = some o.target →
        exec (.signOffRelief 0x01) s = .next { told s 0x22 .ok .empty with
          signOn := { s.signOn with relief := none }
          handover := { s.handover with
            outgoing := .idle, incoming := .idle
            lastOut := some ⟨o.number, o.target, .autoDeclined 0x03⟩
            lastIn := some ⟨o.number, o.target, .autoDeclined 0x03⟩ }
          port := { answered s 0x22 .ok .empty with attention := plus s.port.attention .offerEnded } })) ∧
    (∀ slot r, Active s → 1 < slot.toNat ∨ (3 < r.toNat ∧ r ≠ 0xFF) →
      Refuses (.setActingRank slot r) 0x23 .badValue s) ∧
    (∀ r, Active s → r.toNat ≤ 3 ∨ r = 0xFF →
      (s.signOn.active = none → Refuses (.setActingRank 0x00 r) 0x23 .notSignedOn s) ∧
      (s.signOn.relief = none → Refuses (.setActingRank 0x01 r) 0x23 .notSignedOn s)) ∧
    (∀ o r, Active s → s.signOn.active = some o → r.toNat ≤ 3 →
      exec (.setActingRank 0x00 r) s = .next { told s 0x23 .ok (.rank (max o.rank r.toNat)) with
        signOn := { s.signOn with active := some { o with acting := some r.toNat } } }) ∧
    (∀ o, Active s → s.signOn.active = some o →
      exec (.setActingRank 0x00 0xFF) s = .next { told s 0x23 .ok (.rank o.rank) with
        signOn := { s.signOn with active := some { o with acting := none } } }) ∧
    (∀ o r, Active s → s.signOn.relief = some o → r.toNat ≤ 3 →
      exec (.setActingRank 0x01 r) s = .next { told s 0x23 .ok (.rank (max o.rank r.toNat)) with
        signOn := { s.signOn with relief := some { o with acting := some r.toNat } } }) ∧
    (∀ o, Active s → s.signOn.relief = some o →
      exec (.setActingRank 0x01 0xFF) s = .next { told s 0x23 .ok (.rank o.rank) with
        signOn := { s.signOn with relief := some { o with acting := none } } })

/-! ### Alarm requests (chapters 1 and 2) -/

/-- Tier 2. POST RAISE and POST CLEAR: the checks in their order, and the entry at the tail of the change queue. -/
def Obligations.PostsJoinTheChangeQueue : Prop :=
  ∀ s (a : Byte) (p : Half) (q : Byte), Open s →
    (¬Active s → Refuses (.postRaise a p q) 0x30 .badState s ∧ Refuses (.postClear a p) 0x31 .badState s) ∧
    (Active s → 32 ≤ a.toNat ∨ 4096 ≤ p.toNat →
      Refuses (.postRaise a p q) 0x30 .badValue s ∧ Refuses (.postClear a p) 0x31 .badValue s) ∧
    (Active s → q.toNat = 0 ∨ 4 < q.toNat → Refuses (.postRaise a p q) 0x30 .badValue s) ∧
    (Active s → a.toNat < 32 → p.toNat < 4096 → 1 ≤ q.toNat → q.toNat ≤ 4 →
      (∀ k, (s.area a.toNat).config = some k → s.node.number ≠ some k.feed) →
      Refuses (.postRaise a p q) 0x30 .notFeed s ∧ Refuses (.postClear a p) 0x31 .notFeed s) ∧
    (∀ k, Active s → a.toNat < 32 → p.toNat < 4096 → 1 ≤ q.toNat → q.toNat ≤ 4 →
      (s.area a.toNat).config = some k → s.node.number = some k.feed →
      (32 ≤ s.tx.change.length →
        Refuses (.postRaise a p q) 0x30 .queueFull s ∧ Refuses (.postClear a p) 0x31 .queueFull s) ∧
      (s.tx.change.length < 32 →
        exec (.postRaise a p q) s = .next { told s 0x30 .ok (.places (31 - s.tx.change.length)) with
          tx := { s.tx with change := s.tx.change ++ [⟨0x01, ⟨a, p⟩, q, BitVec.ofNat 32 s.clock.millTime⟩] } } ∧
        exec (.postClear a p) s = .next { told s 0x31 .ok (.places (31 - s.tx.change.length)) with
          tx := { s.tx with change := s.tx.change ++ [⟨0x02, ⟨a, p⟩, 0, 0⟩] } }))

/-- Tier 2. ACKNOWLEDGE, SHELVE and UNSHELVE: the checks of R21 in their order; by a permitted operator with a free place
each queues one built frame; a record that needs no frame is answered with a covered count of 0. -/
def Obligations.AlarmRequestsQueueAFrame : Prop :=
  ∀ s (a : Byte) (p : Half) (o : Byte) (d : Half), Open s →
    (∀ k, (s.area a.toNat).config = some k → s.shelveLimit a = k.shelveLimit) ∧
    shelvedCount a ⟨a, p⟩ s.picture.list =
      (s.picture.list.filter fun y => decide (y.id.area = a ∧ y.id ≠ ⟨a, p⟩) && y.handling.isShelved).length ∧
    (¬Active s → Refuses (.acknowledge a p o) 0x32 .badState s ∧ Refuses (.shelve a p d) 0x35 .badState s ∧
      Refuses (.unshelve a p) 0x36 .badState s) ∧
    (Active s → 32 ≤ a.toNat ∨ 4096 ≤ p.toNat → Refuses (.acknowledge a p o) 0x32 .badValue s ∧
      Refuses (.shelve a p d) 0x35 .badValue s ∧ Refuses (.unshelve a p) 0x36 .badValue s) ∧
    (Active s → Refuses (.acknowledge a p 0) 0x32 .badValue s) ∧
    (Active s → a.toNat < 32 → p.toNat < 4096 → s.signOn.active = none →
      (o ≠ 0 → Refuses (.acknowledge a p o) 0x32 .notSignedOn s) ∧
      Refuses (.shelve a p d) 0x35 .notSignedOn s ∧ Refuses (.unshelve a p) 0x36 .notSignedOn s) ∧
    (Active s → a.toNat < 32 → p.toNat < 4096 → s.signOn.active ≠ none → findRecord ⟨a, p⟩ s.picture.list = none →
      (o ≠ 0 → Refuses (.acknowledge a p o) 0x32 .notFound s) ∧
      Refuses (.shelve a p d) 0x35 .notFound s ∧ Refuses (.unshelve a p) 0x36 .notFound s) ∧
    (∀ x r, Active s → a.toNat < 32 → p.toNat < 4096 → o ≠ 0 → s.signOn.active = some x →
      findRecord ⟨a, p⟩ s.picture.list = some r →
      (r.handling.isUnack = false → exec (.acknowledge a p o) s = .next (told s 0x32 .ok (.covered 0))) ∧
      (r.handling.isUnack = true → s.permits x .acknowledge a.toNat = false →
        Refuses (.acknowledge a p o) 0x32 .notPermitted s) ∧
      (r.handling.isUnack = true → s.permits x .acknowledge a.toNat = true → 8 ≤ s.tx.urgent.length →
        Refuses (.acknowledge a p o) 0x32 .queueFull s) ∧
      (r.handling.isShelved = true → s.permits x .shelve a.toNat = false →
        Refuses (.unshelve a p) 0x36 .notPermitted s) ∧
      (r.handling.isShelved = true → s.permits x .shelve a.toNat = true → 8 ≤ s.tx.urgent.length →
        Refuses (.unshelve a p) 0x36 .queueFull s) ∧
      (s.permits x .shelve a.toNat = false → Refuses (.shelve a p d) 0x35 .notPermitted s) ∧
      (r.handling.isUnack = true → s.permits x .acknowledge a.toNat = true → s.tx.urgent.length < 8 →
        exec (.acknowledge a p o) s = .next { told s 0x32 .ok (.covered 1) with
          tx := { s.tx with urgent := s.tx.urgent ++ [⟨.ack x.badge [⟨⟨a, p⟩, o⟩], none⟩] } }) ∧
      (r.handling.isShelved = false → exec (.unshelve a p) s = .next (told s 0x36 .ok (.covered 0))) ∧
      (r.handling.isShelved = true → s.permits x .shelve a.toNat = true → s.tx.urgent.length < 8 →
        exec (.unshelve a p) s = .next { told s 0x36 .ok (.covered 1) with
          tx := { s.tx with urgent := s.tx.urgent ++ [⟨.unshelve ⟨a, p⟩, none⟩] } }) ∧
      (s.permits x .shelve a.toNat = true → s.shelveLimit a ≤ shelvedCount a ⟨a, p⟩ s.picture.list →
        Refuses (.shelve a p d) 0x35 .shelfFull s) ∧
      (s.permits x .shelve a.toNat = true → shelvedCount a ⟨a, p⟩ s.picture.list < s.shelveLimit a →
        s.tx.urgent.length < 8 →
        ∃ m, m.toNat = max 1 (min 480 d.toNat) ∧
          exec (.shelve a p d) s = .next { told s 0x35 .ok .empty with
            tx := { s.tx with urgent := s.tx.urgent ++ [⟨.shelve ⟨a, p⟩ m x.badge, none⟩] } }) ∧
      (s.permits x .shelve a.toNat = true → shelvedCount a ⟨a, p⟩ s.picture.list < s.shelveLimit a →
        8 ≤ s.tx.urgent.length → Refuses (.shelve a p d) 0x35 .queueFull s))

/-- Tier 2. ACKNOWLEDGE AREA covers the area's UNACK records in list order, eight to a frame, for as many frames as the
urgent queue has places; the area is the one given, or the focus area where it is omitted. -/
def Obligations.AcknowledgeAreaCoversTheArea : Prop :=
  ∀ s (a : Byte), Open s →
    (¬Active s → Refuses (.acknowledgeArea a) 0x33 .badState s) ∧
    (Active s → 32 ≤ a.toNat → a ≠ 0xFF → Refuses (.acknowledgeArea a) 0x33 .badValue s) ∧
    (Active s → s.window.focus = none → Refuses (.acknowledgeArea 0xFF) 0x33 .noArea s) ∧
    (Active s → a.toNat < 32 ∨ (a = 0xFF ∧ s.window.focus ≠ none) → s.signOn.active = none →
      Refuses (.acknowledgeArea a) 0x33 .notSignedOn s) ∧
    (∀ c x, Active s → (a.toNat < 32 ∧ c = a) ∨ (a = 0xFF ∧ s.window.focus = some c) → s.signOn.active = some x →
      (s.permits x .acknowledge c.toNat = false → Refuses (.acknowledgeArea a) 0x33 .notPermitted s) ∧
      (∀ es free, es = (s.picture.list.filter fun r => r.id.area == c && r.handling.isUnack).map
            (fun r => AckEntry.mk r.id r.occurrence) →
        free = 8 - s.tx.urgent.length → s.permits x .acknowledge c.toNat = true →
        ∃ fs : List (List AckEntry),
          fs.flatten = es.take (8 * free) ∧ fs.length = min free ((es.length + 7) / 8) ∧
          (∀ f ∈ fs, 1 ≤ f.length ∧ f.length ≤ 8) ∧ (∀ f ∈ fs.dropLast, f.length = 8) ∧
          exec (.acknowledgeArea a) s =
            .next { told s 0x33 .ok (.coveredLeft (min es.length (8 * free)) (es.length - min es.length (8 * free))) with
              tx := { s.tx with urgent := s.tx.urgent ++ fs.map fun f => ⟨.ack x.badge f, none⟩ } }))

/-- Tier 1. SILENCE HORN is refused unless the station is ACTIVE with an operator signed on; it silences a SOUNDING horn,
is answered with the horn after it, and changes no record, routed set or lamp and sends no frame. -/
def Obligations.SilenceHornSilencesTheHorn : Prop :=
  ∀ s, Open s →
    (¬Active s → Refuses .silenceHorn 0x37 .badState s) ∧
    (Active s → s.signOn.active = none → Refuses .silenceHorn 0x37 .notSignedOn s) ∧
    (Active s → s.signOn.active ≠ none →
      ∃ h, (h = match s.picture.horn with
          | .sounding _ _ => .silenced
          | .silenced => .silenced
          | .quiet => .quiet) ∧
        exec .silenceHorn s = .next { told s 0x37 .ok (.horn h) with picture := { s.picture with horn := h } })

/-! ### The acknowledge window (chapter 3) -/

/-- Tier 2. PLACE CURSOR, SCROLL, SET SCOPE, SET FOCUS and SET ENTRY MODE: the checks, the new position, and the snapshot
of the record that then stands at top + cursor row. The scoped list holds the records that the scope admits, in list
order (R40); views differ where a row's record, its condition or its handling does (R50), and the window-changed
indicator is set where the view does. -/
def Obligations.WindowRequestsPlaceTheCursor : Prop :=
  (∀ s : State,
    s.scoped = s.picture.list.filter (admitted s) ∧
    (∀ id, s.inView id = true ↔ ∃ i r, i < 8 ∧ s.scoped[s.window.top + i]? = some r ∧ r.id = id) ∧
    (∀ u : State, u.view = s.view ↔ ∀ i, i < 8 →
      (u.scoped[u.window.top + i]?).map (fun r => (r.id, r.cleared, r.handling.isUnack, r.handling.isAck)) =
        (s.scoped[s.window.top + i]?).map fun r => (r.id, r.cleared, r.handling.isUnack, r.handling.isAck))) ∧
  ∀ s, Open s →
    (¬Active s → (∀ r, Refuses (.placeCursor r) 0x40 .badState s) ∧ (∀ o, Refuses (.scroll o) 0x41 .badState s) ∧
      (∀ x, Refuses (.setScope x) 0x42 .badState s) ∧ (∀ a, Refuses (.setFocus a) 0x43 .badState s) ∧
      (∀ d f, Refuses (.setEntryMode d f) 0x44 .badState s)) ∧
    (Active s →
      (∀ r, 7 < r.toNat → Refuses (.placeCursor r) 0x40 .badValue s) ∧
      (∀ o, (o.toInt < -255 ∨ 255 < o.toInt) → Refuses (.scroll o) 0x41 .badValue s) ∧
      (∀ x, 3 < x.toNat → Refuses (.setScope x) 0x42 .badValue s) ∧
      (∀ a, 32 ≤ a.toNat → a ≠ 0xFF → Refuses (.setFocus a) 0x43 .badValue s) ∧
      (∀ d f, 1 < d.toNat ∨ 1 < f.toNat → Refuses (.setEntryMode d f) 0x44 .badValue s) ∧
      (∀ r x, r.toNat ≤ 7 → x = (s.scoped[s.window.top + r.toNat]?).map (fun y => Snapshot.mk y.id y.occurrence) →
        exec (.placeCursor r) s = .next { told s 0x40 .ok (.snapshot x) with
          window := { s.window with row := r.toNat, snapshot := x } }) ∧
      (∀ (o : Half) (top : Nat) x, -255 ≤ o.toInt → o.toInt ≤ 255 →
        (top : Int) = max 0 (min ((s.window.top : Int) + o.toInt) ((s.scoped.length - 8 : Nat) : Int)) →
        x = (s.scoped[top + s.window.row]?).map (fun y => Snapshot.mk y.id y.occurrence) →
        exec (.scroll o) s = .next { told s 0x41 .ok (.scrolled top x) with
          window := { s.window with
            top := top, snapshot := x
            changed := s.window.changed || { s with window := { s.window with top := top } }.view != s.view } }) ∧
      (∀ v c l top x, (v = 0 ∧ c = .focus) ∨ (v = 1 ∧ c = .held) ∨ (v = 2 ∧ c = .all) ∨ (v = 3 ∧ c = .shelved) → l = { s with window := { s.window with scope := c } }.scoped →
        top = min s.window.top (l.length - 8) →
        x = (l[top + s.window.row]?).map (fun y => Snapshot.mk y.id y.occurrence) →
        exec (.setScope v) s = .next { told s 0x42 .ok (.viewed l.length top x) with
          window := { s.window with
            scope := c, top := top, snapshot := x
            changed := s.window.changed ||
              { s with window := { s.window with scope := c, top := top } }.view != s.view } }) ∧
      (∀ a f, (a.toNat < 32 ∧ f = some a) ∨ (a = 0xFF ∧ f = none) → s.window.scope ≠ .focus →
        exec (.setFocus a) s = .next { told s 0x43 .ok (.snapshot s.window.snapshot) with
          window := { s.window with focus := f } }) ∧
      (∀ a f l top x, (a.toNat < 32 ∧ f = some a) ∨ (a = 0xFF ∧ f = none) → s.window.scope = .focus →
        l = { s with window := { s.window with focus := f } }.scoped → top = min s.window.top (l.length - 8) →
        x = (l[top + s.window.row]?).map (fun y => Snapshot.mk y.id y.occurrence) →
        exec (.setFocus a) s = .next { told s 0x43 .ok (.viewed l.length top x) with
          window := { s.window with
            focus := f, top := top, snapshot := x
            changed := s.window.changed ||
              { s with window := { s.window with focus := f, top := top } }.view != s.view } }) ∧
      (∀ d f, d.toNat ≤ 1 → f.toNat ≤ 1 →
        exec (.setEntryMode d f) s = .next { told s 0x44 .ok .empty with
          window := { s.window with direction := if d = 0 then .down else .up, follow := f == 1 } }))

/-- Tier 2. ACKNOWLEDGE AT CURSOR acts on the snapshot: refused where it is empty, GONE or CHANGED with the snapshot
retaken, otherwise acknowledged at the snapshotted occurrence with the cursor moving one row on. At the view's edge the
cursor stays on its row: with follow on the view scrolls by one as far as the list goes, and the window-changed indicator
is set where the view differs; with follow off neither moves (R49, R50). -/
def Obligations.AcknowledgeAtCursorActsOnTheSnapshot : Prop :=
  ∀ s, Open s →
    s.snapshotHere = (s.scoped[s.window.top + s.window.row]?).map (fun z => Snapshot.mk z.id z.occurrence) ∧
    (∀ x : Snapshot, snapshotBytes (some x) = x.id.area :: octets 2 x.id.point.toNat ++ [x.occurrence]) ∧
    snapshotBytes none = [0xFF, 0, 0, 0] ∧
    (¬Active s → Refuses .acknowledgeAtCursor 0x34 .badState s) ∧
    (Active s → s.signOn.active = none → Refuses .acknowledgeAtCursor 0x34 .notSignedOn s) ∧
    (Active s → s.signOn.active ≠ none → s.window.snapshot = none → Refuses .acknowledgeAtCursor 0x34 .emptyRow s) ∧
    (∀ x op, Active s → s.signOn.active = some op → s.window.snapshot = some x →
      (findRecord x.id s.picture.list = none →
        exec .acknowledgeAtCursor s = .next { told s 0x34 .gone (.bytes (snapshotBytes s.snapshotHere)) with
          window := { s.window with snapshot := s.snapshotHere } }) ∧
      (∀ r, findRecord x.id s.picture.list = some r → r.occurrence ≠ x.occurrence →
        exec .acknowledgeAtCursor s = .next { told s 0x34 .changed (.bytes (snapshotBytes s.snapshotHere)) with
          window := { s.window with snapshot := s.snapshotHere } }) ∧
      (∀ r, findRecord x.id s.picture.list = some r → r.occurrence = x.occurrence → r.handling.isUnack = true →
        s.permits op .acknowledge x.id.area.toNat = false → Refuses .acknowledgeAtCursor 0x34 .notPermitted s) ∧
      (∀ r, findRecord x.id s.picture.list = some r → r.occurrence = x.occurrence → r.handling.isUnack = true →
        s.permits op .acknowledge x.id.area.toNat = true → 8 ≤ s.tx.urgent.length →
        Refuses .acknowledgeAtCursor 0x34 .queueFull s) ∧
      (∀ r top row y, findRecord x.id s.picture.list = some r → r.occurrence = x.occurrence →
        r.handling.isUnack = false ∨
          (s.permits op .acknowledge x.id.area.toNat = true ∧ s.tx.urgent.length < 8) →
        (s.window.direction = .down ∧ s.window.row < 7 ∧ row = s.window.row + 1 ∧ top = s.window.top) ∨
          (s.window.direction = .up ∧ s.window.row = row + 1 ∧ top = s.window.top) ∨
          (s.window.direction = .down ∧ 7 ≤ s.window.row ∧ row = s.window.row ∧
            top = if s.window.follow = true ∧ s.window.top + 1 ≤ s.scoped.length - 8 then s.window.top + 1
              else s.window.top) ∨
          (s.window.direction = .up ∧ s.window.row = 0 ∧ row = 0 ∧
            top = if s.window.follow = true then s.window.top - 1 else s.window.top) →
        y = (s.scoped[top + row]?).map (fun z => Snapshot.mk z.id z.occurrence) →
        exec .acknowledgeAtCursor s =
          .next { told s 0x34 .ok (.covered (if r.handling.isUnack then 1 else 0)) with
            window := { s.window with
              top := top, row := row, snapshot := y
              changed := s.window.changed || (atTop top s).view != s.view }
            tx := { s.tx with urgent := s.tx.urgent ++
              (if r.handling.isUnack then [⟨.ack op.badge [⟨x.id, x.occurrence⟩], none⟩] else []) } }))

/-! ### Claim and handover requests (chapters 6 and 8) -/

/-- Tier 2. CLAIM AREA and TAKE AREA: the outcomes in their order, BUSY, NOT_QUALIFIED, NOT_PERMITTED and QUEUE_FULL
among them, and the claim built at the record's serial plus one. That TAKE AREA answers an area HELD here with the
current serial, as CLAIM AREA does, is the model's choice (log entry 40). -/
def Obligations.ClaimAndTakeQueueAClaim : Prop :=
  ∀ s (a : Byte), Open s →
    (s.inFlight a.toNat = none ↔ ∀ x ∈ s.tx.urgent,
      (∀ r n b, x.frame ≠ .claim r a n b) ∧ ∀ n b, x.frame ≠ .take a n b) ∧
    (¬Active s → Refuses (.claimArea a) 0x50 .badState s ∧ Refuses (.takeArea a) 0x51 .badState s) ∧
    (Active s → 32 ≤ a.toNat ∨ (s.area a.toNat).config = none →
      Refuses (.claimArea a) 0x50 .badValue s ∧ Refuses (.takeArea a) 0x51 .badValue s) ∧
    (Active s → a.toNat < 32 → (s.area a.toNat).config ≠ none → s.signOn.active = none →
      Refuses (.claimArea a) 0x50 .notSignedOn s ∧ Refuses (.takeArea a) 0x51 .notSignedOn s) ∧
    (∀ x k, Active s → a.toNat < 32 → (s.area a.toNat).config = some k → s.signOn.active = some x →
      (∀ n b, (s.area a.toNat).hold = .held n b → s.node.number = some n →
        exec (.claimArea a) s = .next (told s 0x50 .ok (.serial (s.area a.toNat).serial)) ∧
        exec (.takeArea a) s = .next (told s 0x51 .ok (.serial (s.area a.toNat).serial))) ∧
      (∀ n b, (s.area a.toNat).hold = .held n b → s.node.number ≠ some n →
        Refuses (.claimArea a) 0x50 .occupied s ∧ Refuses (.takeArea a) 0x51 .occupied s) ∧
      ((s.area a.toNat).hold = .unheld → Refuses (.takeArea a) 0x51 .badState s) ∧
      (∀ n b f g, (s.area a.toNat).hold = .orphaned n b f g → Refuses (.claimArea a) 0x50 .badState s) ∧
      (∀ m, m = (if (s.area a.toNat).serial = 0xFFFF then 0xFFFF else (s.area a.toNat).serial + 1) →
        ((s.area a.toNat).hold = .unheld → s.inFlight a.toNat ≠ none → Refuses (.claimArea a) 0x50 .busy s) ∧
        (∀ n b f g, (s.area a.toNat).hold = .orphaned n b f g → s.inFlight a.toNat ≠ none →
          Refuses (.takeArea a) 0x51 .busy s) ∧
        (∀ c code act, s.inFlight a.toNat = none →
          (c = .claimArea a ∧ code = 0x50 ∧ act = .hold ∧ (s.area a.toNat).hold = .unheld) ∨
            (c = .takeArea a ∧ code = 0x51 ∧ act = .take ∧
              ∃ n b f g, (s.area a.toNat).hold = .orphaned n b f g) →
          (x.qualified.getLsbD a.toNat = false → Refuses c code .notQualified s) ∧
          (x.qualified.getLsbD a.toNat = true → s.permits x act a.toNat = false → Refuses c code .notPermitted s) ∧
          (x.qualified.getLsbD a.toNat = true → s.permits x act a.toNat = true → 8 ≤ s.tx.urgent.length →
            Refuses c code .queueFull s)) ∧
        (s.inFlight a.toNat = none → s.tx.urgent.length < 8 → x.qualified.getLsbD a.toNat = true →
          ((s.area a.toNat).hold = .unheld → s.permits x .hold a.toNat = true →
            exec (.claimArea a) s = .next { told s 0x50 .ok (.serial m) with
              tx := { s.tx with urgent := s.tx.urgent ++ [⟨.claim 0x01 a m x.badge, none⟩] } }) ∧
          (∀ n b f g, (s.area a.toNat).hold = .orphaned n b f g → s.permits x .take a.toNat = true →
            exec (.takeArea a) s = .next { told s 0x51 .ok (.serial m) with
              tx := { s.tx with urgent := s.tx.urgent ++ [⟨.take a m x.badge, none⟩] } }))))

/-- Tier 2. OFFER HANDOVER: the checks of R115 and R126 in their order; a remote offer that passes them queues an OFFER
and is OFFERED; a seat change sets both offers over the held set and latches OFFER_RECEIVED. An area's summary has its
flood state and counts its UNACK, escalated and SHELVED records (R116). Either advances the handover counter, and takes
off the model's mark of a firing (log entry 4). -/
def Obligations.OffersAreMade : Prop :=
  ∀ s (m : AreaSet), Open s →
    areaList m = (List.range 32).filter m.getLsbD ∧
    (∀ a q mine, q = s.summary a → mine = s.picture.list.filter (fun r => r.id.area.toNat == a) →
      q.flood = (s.area a).flood ∧
      q.unack = BitVec.ofNat 9 (mine.filter fun r => r.handling == .unack).length ∧
      q.escalated = BitVec.ofNat 9 (mine.filter fun r => r.handling == .unack && r.escalated).length ∧
      q.shelved = BitVec.ofNat 5 (mine.filter fun r => r.handling.isShelved).length) ∧
    (¬Active s → (∀ t, Refuses (.offerHandover t m) 0x60 .badState s) ∧ Refuses (.offerSeatChange m) 0x60 .badState s) ∧
    (∀ t, Active s → ¬(1 ≤ t.toNat ∧ t.toNat ≤ 16) ∨ (s.node.number ≠ some t ∧ m = 0) →
      Refuses (.offerHandover t m) 0x60 .badValue s) ∧
    (∀ t, Active s → 1 ≤ t.toNat → t.toNat ≤ 16 → s.node.number ≠ some t → m ≠ 0 → s.signOn.active = none →
      Refuses (.offerHandover t m) 0x60 .notSignedOn s) ∧
    (∀ t x, Active s → 1 ≤ t.toNat → t.toNat ≤ 16 → s.node.number ≠ some t → m ≠ 0 → s.signOn.active = some x →
      (s.handover.outgoing ≠ .idle → Refuses (.offerHandover t m) 0x60 .handoverBusy s) ∧
      (s.handover.outgoing = .idle → (∃ a, m.getLsbD a = true ∧ s.holds a = false) →
        Refuses (.offerHandover t m) 0x60 .notHeld s) ∧
      (s.handover.outgoing = .idle → (∀ a, m.getLsbD a = true → s.holds a = true) →
        (∃ a, m.getLsbD a = true ∧ (s.area a).flood = true) → Refuses (.offerHandover t m) 0x60 .flooded s) ∧
      (s.handover.outgoing = .idle → (∀ a, m.getLsbD a = true → s.holds a = true ∧ (s.area a).flood = false) →
        (s.peerReady t = false → Refuses (.offerHandover t m) 0x60 .peerUnknown s) ∧
        (s.peerReady t = true → (∃ a, m.getLsbD a = true ∧ s.permits x .hold a = false) →
          Refuses (.offerHandover t m) 0x60 .notPermitted s) ∧
        (s.peerReady t = true → (∀ a, m.getLsbD a = true → s.permits x .hold a = true) → 8 ≤ s.tx.urgent.length →
          Refuses (.offerHandover t m) 0x60 .queueFull s)) ∧
      (s.peerReady t = true ↔ ∃ r, s.peer t = some r ∧ r.state = .present ∧ ∀ i, r.info = some i → i.dark = false) ∧
      (s.handover.outgoing = .idle →
        (∀ a, m.getLsbD a = true → s.holds a = true ∧ (s.area a).flood = false ∧ s.permits x .hold a = true) →
        s.peerReady t = true → s.tx.urgent.length < 8 →
        exec (.offerHandover t m) s =
          .next { told s 0x60 .ok (.handoverNumber (s.handover.counter + 1)) with
            handover := { s.handover with
              counter := s.handover.counter + 1
              outgoing := .offered ⟨s.handover.counter + 1, t, m, s.clock.now⟩
              fireBySecond := false }
            tx := { s.tx with urgent := s.tx.urgent ++
              [⟨.offer (s.handover.counter + 1) t x.badge m ((areaList m).map s.summary), none⟩] } })) ∧
    (∀ n, Active s → s.node.number = some n → 1 ≤ n.toNat → n.toNat ≤ 16 →
      (s.signOn.active = none → Refuses (.offerSeatChange m) 0x60 .notSignedOn s) ∧
      (s.signOn.active ≠ none → s.handover.outgoing ≠ .idle ∨ s.handover.incoming ≠ .idle →
        Refuses (.offerSeatChange m) 0x60 .handoverBusy s)) ∧
    (∀ n x, Active s → s.node.number = some n → 1 ≤ n.toNat → n.toNat ≤ 16 → s.signOn.active = some x →
      s.handover.outgoing = .idle → s.handover.incoming = .idle →
      (s.signOn.relief = none → Refuses (.offerSeatChange m) 0x60 .noRelief s) ∧
      (s.signOn.relief ≠ none → (∃ a, a < 32 ∧ s.holds a = true ∧ (s.area a).flood = true) →
        Refuses (.offerSeatChange m) 0x60 .flooded s) ∧
      (s.signOn.relief ≠ none → (∀ a, s.holds a = true → (s.area a).flood = false) →
        exec (.offerSeatChange m) s =
          .next { told s 0x60 .ok (.handoverNumber (s.handover.counter + 1)) with
            handover := { s.handover with
              counter := s.handover.counter + 1
              outgoing := .offered ⟨s.handover.counter + 1, n, s.heldSet, s.clock.now⟩
              incoming := .presented ⟨n, s.handover.counter + 1, s.heldSet, (areaList s.heldSet).map s.summary,
                x.badge, s.clock.now⟩
              fireBySecond := false }
            port := { answered s 0x60 .ok (.handoverNumber (s.handover.counter + 1)) with
              attention := plus s.port.attention .offerReceived } }))

/-- Tier 2. ACCEPT HANDOVER: an accepted remote offer queues an ANSWER ACCEPT and is ANSWERED. An accepted seat change
promotes the relief, ends both offers COMMITTED and builds a claim for each held area in order, as far as the urgent
queue has places; the rest are the re-badge list. NOT_QUALIFIED for any area comes before NOT_PERMITTED for any (log
entry 31). -/
def Obligations.OffersAreAccepted : Prop :=
  ∀ s (n : Byte), Open s →
    (¬Active s → Refuses (.acceptHandover n) 0x61 .badState s) ∧
    (Active s → (∀ o, s.handover.incoming ≠ .presented o) → Refuses (.acceptHandover n) 0x61 .badState s) ∧
    (∀ o, Active s → s.handover.incoming = .presented o →
      (o.number ≠ n → Refuses (.acceptHandover n) 0x61 .notFound s) ∧
      (∀ x, o.number = n → s.node.number ≠ some o.origin → s.signOn.active = some x →
        ((∃ a, a < 32 ∧ o.areas.getLsbD a = true ∧ x.qualified.getLsbD a = false) →
          Refuses (.acceptHandover n) 0x61 .notQualified s) ∧
        ((∀ a, o.areas.getLsbD a = true → x.qualified.getLsbD a = true) →
          (∃ a, a < 32 ∧ o.areas.getLsbD a = true ∧ s.permits x .hold a = false) →
          Refuses (.acceptHandover n) 0x61 .notPermitted s) ∧
        ((∀ a, o.areas.getLsbD a = true → x.qualified.getLsbD a = true ∧ s.permits x .hold a = true) →
          8 ≤ s.tx.urgent.length → Refuses (.acceptHandover n) 0x61 .queueFull s) ∧
        ((∀ a, o.areas.getLsbD a = true → x.qualified.getLsbD a = true ∧ s.permits x .hold a = true) →
          s.tx.urgent.length < 8 →
          exec (.acceptHandover n) s = .next { told s 0x61 .ok .empty with
            handover := { s.handover with incoming := .answered o s.clock.now }
            tx := { s.tx with urgent := s.tx.urgent ++ [⟨.answer o.origin n 0x01 0x00 x.badge, none⟩] } })) ∧
      (∀ r, o.number = n → s.node.number = some o.origin → s.signOn.relief = some r → s.heldSet = 0 →
        exec (.acceptHandover n) s = .next (rerouted { told s 0x61 .ok .empty with
          signOn := { active := some { r with shift := max r.shift s.clock.shift }, relief := none }
          clock := { s.clock with overdue := false }
          handover := { s.handover with
            outgoing := .idle, incoming := .idle, rebadge := 0
            lastOut := some ⟨n, o.origin, .committed 0⟩, lastIn := some ⟨n, o.origin, .committed 0⟩ }
          port := { answered s 0x61 .ok .empty with attention := plus s.port.attention .offerEnded } })) ∧
      (∀ r, o.number = n → s.node.number = some o.origin → s.signOn.relief = some r →
        ((∃ a, a < 32 ∧ s.holds a = true ∧ r.qualified.getLsbD a = false) →
          Refuses (.acceptHandover n) 0x61 .notQualified s) ∧
        ((∀ a, a < 32 → s.holds a = true → r.qualified.getLsbD a = true) →
          (∃ a, a < 32 ∧ s.holds a = true ∧ s.permits r .hold a = false) →
          Refuses (.acceptHandover n) 0x61 .notPermitted s) ∧
        ((∀ a, a < 32 → s.holds a = true → r.qualified.getLsbD a = true ∧ s.permits r .hold a = true) →
          ∀ built, built = ((List.range 32).filter fun a => s.holds a && s.inFlight a == none).take
              (8 - s.tx.urgent.length) →
          ∃ rebadge,
            (∀ a, a < 32 → (rebadge.getLsbD a = true ↔ s.holds a = true ∧ a ∉ built)) ∧
            exec (.acceptHandover n) s = .next (rerouted { told s 0x61 .ok .empty with
              signOn := { active := some { r with shift := max r.shift s.clock.shift }, relief := none }
              clock := { s.clock with overdue := false }
              handover := { s.handover with
                outgoing := .idle, incoming := .idle, rebadge := rebadge
                lastOut := some ⟨n, o.origin, .committed s.heldSet⟩
                lastIn := some ⟨n, o.origin, .committed s.heldSet⟩ }
              tx := { s.tx with urgent := s.tx.urgent ++ built.map fun a =>
                ⟨.claim 0x01 (BitVec.ofNat 8 a) (if (s.area a).serial = 0xFFFF then 0xFFFF
                  else (s.area a).serial + 1) r.badge, none⟩ }
              port := { answered s 0x61 .ok .empty with attention := plus s.port.attention .offerEnded } }))))

/-- Tier 2. DECLINE HANDOVER, WITHDRAW OFFER, SCHEDULE OFFER and CANCEL SCHEDULE, with the checks of each in their order: a
remote offer is declined with its ANSWER and withdrawn with its WITHDRAW; a seat change is declined and withdrawn on both
sides without a frame, and latches nothing (for the decline: log entry 36); the scheduled offer is filled and emptied, and
a fire time that the last second event reached for another offer is forgotten, and that one came to fire (the model's
marks: log entries 3 and 4). -/
def Obligations.OffersAreEndedAndScheduled : Prop :=
  ∀ s, Open s →
    (¬Active s → (∀ n, Refuses (.declineHandover n) 0x62 .badState s) ∧ Refuses .withdrawOffer 0x63 .badState s ∧
      (∀ t m f, Refuses (.scheduleOffer t m f) 0x64 .badState s) ∧ Refuses .cancelSchedule 0x65 .badState s) ∧
    (∀ o, Active s → s.handover.incoming = .presented o →
      (s.node.number ≠ some o.origin → 8 ≤ s.tx.urgent.length → Refuses (.declineHandover o.number) 0x62 .queueFull s) ∧
      (s.node.number ≠ some o.origin → s.tx.urgent.length < 8 →
        exec (.declineHandover o.number) s = .next { told s 0x62 .ok .empty with
          handover := { s.handover with
            incoming := .idle, lastIn := some ⟨o.number, o.origin, .declined 0x01⟩ }
          tx := { s.tx with urgent := s.tx.urgent ++ [⟨.answer o.origin o.number 0x02 0x01 0, none⟩] } }) ∧
      (s.node.number = some o.origin →
        exec (.declineHandover o.number) s = .next { told s 0x62 .ok .empty with
          handover := { s.handover with
            outgoing := .idle, incoming := .idle
            lastOut := some ⟨o.number, o.origin, .declined 0x01⟩
            lastIn := some ⟨o.number, o.origin, .declined 0x01⟩ } })) ∧
    (Active s → s.handover.outgoing = .idle → Refuses .withdrawOffer 0x63 .badState s) ∧
    (∀ o, Active s → s.handover.outgoing = .committing o → Refuses .withdrawOffer 0x63 .handoverBusy s) ∧
    (∀ o, Active s → s.handover.outgoing = .offered o → s.node.number ≠ some o.target → s.tx.urgent.length < 8 →
      exec .withdrawOffer s = .next { told s 0x63 .ok .empty with
        handover := { s.handover with outgoing := .idle, lastOut := some ⟨o.number, o.target, .withdrawn⟩ }
        tx := { s.tx with urgent := s.tx.urgent ++ [⟨.withdraw o.number o.target, none⟩] } }) ∧
    (∀ o, Active s → s.handover.outgoing = .offered o → s.node.number ≠ some o.target → 8 ≤ s.tx.urgent.length →
      exec .withdrawOffer s = .next { told s 0x63 .ok .empty with
        handover := { s.handover with outgoing := .idle, lastOut := some ⟨o.number, o.target, .withdrawn⟩ } }) ∧
    (∀ o, Active s → s.handover.outgoing = .offered o → s.node.number = some o.target →
      exec .withdrawOffer s = .next { told s 0x63 .ok .empty with
        handover := { s.handover with
          outgoing := .idle, incoming := .idle
          lastOut := some ⟨o.number, o.target, .withdrawn⟩
          lastIn := some ⟨o.number, o.target, .withdrawn⟩ } }) ∧
    (Active s → (∀ o, s.handover.incoming ≠ .presented o) → ∀ n, Refuses (.declineHandover n) 0x62 .badState s) ∧
    (∀ o n, Active s → s.handover.incoming = .presented o → o.number ≠ n →
      Refuses (.declineHandover n) 0x62 .notFound s) ∧
    (∀ t m f, Active s → ¬(1 ≤ t.toNat ∧ t.toNat ≤ 16) ∨ (f ≠ 0xFFFFFFFF ∧ 3155759999 < f.toNat) ∨
        (s.node.number ≠ some t ∧ m = 0) →
      Refuses (.scheduleOffer t m f) 0x64 .badValue s) ∧
    (∀ t m f, Active s → 1 ≤ t.toNat → t.toNat ≤ 16 → f = 0xFFFFFFFF ∨ f.toNat ≤ 3155759999 →
      s.node.number = some t ∨ m ≠ 0 → s.signOn.active = none → Refuses (.scheduleOffer t m f) 0x64 .notSignedOn s) ∧
    (∀ t m f, Active s → 1 ≤ t.toNat → t.toNat ≤ 16 → f = 0xFFFFFFFF ∨ f.toNat ≤ 3155759999 →
      s.node.number = some t ∨ m ≠ 0 → s.signOn.active ≠ none →
      (s.handover.scheduled ≠ .empty → Refuses (.scheduleOffer t m f) 0x64 .handoverBusy s) ∧
      (s.handover.scheduled = .empty →
        exec (.scheduleOffer t m f) s = .next { told s 0x64 .ok .empty with
          handover := { s.handover with
            scheduled := .armed ⟨t, m, if f = 0xFFFFFFFF then .nextShiftStart else .at f.toNat⟩
            fireBySecond := false }
          second := { s.second with schedule := false } })) ∧
    (Active s → s.handover.scheduled = .empty → Refuses .cancelSchedule 0x65 .badState s) ∧
    (Active s → s.handover.scheduled ≠ .empty →
      exec .cancelSchedule s = .next { told s 0x65 .ok .empty with
        handover := { s.handover with scheduled := .empty, fireBySecond := false }
        second := { s.second with schedule := false } })

/-! ### The second event and its work -/

/-- Tier 2. The second event first does what is left of the last one's work, row by row in the model's order (log entry
3). It then advances the clock, decays every load by a 64th rounded up with the flood test, latching FLOOD_CHANGE where a
flood state changes and no other flag (R59), counts the silence of each peer and the quiet seconds of each line (log entry
11), and marks what its rows test: the shelves and deadlines, the due, start and overdue instants that it reaches, none at
the wrap of 2099, an ARMED fire time at or before mill time, a repeat request owed, and the floods that the decay ended
(R34, R35, R109, R110, R129, R170, R62; the marks, with that of a line to go SILENT, are the model's: log entry 3). While
ACTIVE it builds a presence of the station's state (R151), with the claims of the held areas from the list start on, as
many as fit (R152); the console dark flag that falls due is set before it or not, by a free choice (log entry 5). It
changes nothing else. That the presence carries mill time after the advance, and the line states, the overdue flag and
the held areas as this second event leaves them, is the model's choice of an order that R102 leaves open (log entry
6). -/
def Obligations.SecondEventAdvancesTheClock : Prop :=
  ∀ s u, u = leftOver s → ∃ t, exec .secondEvent s = .next t ∧
    ((∀ c ∈ workRows, ran s c = s) → u = s) ∧
    t.clock.now = s.clock.now + 1 ∧ t.clock.phase = (s.clock.phase + 1) % 16 ∧
    t.clock.millTime = (if s.clock.millTime < 3155759999 then s.clock.millTime + 1 else 0) ∧
    t.clock.secondPeriods = (if (s.clock.phase + 1) % 16 = 15 then 32768 - s.clock.trim else 32768) ∧
    t.clock.trim = s.clock.trim ∧ t.clock.pattern = s.clock.pattern ∧
    (∀ a, (t.area a).config = (s.area a).config ∧ (t.area a).serial = (s.area a).serial ∧
      (t.area a).load = (s.area a).load - ((s.area a).load + 63) / 64 ∧
      ((s.area a).config = none → (t.area a).flood = (s.area a).flood) ∧
      (∀ k, (s.area a).config = some k →
        ((s.area a).flood = true → ((t.area a).flood = true ↔ k.floodOff < (t.area a).load)) ∧
        ((s.area a).flood = false → ((t.area a).flood = true ↔ k.floodOn ≤ (t.area a).load)))) ∧
    (∀ n r, s.peer n = some r → r.state = .present → r.silence < 3 →
      t.peer n = some { r with silence := r.silence + 1 }) ∧
    (Active s → t.tx.presence ≠ none) ∧
    (∀ l, (t.line l).heard = false ∧
      ∀ m, m ≠ l → (t.line l).quiet = (if (s.line l).heard = true then 0
          else if (s.line m).heard = true then min 3 ((s.line l).quiet + 1) else (s.line l).quiet) ∧
        ((t.line l).silentDue = true ↔ (s.line l).heard = false ∧ (s.line m).heard = true ∧ 2 ≤ (s.line l).quiet ∧
          (t.line l).state ≠ .silent)) ∧
    (t.second.shelf = true ∧ t.second.deadline = true ∧
      (t.second.due = true ↔ t.clock.millTime ≠ 0 ∧ s.clock.pattern.isDue t.clock.millTime = true) ∧
      (t.second.start = true ↔ t.clock.millTime ≠ 0 ∧ s.clock.pattern.isStart t.clock.millTime = true) ∧
      (t.second.overdue = true ↔ t.clock.millTime ≠ 0 ∧ s.clock.pattern.isOverdue t.clock.millTime = true) ∧
      (t.second.schedule = true ↔ ∃ o m, u.handover.scheduled = .armed o ∧ o.fire = .at m ∧ m ≤ t.clock.millTime) ∧
      (t.second.repeatWork = true ↔ ∃ x, u.transfer.refresh = some x ∧ x.repeatOwed = true) ∧
      ∀ a, t.second.floodEnded.getLsbD a = true ↔
        a < 32 ∧ (s.area a).flood = true ∧ (t.area a).flood = false) ∧
    t.areas.length = s.areas.length ∧ (∀ a, (t.area a).hold = (u.area a).hold) ∧ (∀ l, (t.line l).state = (u.line l).state) ∧
    t.peers = u.peers.map (fun x => x.map fun r =>
      if r.state = .present then { r with silence := min 3 (r.silence + 1) } else r) ∧
    t.clock = { u.clock with
      millTime := t.clock.millTime, now := t.clock.now, phase := t.clock.phase, secondPeriods := t.clock.secondPeriods
      shift := if t.clock.millTime = 0 then u.clock.pattern.shiftOf 0 else u.clock.shift
      inLead := if t.clock.millTime = 0 then u.clock.pattern.inLead 0 else u.clock.inLead } ∧
    (t.flagSet .floodChange = true ↔ s.flagSet .floodChange = true ∨ ∃ a, (t.area a).flood ≠ (s.area a).flood) ∧
    (∃ w, w = { u with
        clock := t.clock, areas := t.areas, second := t.second, peers := t.peers
        bus := { u.bus with lineA := t.bus.lineA, lineB := t.bus.lineB }
        port := { u.port with attention := w.port.attention } } ∧
      (∀ f, w.flagSet f = true ↔ u.flagSet f = true ∨ (f = .floodChange ∧ ∃ a, (t.area a).flood ≠ (u.area a).flood)) ∧
      (¬Active u → t = w) ∧
      (Active u → ∃ v,
        ((u.node.dark = true ∨ (t.clock.now - u.node.lastCheckIn).toNat < 5) ∧ v = w ∨
          u.node.dark = false ∧ 5 ≤ (t.clock.now - u.node.lastCheckIn).toNat ∧
            ∃ d, (d = w ∨ exec .consoleDark w = .next d) ∧ v = { d with freeCount := u.freeCount + 1 }) ∧
        t = { v with
          node := { v.node with listStart := t.node.listStart }
          tx := { v.tx with presence := t.tx.presence, nextPresence := t.tx.nextPresence } })) ∧
    (Active u → ∃ p held,
      (if u.tx.presence ≠ none ∧ (∃ x, u.bus.sending = some x ∧ x.cls = .presence)
        then t.tx.nextPresence else t.tx.presence) = some ⟨⟨.presence p, none⟩, .none⟩ ∧
      (if u.tx.presence ≠ none ∧ (∃ x, u.bus.sending = some x ∧ x.cls = .presence)
        then t.tx.presence = u.tx.presence else t.tx.nextPresence = u.tx.nextPresence) ∧
      p.dark = t.node.dark ∧ p.overdue = t.clock.overdue ∧ p.pictureValid = t.transfer.valid ∧
      (p.joinMark = true ↔ (t.clock.now - u.node.activeSince).toNat < 3) ∧
      p.activeBadge = (match s.signOn.active with
        | some o => o.badge
        | none => 0) ∧
      p.activeRank = (match s.signOn.active with
        | some o => BitVec.ofNat 8 o.rank
        | none => 0) ∧
      p.reliefBadge = (match s.signOn.relief with
        | some o => o.badge
        | none => 0) ∧
      p.millTime = BitVec.ofNat 32 t.clock.millTime ∧ p.digest = s.node.digest.getD 0 ∧
      p.lineA = t.bus.lineA.state.code ∧ p.lineB = t.bus.lineB.state.code ∧ p.reports = t.node.reports ∧
      held = ((List.range 32).map fun i => (u.node.listStart + i) % 32).filter t.holds ∧
      p.claims.map (fun e => (e.area.toNat, e.serial, e.badge)) = (held.take p.claims.length).map (fun a =>
        (a, (t.area a).serial, match (t.area a).hold with
          | .held _ b => if b = p.activeBadge then none else some b
          | _ => none)) ∧
      claimsSize p.claims = (p.claims.map fun e => if e.badge = none then 3 else 6).sum ∧ claimsSize p.claims ≤ 103 ∧
      (∀ a b n, held[p.claims.length]? = some a → (t.area a).hold = .held n b →
        103 < claimsSize p.claims + (if b = p.activeBadge then 3 else 6) ∧ t.node.listStart = a) ∧
      (held.length ≤ p.claims.length → t.node.listStart = 0)) ∧
    t.signOn = s.signOn ∧ t.lastLost = s.lastLost ∧ t.pending = s.pending ∧ t.node.number = s.node.number ∧
    t.node.gap = s.node.gap ∧ t.node.digest = s.node.digest ∧ t.port.answer = s.port.answer ∧
    t.port.counter = s.port.counter

/-- Tier 2. At a second event a shelf that has run out ends: the record is removed if CLEARED and otherwise UNACK as a
new arrival; every other record stays (an expiry less than 2^31 s past has run out: log entry 17). The shelves that have
run out end one after another in list order, each handed on to the window and the routing before the next, with the sound
demand of a record that leaves its shelf, but for one in an area in FLOOD that is not URGENT; where the last decay ended
the flood it is either (R33, R34; log entry 4). An UNACK record past its response deadline, 60 s, 300 s or 900 s by its
priority, is escalated, but for a MEDIUM or LOW one in an area in FLOOD, and one short of it is not; where the last decay
ended the flood it is either (log entry 4). ESCALATION is latched where this station is a target for one of them, and one
routed here sounds the horn. Each test is made once for each second event (the model's marks: log entry 3). -/
def Obligations.ShelvesAndDeadlinesRunOut : Prop :=
  ∀ s, ListSound s.picture.list →
    (s.second.shelf = false → exec .shelfExpiry s = .next s) ∧
    (s.second.shelf = true → ∃ t, exec .shelfExpiry s = .next t ∧
      ListChange { s with second := { s.second with shelf := false }, freeCount := t.freeCount } t ∧
      ∀ r ∈ s.picture.list,
        (∀ e n b, r.handling = .shelved e n b → (s.clock.now - e).toNat < 2147483648 →
          (r.cleared = true → findRecord r.id t.picture.list = none) ∧
          (r.cleared = false →
            findRecord r.id t.picture.list = some { r with handling := .unack, arrivalSec := s.clock.now })) ∧
        ((∀ e n b, r.handling = .shelved e n b → 2147483648 ≤ (s.clock.now - e).toNat) →
          findRecord r.id t.picture.list = some r)) ∧
    (s.second.shelf = true → (∀ r ∈ s.picture.list, ¬RunOut s r) →
      exec .shelfExpiry s = .next { s with second := { s.second with shelf := false } }) ∧
    (∀ l r m, s.second.shelf = true → s.picture.list = l ++ r :: m → RunOut s r → (∀ x ∈ l, ¬RunOut s x) →
      ∃ t flood, exec .shelfExpiry s = exec .shelfExpiry t ∧
        ListChange { s with freeCount := t.freeCount } t ∧ WindowFollows s t ∧
        ((s.area r.id.area.toNat).flood = true → flood = true) ∧
        ((s.area r.id.area.toNat).flood = false → s.second.floodEnded.getLsbD r.id.area.toNat = false → flood = false) ∧
        Annunciates (!r.cleared && sounds t { r with handling := .unack } flood) { s with freeCount := t.freeCount } t ∧
        (r.cleared = true → t.picture.list = l ++ m) ∧
        (r.cleared = false →
          Placed { r with handling := .unack, arrivalSec := s.clock.now } (l ++ m) t.picture.list)) ∧
    (s.second.deadline = false → exec .responseDeadline s = .next s) ∧
    (s.second.deadline = true → ∃ t, exec .responseDeadline s = .next t ∧
      t = { s with
        picture := { s.picture with list := t.picture.list, horn := t.picture.horn, lamp := t.picture.lamp }
        port := { s.port with attention := t.port.attention }
        second := { s.second with deadline := false }, freeCount := t.freeCount } ∧
      (t.port.attention = s.port.attention ∨ t.port.attention = plus s.port.attention .escalation) ∧
      ∀ r ∈ s.picture.list,
        (r.handling = .unack → r.escalated = false →
          (r.priority = .urgent ∧ 60 ≤ (s.clock.now - r.arrivalSec).toNat) ∨
            (r.priority = .high ∧ 300 ≤ (s.clock.now - r.arrivalSec).toNat) ∨
            (r.priority = .medium ∧ 900 ≤ (s.clock.now - r.arrivalSec).toNat ∧
              (s.area r.id.area.toNat).flood = false ∧ s.second.floodEnded.getLsbD r.id.area.toNat = false) →
          findRecord r.id t.picture.list = some { r with escalated := true }) ∧
        (r.handling ≠ .unack ∨ r.escalated = true ∨ r.priority = .low ∨
            (s.clock.now - r.arrivalSec).toNat < 60 ∨
            (r.priority = .high ∧ (s.clock.now - r.arrivalSec).toNat < 300) ∨
            (r.priority = .medium ∧ (s.clock.now - r.arrivalSec).toNat < 900) ∨
            (r.priority = .medium ∧ (s.area r.id.area.toNat).flood = true) →
          findRecord r.id t.picture.list = some r)) ∧
    (∀ t, s.second.deadline = true → exec .responseDeadline s = .next t →
      (t.flagSet .escalation = true ↔ s.flagSet .escalation = true ∨
        ∃ r ∈ s.picture.list, r.escalated = false ∧ findRecord r.id t.picture.list = some { r with escalated := true } ∧
          (s.isStandby r.id.area.toNat = true ∨ s.rankZero = true)) ∧
      ∀ r ∈ s.picture.list, r.escalated = false → findRecord r.id t.picture.list = some { r with escalated := true } →
        s.routed { r with escalated := true } = true → ∃ p half, t.picture.horn = .sounding p half)

/-- Tier 2. The orphan grace runs out after 10 s: the standby station claims the area if it can and asks for a takeover
if it cannot; a rank-0 station asks for one too; a grace not RUNNING for 10 s is left. The row tests the state it finds
(log entry 3). -/
def Obligations.OrphanGraceRunsOut : Prop :=
  ∀ s (a : Byte),
    ((∀ n b since, (s.area a.toNat).hold = .orphaned n b since .running → (s.clock.now - since).toNat < 10) →
      exec (.orphanGraceRunOut a) s = .next s) ∧
    (∀ n b since u,
      (s.area a.toNat).hold = .orphaned n b since .running → 10 ≤ (s.clock.now - since).toNat →
      u = { s with
        areas := s.areas.set a.toNat { s.area a.toNat with hold := .orphaned n b since .runOut } } →
      (s.isStandby a.toNat = true → s.inFlight a.toNat ≠ none → exec (.orphanGraceRunOut a) s = .next u) ∧
      (s.isStandby a.toNat = true → s.inFlight a.toNat = none → (¬Active s ∨ s.signOn.active = none) →
        exec (.orphanGraceRunOut a) s = .next { u with port := flagged s .takeoverNeeded }) ∧
      (∀ x, s.isStandby a.toNat = true → s.inFlight a.toNat = none → Active s → s.signOn.active = some x →
        (x.qualified.getLsbD a.toNat = true ∧ s.permits x .take a.toNat = true ∧ s.tx.urgent.length < 8 →
          exec (.orphanGraceRunOut a) s = .next { u with
            tx := queued s (.claim 0x02 a (if (s.area a.toNat).serial = 0xFFFF then 0xFFFF
              else (s.area a.toNat).serial + 1) x.badge) }) ∧
        (x.qualified.getLsbD a.toNat = false ∨ s.permits x .take a.toNat = false ∨ 8 ≤ s.tx.urgent.length →
          exec (.orphanGraceRunOut a) s = .next { u with port := flagged s .takeoverNeeded })) ∧
      (s.isStandby a.toNat = false → (∃ x, s.signOn.active = some x ∧ x.rank = 0) →
        exec (.orphanGraceRunOut a) s = .next { u with port := flagged s .takeoverNeeded }) ∧
      (s.isStandby a.toNat = false → (∀ x, s.signOn.active = some x → x.rank ≠ 0) →
        exec (.orphanGraceRunOut a) s = .next u))

/-- Tier 2. A PRESENT peer silent for three second events is LOST: its comparisons are forgotten, its areas are
ORPHANED with their graces RUNNING, routing is re-evaluated without a sound demand (R94), an offer OFFERED to it ends with
a WITHDRAW, built if that has a place (R121), one PRESENTED or ANSWERED from it ends without an ANSWER (R123), and its
sequence is forgotten; no other flag is latched and no other offer changes. It leaves the active and the staged set of
the stream being served; with the active set empty the stream ends, and the staged set starts the next one over the list
as it stands (R164). Any other peer is left.
A count of 3 stands until this row (log entries 3 and 10); a WAITING offer that comes to fire by it is marked (log entry
4). -/
def Obligations.SilentPeersAreLost : Prop :=
  ∀ s (n : Byte),
    ((∀ r, s.peer n = some r → r.state = .lost ∨ r.silence ≠ 3) → exec (.peerLost n) s = .next s) ∧
    (∀ r, s.peer n = some r → r.state = .present → r.silence = 3 → s.node.number ≠ some n →
      ∃ t, exec (.peerLost n) s = .next t ∧
        t = { s with
          picture := { s.picture with horn := t.picture.horn, lamp := t.picture.lamp }
          areas := t.areas, peers := t.peers, handover := t.handover
          bus := { s.bus with lastSeq := t.bus.lastSeq }
          tx := { s.tx with urgent := t.tx.urgent, pictureFrame := t.tx.pictureFrame }
          transfer := { s.transfer with serving := t.transfer.serving }
          port := { s.port with attention := t.port.attention } } ∧
        (AnnunciatorSound s → t.picture = (rerouted { t with picture := s.picture }).picture) ∧
        t.flagSet .peerChange = true ∧
        t.peer n = some { r with state := .lost, digestMatch := .notCompared, millDiff := none } ∧
        (∀ m, m ≠ n → t.peer m = s.peer m ∧ t.lastSeq m = s.lastSeq m) ∧ t.lastSeq n = none ∧
        (∀ a, a < 32 →
          (∀ b, (s.area a).hold = .held n b →
            t.area a = { s.area a with hold := .orphaned n b s.clock.now .running }) ∧
          ((∀ b, (s.area a).hold ≠ .held n b) → t.area a = s.area a)) ∧
        (∀ o, s.handover.outgoing = .offered o → o.target = n →
          t.handover.outgoing = .idle ∧ t.handover.lastOut = some ⟨o.number, n, .targetLost⟩ ∧
            t.flagSet .handoverFailed = true ∧ t.handover.fireBySecond = firesBySecond s ∧
            t.tx.urgent = if s.tx.urgent.length < 8 then s.tx.urgent ++ [⟨.withdraw o.number n, none⟩]
              else s.tx.urgent) ∧
        ((∀ o, s.handover.outgoing = .offered o → o.target ≠ n) →
          t.handover.outgoing = s.handover.outgoing ∧ t.handover.lastOut = s.handover.lastOut ∧
            t.handover.fireBySecond = s.handover.fireBySecond ∧ t.tx.urgent = s.tx.urgent) ∧
        (∀ o f, s.handover.incoming = .presented o ∨ s.handover.incoming = .answered o f → o.origin = n →
          t.handover.incoming = .idle ∧ t.handover.lastIn = some ⟨o.number, n, .originLost⟩ ∧
            t.flagSet .handoverFailed = true) ∧
        ((∀ o f, s.handover.incoming = .presented o ∨ s.handover.incoming = .answered o f → o.origin ≠ n) →
          t.handover.incoming = s.handover.incoming ∧ t.handover.lastIn = s.handover.lastIn) ∧
        (s.transfer.serving = .idle → t.transfer.serving = .idle ∧ t.tx.pictureFrame = s.tx.pictureFrame) ∧
        (∀ x y, s.transfer.serving = .streaming x →
          y = { x with
            active := x.active &&& ~~~BitVec.twoPow 16 (n.toNat - 1)
            staged := x.staged &&& ~~~BitVec.twoPow 16 (n.toNat - 1) } →
          (y.active ≠ 0 → t.transfer.serving = .streaming y ∧ t.tx.pictureFrame = s.tx.pictureFrame) ∧
          (y.active = 0 →
            t.transfer.serving = (if y.staged = 0 then .idle
              else .streaming ⟨y.staged, 0, s.picture.list.map AlarmRecord.id, 0, 0, 0⟩) ∧
            t.tx.pictureFrame = s.tx.pictureFrame.map fun f => { f with current := false })) ∧
        t.handover = { s.handover with
          outgoing := t.handover.outgoing, lastOut := t.handover.lastOut, fireBySecond := t.handover.fireBySecond
          incoming := t.handover.incoming, lastIn := t.handover.lastIn } ∧
        (∀ f, f ≠ .peerChange → f ≠ .handoverFailed → t.flagSet f = s.flagSet f) ∧
        ((∀ o, s.handover.outgoing = .offered o → o.target ≠ n) →
          (∀ o f, s.handover.incoming = .presented o ∨ s.handover.incoming = .answered o f → o.origin ≠ n) →
          t.flagSet .handoverFailed = s.flagSet .handoverFailed))

/-- Tier 2. The console is dark 5 s after its last check-in, and an offer OFFERED or PRESENTED or a seat change ends
with it, its WITHDRAW or ANSWER built if that has a place; an ANSWERED or COMMITTING one runs on (R121, R123). Of both
at once the outgoing one ends first, so that its WITHDRAW is ahead (the model's choice: log entry 41); the listen ends 3
s after its start, in ACTIVE with a marked presence and a refresh, or with a valid picture, shown in that presence,
where no peer is PRESENT (log entry 34); a DISTURBED line recovers after 60 s, and a line that the last second event has
marked to go SILENT (log entries 3 and 11) goes SILENT. A WAITING offer that comes to fire by the dark console is marked
(log entry 4). -/
def Obligations.ConsoleListenAndLines : Prop :=
  ∀ s,
    (s.node.dark = true ∨ (s.clock.now - s.node.lastCheckIn).toNat < 5 → exec .consoleDark s = .next s) ∧
    (∀ o, s.node.dark = false → 5 ≤ (s.clock.now - s.node.lastCheckIn).toNat →
      s.handover.outgoing = .offered o → s.node.number = some o.target →
      exec .consoleDark s = .next { s with
        node := { s.node with dark := true }
        handover := { s.handover with
          outgoing := .idle, incoming := .idle
          lastOut := some ⟨o.number, o.target, .selfDark⟩, lastIn := some ⟨o.number, o.target, .selfDark⟩
          fireBySecond := firesBySecond s }
        port := flagged s .handoverFailed }) ∧
    (∀ o, s.node.dark = false → 5 ≤ (s.clock.now - s.node.lastCheckIn).toNat →
      (∀ x, s.handover.outgoing ≠ .offered x) → s.handover.incoming = .presented o → s.node.number ≠ some o.origin →
      ∀ u, u = { s with
        node := { s.node with dark := true }
        handover := { s.handover with incoming := .idle, lastIn := some ⟨o.number, o.origin, .selfDark⟩ }
        port := flagged s .handoverFailed } →
      (s.tx.urgent.length < 8 →
        exec .consoleDark s = .next { u with tx := queued s (.answer o.origin o.number 0x02 0x03 0) }) ∧
      (8 ≤ s.tx.urgent.length → exec .consoleDark s = .next u)) ∧
    (s.node.dark = false → 5 ≤ (s.clock.now - s.node.lastCheckIn).toNat →
      ((∀ o, s.handover.outgoing ≠ .offered o) →
        (∀ o, s.handover.incoming = .presented o → s.node.number = some o.origin) →
        exec .consoleDark s = .next { s with node := { s.node with dark := true } }) ∧
      (∀ o u, s.handover.outgoing = .offered o → s.node.number ≠ some o.target →
        u = { s with
          node := { s.node with dark := true }
          handover := { s.handover with
            outgoing := .idle, lastOut := some ⟨o.number, o.target, .selfDark⟩, fireBySecond := firesBySecond s }
          port := flagged s .handoverFailed } →
        ((∀ i, s.handover.incoming = .presented i → s.node.number = some i.origin) →
          (s.tx.urgent.length < 8 →
            exec .consoleDark s = .next { u with tx := queued s (.withdraw o.number o.target) }) ∧
          (8 ≤ s.tx.urgent.length → exec .consoleDark s = .next u)) ∧
        (∀ i v, s.handover.incoming = .presented i → s.node.number ≠ some i.origin →
          v = { u with
            handover := { u.handover with incoming := .idle, lastIn := some ⟨i.number, i.origin, .selfDark⟩ } } →
          (s.tx.urgent.length < 7 →
            exec .consoleDark s = .next { v with
              tx := { s.tx with urgent := s.tx.urgent ++
                [⟨.withdraw o.number o.target, none⟩, ⟨.answer i.origin i.number 0x02 0x03 0, none⟩] } }) ∧
          (s.tx.urgent.length = 7 →
            exec .consoleDark s = .next { v with tx := queued s (.withdraw o.number o.target) }) ∧
          (8 ≤ s.tx.urgent.length → exec .consoleDark s = .next v)))) ∧
    (s.node.mode ≠ .joining ∨ (s.clock.now - s.node.listenStart).toNat < 3 → exec .listenEnd s = .next s) ∧
    (s.node.mode = .joining → 3 ≤ (s.clock.now - s.node.listenStart).toNat → s.bus.sending = none →
      (s.peers.length = 16 → (∀ n r, s.peer n = some r → r.state = .lost) →
        ∃ p start, p.joinMark = true ∧ p.activeBadge = s.activeBadge ∧ p.dark = s.node.dark ∧ p.pictureValid = true ∧
          exec .listenEnd s = .next { s with
            node := { s.node with mode := .active, activeSince := s.clock.now, listStart := start }
            tx := { s.tx with presence := some ⟨⟨.presence p, none⟩, .none⟩ }
            transfer := { s.transfer with valid := true }
            port := flagged s .pictureDone }) ∧
      (∀ n r, s.peer n = some r → r.state = .present → s.tx.urgent.length < 8 →
        ∃ p start, p.joinMark = true ∧ p.activeBadge = s.activeBadge ∧ p.dark = s.node.dark ∧
          p.pictureValid = s.transfer.valid ∧
          exec .listenEnd s = .next { s with
            node := { s.node with mode := .active, activeSince := s.clock.now, listStart := start }
            tx := { s.tx with
              presence := some ⟨⟨.presence p, none⟩, .none⟩
              urgent := s.tx.urgent ++ [⟨.pictureRequest, none⟩] }
            transfer := { s.transfer with
              pendingEvents := []
              refresh := some ⟨.waiting, 1, s.clock.now, false, 0⟩ } })) ∧
    (∀ l, (∀ f, (s.line l).state = .disturbed f → (s.clock.now - f).toNat < 60) → exec (.lineRecovery l) s = .next s) ∧
    (∀ l f, (s.line l).state = .disturbed f → 60 ≤ (s.clock.now - f).toNat →
      exec (.lineRecovery l) s =
        .next { s.setLine l { s.line l with state := .good } with port := flagged s .lineFault }) ∧
    (∀ l, (s.line l).silentDue = false → exec (.lineSilent l) s = .next s) ∧
    (∀ l, (s.line l).silentDue = true → (s.line l).state ≠ .silent →
      exec (.lineSilent l) s =
        .next { s.setLine l { s.line l with state := .silent, silentDue := false } with port := flagged s .lineFault })

/-- Tier 2. The instants of the calendar and the scheduled offer: the due instant, the shift start and the overdue
instant that a second event has reached (the model's marks: log entry 3), in that order; an ARMED offer whose time has
come waits, and a WAITING one fires once the outgoing offer is IDLE (log entry 20), a remote offer or a seat change,
or is refused at the first check it fails, in the order of R115 and R126. Where it fires by that second event's own work,
which the model marks, its checks find an area whose flood that event ended either way, by a free choice; any other
firing finds NORMAL there (R62, log entry 4). -/
def Obligations.InstantsAndScheduleAct : Prop :=
  ∀ s,
    (s.second.due = false → exec .dueInstant s = .next s) ∧
    (s.second.due = true →
      exec .dueInstant s = .next { s with
        clock := { s.clock with inLead := true }
        second := { s.second with due := false }
        port := { s.port with
          attention := if s.signOn.active = none then s.port.attention else plus s.port.attention .handoverDue } }) ∧
    (s.second.due = false → s.second.start = false → exec .shiftStart s = .next s) ∧
    (s.second.due = false → s.second.start = true →
      exec .shiftStart s = .next { s with
        clock := { s.clock with shift := s.clock.pattern.shiftOf s.clock.millTime, inLead := false }
        second := { s.second with start := false }
        handover := { s.handover with
          scheduled := match s.handover.scheduled with
            | .armed o => if o.fire = .nextShiftStart then .waiting o else .armed o
            | x => x
          fireBySecond := s.handover.fireBySecond || (s.handover.outgoing == .idle && match s.handover.scheduled with
            | .armed o => o.fire == .nextShiftStart
            | _ => false) } }) ∧
    (s.second.due = false → s.second.start = false → s.second.overdue = false → exec .overdueInstant s = .next s) ∧
    (s.second.due = false → s.second.start = false → s.second.overdue = true →
      ((∃ x a, s.signOn.active = some x ∧ x.shift < s.clock.shift ∧ a < 32 ∧ s.holds a = true) →
        exec .overdueInstant s = .next { s with
          clock := { s.clock with overdue := true }
          second := { s.second with overdue := false }
          port := flagged s .handoverOverdue }) ∧
      ((∀ x, s.signOn.active = some x → s.clock.shift ≤ x.shift) ∨ (∀ a, a < 32 → s.holds a = false) →
        exec .overdueInstant s = .next { s with second := { s.second with overdue := false } })) ∧
    (s.second.schedule = false → exec .scheduleReached s = .next s) ∧
    (∀ o m, s.second.schedule = true → s.handover.scheduled = .armed o → o.fire = .at m → m ≤ s.clock.millTime →
      exec .scheduleReached s = .next { s with
        second := { s.second with schedule := false }
        handover := { s.handover with
          scheduled := .waiting o, fireBySecond := s.handover.fireBySecond || s.handover.outgoing == .idle } }) ∧
    ((∀ o, s.handover.scheduled ≠ .waiting o) ∨ s.handover.outgoing ≠ .idle →
      exec .scheduledOfferFire s = .next s) ∧
    (∀ o, s.handover.scheduled = .waiting o → s.handover.outgoing = .idle →
      (s.node.dark = true →
        exec .scheduledOfferFire s = .next { s with
          handover := { s.handover with
            scheduled := .empty, fireResult := some (.refused .badState), fireBySecond := false }
          port := flagged s .scheduleFired }) ∧
      (s.node.dark = false →
        ∃ (flooded : Nat → Bool) (free : Nat),
          (∀ a, (s.area a).flood = true → flooded a = true) ∧
          (∀ a, (s.area a).flood = false → s.handover.fireBySecond = false ∨ s.second.floodEnded.getLsbD a = false →
            flooded a = false) ∧
          (∀ c, offerFails s flooded o.target o.areas = some c →
            exec .scheduledOfferFire s = .next { s with
              handover := { s.handover with
                scheduled := .empty, fireResult := some (.refused c), fireBySecond := false }
              port := flagged s .scheduleFired, freeCount := free }) ∧
          (offerFails s flooded o.target o.areas = none → s.node.number ≠ some o.target →
            exec .scheduledOfferFire s = .next { s with
              handover := { s.handover with
                scheduled := .empty, fireResult := some (.made (s.handover.counter + 1)), fireBySecond := false
                counter := s.handover.counter + 1
                outgoing := .offered ⟨s.handover.counter + 1, o.target, o.areas, s.clock.now⟩ }
              tx := queued s (.offer (s.handover.counter + 1) o.target s.activeBadge o.areas
                ((areaList o.areas).map s.summary))
              port := flagged s .scheduleFired, freeCount := free }) ∧
          (offerFails s flooded o.target o.areas = none → s.node.number = some o.target →
            exec .scheduledOfferFire s = .next { s with
              handover := { s.handover with
                scheduled := .empty, fireResult := some (.made (s.handover.counter + 1)), fireBySecond := false
                counter := s.handover.counter + 1
                outgoing := .offered ⟨s.handover.counter + 1, o.target, s.heldSet, s.clock.now⟩
                incoming := .presented ⟨o.target, s.handover.counter + 1, s.heldSet,
                  (areaList s.heldSet).map s.summary, s.activeBadge, s.clock.now⟩ }
              port := { s.port with
                attention := plus (plus s.port.attention .offerReceived) .scheduleFired }
              freeCount := free })))

/-- Tier 2. The offer timeout of 120 s, the decision window of 110 s and the commit wait of 10 s; before them nothing
changes. A WITHDRAW or an ANSWER that a full urgent queue does not take is not built, and the offer ends all the same
(R121). A seat change at the offer timeout, where its decision window has not ended it, ends on both sides (log entry
19). The rows test the state they find (log entry 3), and mark a WAITING offer that comes to fire by them (log
entry 4). -/
def Obligations.OfferTimersRunOut : Prop :=
  ∀ s,
    ((∀ o, s.handover.outgoing = .offered o → (s.clock.now - o.start).toNat < 120) →
      exec .offerTimeout s = .next s) ∧
    (∀ o u, s.handover.outgoing = .offered o → 120 ≤ (s.clock.now - o.start).toNat → s.node.number ≠ some o.target →
      u = { s with
        handover := { s.handover with
          outgoing := .idle, lastOut := some ⟨o.number, o.target, .timedOut⟩, fireBySecond := firesBySecond s }
        port := flagged s .handoverFailed } →
      (s.tx.urgent.length < 8 →
        exec .offerTimeout s = .next { u with tx := queued s (.withdraw o.number o.target) }) ∧
      (8 ≤ s.tx.urgent.length → exec .offerTimeout s = .next u)) ∧
    (∀ o, s.handover.outgoing = .offered o → 120 ≤ (s.clock.now - o.start).toNat → s.node.number = some o.target →
      exec .offerTimeout s = .next { s with
        handover := { s.handover with
          outgoing := .idle, incoming := .idle
          lastOut := some ⟨o.number, o.target, .timedOut⟩, lastIn := some ⟨o.number, o.target, .timedOut⟩
          fireBySecond := firesBySecond s }
        port := flagged s .handoverFailed }) ∧
    ((∀ o, s.handover.incoming = .presented o → (s.clock.now - o.start).toNat < 110) →
      exec .decisionWindow s = .next s) ∧
    (∀ o, s.handover.incoming = .presented o → 110 ≤ (s.clock.now - o.start).toNat →
      (∀ u, s.node.number ≠ some o.origin →
        u = { s with
          handover := { s.handover with
            incoming := .idle, lastIn := some ⟨o.number, o.origin, .autoDeclined 0x04⟩ }
          port := flagged s .offerEnded } →
        (s.tx.urgent.length < 8 →
          exec .decisionWindow s = .next { u with tx := queued s (.answer o.origin o.number 0x02 0x04 0) }) ∧
        (8 ≤ s.tx.urgent.length → exec .decisionWindow s = .next u)) ∧
      (s.node.number = some o.origin →
        exec .decisionWindow s = .next { s with
          handover := { s.handover with
            outgoing := .idle, incoming := .idle
            lastOut := some ⟨o.number, o.origin, .autoDeclined 0x04⟩
            lastIn := some ⟨o.number, o.origin, .autoDeclined 0x04⟩
            fireBySecond := firesBySecond s }
          port := flagged s .offerEnded })) ∧
    ((∀ o f, s.handover.incoming = .answered o f → (s.clock.now - f).toNat < 10) →
      exec .commitWait s = .next s) ∧
    (∀ o f, s.handover.incoming = .answered o f → 10 ≤ (s.clock.now - f).toNat →
      exec .commitWait s = .next { s with
        handover := { s.handover with incoming := .idle, lastIn := some ⟨o.number, o.origin, .noCommit⟩ }
        port := flagged s .handoverFailed })

/-- Tier 2. A refresh attempt fails after 5 s of WAITING or 3 s without a frame: the first failure repeats the request,
but for one still in the urgent queue, and the second ends the refresh with PICTURE_DOUBTFUL, a repeat request still
owed or not (log entry 37); an owed request is queued once for each second event that finds a place (the model's mark:
log entry 3), in RECEIVING too (log entry 21). A claim is built from the re-badge list for its first area without one in
flight. Back in WAITING the count of records taken stands (the model's choice: log entry 44). -/
def Obligations.RefreshTestsAndRebadge : Prop :=
  ∀ s,
    (s.transfer.refresh = none → exec .refreshWaitFailure s = .next s ∧ exec .refreshStallFailure s = .next s) ∧
    (∀ x, s.transfer.refresh = some x → x.phase = .waiting →
      exec .refreshStallFailure s = .next s ∧
      (x.repeatOwed = true ∨ (s.clock.now - x.wait).toNat < 5 → exec .refreshWaitFailure s = .next s)) ∧
    (∀ x n f, s.transfer.refresh = some x → x.phase = .receiving n f →
      exec .refreshWaitFailure s = .next s ∧
      ((s.clock.now - f).toNat < 3 → exec .refreshStallFailure s = .next s)) ∧
    (∀ x c, s.transfer.refresh = some x →
      (c = .refreshWaitFailure ∧ x.phase = .waiting ∧ x.repeatOwed = false ∧ 5 ≤ (s.clock.now - x.wait).toNat) ∨
        (∃ n f, c = .refreshStallFailure ∧ x.phase = .receiving n f ∧ 3 ≤ (s.clock.now - f).toNat) →
      (x.attempt = 1 → (∀ t ∈ s.tx.urgent, t.frame ≠ .pictureRequest) → s.tx.urgent.length < 8 →
        exec c s = .next { s with
          tx := queued s .pictureRequest
          transfer := { s.transfer with
            refresh := some { x with phase := .waiting, attempt := 2, wait := s.clock.now } } }) ∧
      (x.attempt = 1 → (∀ t ∈ s.tx.urgent, t.frame ≠ .pictureRequest) → 8 ≤ s.tx.urgent.length →
        exec c s = .next { s with
          transfer := { s.transfer with
            refresh := some { x with phase := .waiting, attempt := 2, repeatOwed := true } } }) ∧
      (x.attempt = 1 → (∃ t ∈ s.tx.urgent, t.frame = .pictureRequest) →
        exec c s = .next { s with
          transfer := { s.transfer with
            refresh := some { x with phase := .waiting, attempt := 2, wait := s.clock.now } } }) ∧
      (x.attempt ≠ 1 →
        exec c s = .next { s with
          transfer := { s.transfer with valid := true, pendingEvents := [], refresh := none }
          port := flagged s .pictureDoubtful })) ∧
    (s.second.repeatWork = false → exec .pictureRequestRepeat s = .next s) ∧
    (∀ x, s.second.repeatWork = true → s.transfer.refresh = some x → x.repeatOwed = true → s.tx.urgent.length < 8 →
      exec .pictureRequestRepeat s = .next { s with
        second := { s.second with repeatWork := false }
        tx := queued s .pictureRequest
        transfer := { s.transfer with refresh := some { x with repeatOwed := false, wait := s.clock.now } } }) ∧
    (s.second.repeatWork = true →
      s.transfer.refresh = none ∨ 8 ≤ s.tx.urgent.length ∨
        (∃ x, s.transfer.refresh = some x ∧ x.repeatOwed = false) →
      exec .pictureRequestRepeat s = .next { s with second := { s.second with repeatWork := false } }) ∧
    (s.handover.rebadge = 0 ∨ 8 ≤ s.tx.urgent.length → exec .rebadgeClaimBuild s = .next s) ∧
    (∀ a : Byte, a.toNat < 32 → s.handover.rebadge.getLsbD a.toNat = true → s.inFlight a.toNat = none →
      (∀ b, b < a.toNat → s.handover.rebadge.getLsbD b = true → s.inFlight b ≠ none) → s.tx.urgent.length < 8 →
      exec .rebadgeClaimBuild s = .next { s with
        tx := queued s (.claim 0x01 a (if (s.area a.toNat).serial = 0xFFFF then 0xFFFF
          else (s.area a.toNat).serial + 1) s.activeBadge)
        handover := { s.handover with rebadge := s.handover.rebadge &&& ~~~BitVec.twoPow 32 a.toNat } })

/-! ### Sending (chapter 9) -/

/-- Tier 2. At an access in the slot of its wait, an ACTIVE station that is not sending starts the frame of its lowest
class; the frame takes the sequence counter's value at its first attempt and keeps it in every retry, an ALARM CHANGE or
a picture frame held as built among them. A new picture frame walks the stream list from the stream position and takes
up to six records that are still in the list, as they stand now, or is a PICTURE END where none is left (R163; remaining
seconds of a shelf: log entries 17 and 38). The command carries the slot (log entry 16). -/
def Obligations.AccessStartsTheLowestClass : Prop :=
  ∀ s (slot : BitVec 7) (n : Station),
    (¬Active s ∨ s.bus.sending ≠ none → exec (.accessStart slot) s = .next s) ∧
    (Active s → s.bus.sending = none → s.node.number = some n →
      (∀ f rest, s.tx.urgent = f :: rest →
        (slot.toNat ≠ n.toNat → exec (.accessStart slot) s = .next s) ∧
        (slot.toNat = n.toNat →
          exec (.accessStart slot) s = .next { s with
            tx := { s.tx with urgent := { f with seq := some (f.seq.getD s.bus.seq) } :: rest }
            bus := { s.bus with
              seq := if f.seq = none then s.bus.seq + 1 else s.bus.seq
              sending := some ⟨.urgent, false, false⟩ } })) ∧
      (s.tx.urgent = [] → s.tx.changeFrame = none → s.tx.change ≠ [] → slot.toNat = 16 + n.toNat →
        exec (.accessStart slot) s = .next { s with
          tx := { s.tx with
            changeFrame := some ⟨.alarmChange (s.tx.change.take 8), some s.bus.seq⟩
            change := s.tx.change.drop 8 }
          bus := { s.bus with seq := s.bus.seq + 1, sending := some ⟨.change, false, false⟩ } }) ∧
      (∀ f, s.tx.urgent = [] → s.tx.changeFrame = some f → slot.toNat = 16 + n.toNat →
        exec (.accessStart slot) s = .next { s with
          tx := { s.tx with changeFrame := some { f with seq := some (f.seq.getD s.bus.seq) } }
          bus := { s.bus with
            seq := if f.seq = none then s.bus.seq + 1 else s.bus.seq
            sending := some ⟨.change, false, false⟩ } }) ∧
      (∀ f, s.tx.urgent = [] → s.tx.changeFrame = none → s.tx.change = [] → s.tx.presence = none →
        s.tx.pictureFrame = some f → slot.toNat = 48 + n.toNat →
        exec (.accessStart slot) s = .next { s with
          tx := { s.tx with
            pictureFrame := some { f with tx := { f.tx with seq := some (f.tx.seq.getD s.bus.seq) } } }
          bus := { s.bus with
            seq := if f.tx.seq = none then s.bus.seq + 1 else s.bus.seq
            sending := some ⟨.picture, false, false⟩ } }) ∧
      (∀ p, s.tx.urgent = [] → s.tx.changeFrame = none → s.tx.change = [] → s.tx.presence = some p →
        slot.toNat = 32 + n.toNat →
        exec (.accessStart slot) s = .next { s with
          tx := { s.tx with presence := some { p with tx := { p.tx with seq := some (p.tx.seq.getD s.bus.seq) } } }
          bus := { s.bus with
            seq := if p.tx.seq = none then s.bus.seq + 1 else s.bus.seq
            sending := some ⟨.presence, false, false⟩ } }) ∧
      (∀ x walked rest rs f y, s.tx.urgent = [] → s.tx.changeFrame = none → s.tx.change = [] →
        s.tx.presence = none → s.tx.pictureFrame = none → s.transfer.serving = .streaming x →
        slot.toNat = 48 + n.toNat →
        x.ids.drop x.position = walked ++ rest → rs = walked.filterMap (fun id => findRecord id s.picture.list) →
        (rs.length < 6 ∧ rest = []) ∨
          (rs.length = 6 ∧ ∃ id, walked.getLast? = some id ∧ findRecord id s.picture.list ≠ none) →
        (rs = [] ∧ f = .pictureEnd x.active (BitVec.ofNat 16 x.sent) ∧ y = x) ∨
          (rs ≠ [] ∧ f = .picture x.active x.index (rs.map s.pictureRecord) ∧
            y = { x with position := x.position + walked.length, sent := x.sent + rs.length }) →
        exec (.accessStart slot) s = .next { s with
          tx := { s.tx with pictureFrame := some ⟨⟨f, some s.bus.seq⟩, true⟩ }
          transfer := { s.transfer with serving := .streaming y }
          bus := { s.bus with seq := s.bus.seq + 1, sending := some ⟨.picture, false, false⟩ } })) ∧
    (∀ r p, p = s.pictureRecord r →
      p.id = r.id ∧ p.priority.toNat = r.priority.num ∧ p.cleared = r.cleared ∧ p.occurrence = r.occurrence ∧
      p.raiseTime = r.raiseTime ∧ p.feed = r.feed ∧
      p.age.toNat = min 16777215 (s.clock.now - r.arrivalSec).toNat ∧
      (r.handling = .unack → p.handling = .unack) ∧
      (∀ t b, r.handling = .ack t b → p.handling = .ack t b) ∧
      (∀ e t b, r.handling = .shelved e t b → ∃ left, p.handling = .shelved t b left ∧
        ((s.clock.now - e).toNat < 2147483648 → left = 0) ∧
        (2147483648 ≤ (s.clock.now - e).toNat → (e - s.clock.now).toNat < 65536 →
          left.toNat = (e - s.clock.now).toNat)))

/-- Tier 2. A line that fails the echo check is no longer driven and is DISTURBED; an attempt fails only when both lines
have stopped, and BUS_FAULT is latched at the eighth failure in a row; a presence waiting beside a failed one takes its
place. A frame that counts as sent frees its place and acts on the sender too: an ALARM CHANGE and an ACK entry by entry
in their order (a stale ACK entry latches ACK_STALE), SHELVE, UNSHELVE, CLAIM, TAKEOVER and TAKE, accepted or rejected,
a COMMIT entry by entry, with the areas that move named in its outcome, an area left ORPHANED among them (the model's
choice: log entry 50), and no CLAIM_LOST, PICTURE, PICTURE END and a PRESENCE, whose claims are ordinary ones here, dark
or not (R87), and which clears each trouble report it carried that was not set again since its build (R153). Routing is
re-evaluated after each change, and a raise or an ended shelf makes its sound demand (R15, R16, R33). OFFER, ANSWER,
WITHDRAW and PICTURE REQUEST change nothing more here. -/
def Obligations.AttemptsEnd : Prop :=
  ∀ s,
    (s.bus.sending = none → exec .attemptEnd s = .next s ∧ ∀ l, exec (.echoCheckFailure l) s = .next s) ∧
    (∀ x l, s.bus.sending = some x →
      ((l = .a ∧ x.stoppedA = false) ∨ (l = .b ∧ x.stoppedB = false)) → (s.line l).silentDue = false →
      ∃ t, exec (.echoCheckFailure l) s = .next t ∧
        t = { s with
          bus := t.bus, node := { s.node with reports := { s.node.reports with echoFault := true, lineDisturbed := true } }
          port := { s.port with
            attention := if (s.line l).state.code = 1 then s.port.attention
              else plus s.port.attention .lineFault }
          tx := { s.tx with
            presence := s.tx.presence.map fun p =>
              { p with again := { p.again with echoFault := true, lineDisturbed := true } }
            nextPresence := s.tx.nextPresence.map fun p =>
              { p with again := { p.again with echoFault := true, lineDisturbed := true } } } } ∧
        t.bus.sending = some (if l = .a then { x with stoppedA := true } else { x with stoppedB := true }) ∧
        t.line l = { s.line l with state := .disturbed s.clock.now } ∧ (∀ m, m ≠ l → t.line m = s.line m) ∧
        t.bus.seq = s.bus.seq ∧ t.bus.lastSeq = s.bus.lastSeq ∧ t.bus.fails = s.bus.fails) ∧
    (∀ x, s.bus.sending = some x → x.stoppedA = true → x.stoppedB = true →
      exec .attemptEnd s = .next { s with
        bus := { s.bus with sending := none, fails := min 8 (s.bus.fails + 1) }
        tx := if x.cls = .presence ∧ s.tx.nextPresence ≠ none
          then { s.tx with presence := s.tx.nextPresence, nextPresence := none } else s.tx
        port := { s.port with
          attention := if s.bus.fails = 7 then plus s.port.attention .busFault else s.port.attention } }) ∧
    (∀ x n q rest u, s.bus.sending = some x → x.cls = .urgent → (x.stoppedA = false ∨ x.stoppedB = false) →
      s.node.number = some n → 1 ≤ n.toNat → n.toNat ≤ 16 →
      u = { s with bus := { s.bus with sending := none, fails := 0 }, tx := { s.tx with urgent := rest } } →
      (s.tx.urgent = ⟨.pictureRequest, q⟩ :: rest → exec .attemptEnd s = .next u) ∧
      (∀ b e r, s.tx.urgent = ⟨.ack b [e], q⟩ :: rest → findRecord e.id s.picture.list = some r →
        r.occurrence = e.occurrence → r.handling = .unack → r.cleared = false →
        ∃ t, exec .attemptEnd s = .next t ∧ ListChange u t ∧ WindowFollows s t ∧ OthersKept e.id s t ∧ Annunciates false u t ∧
          findRecord e.id t.picture.list = some { r with handling := .ack n b, escalated := false }) ∧
      (∀ b e r, s.tx.urgent = ⟨.ack b [e], q⟩ :: rest → findRecord e.id s.picture.list = some r →
        e.occurrence.toNat < r.occurrence.toNat →
        exec .attemptEnd s = .next { u with
          picture := { s.picture with lastStale := some e.id }, port := flagged s .ackStale }) ∧
      (∀ (id : AlarmId) (d : Half) b r, s.tx.urgent = ⟨.shelve id d b, q⟩ :: rest →
        findRecord id s.picture.list = some r → shelvedCount id.area id s.picture.list < s.shelveLimit id.area →
        ∃ t, exec .attemptEnd s = .next t ∧ ListChange u t ∧ WindowFollows s t ∧ OthersKept id s t ∧ Annunciates false u t ∧
          findRecord id t.picture.list = some { r with
            handling := .shelved (s.clock.now + BitVec.ofNat 32 (d.toNat * 60)) n b, escalated := false }) ∧
      (∀ id r, s.tx.urgent = ⟨.unshelve id, q⟩ :: rest → findRecord id s.picture.list = some r →
        r.handling.isShelved = true →
        ∃ t, exec .attemptEnd s = .next t ∧ ListChange u t ∧ WindowFollows s t ∧ OthersKept id s t ∧
          Annunciates (!r.cleared && sounds t { r with handling := .unack } (s.area id.area.toNat).flood) u t ∧
          findRecord id t.picture.list =
            if r.cleared = true then none else some { r with handling := .unack, arrivalSec := s.clock.now }) ∧
      (∀ f k a m b, s.tx.urgent = ⟨f, q⟩ :: rest →
        f = .claim 0x01 a m b ∨ f = .claim 0x02 a m b ∨ f = .take a m b → (s.area a.toNat).config = some k →
        ((s.area a.toNat).serial.toNat < m.toNat ∨
            (m = (s.area a.toNat).serial ∧ ∀ t0 b0, (s.area a.toNat).hold = .held t0 b0 → n.toNat ≤ t0.toNat) →
          exec .attemptEnd s = .next { handedOn a.toNat s { u with
              areas := s.areas.set a.toNat { s.area a.toNat with hold := .held n b, serial := m } } with
            port := if f = .claim 0x02 a m b then flagged s .areaTaken else s.port }) ∧
        (m.toNat < (s.area a.toNat).serial.toNat ∨
            (m = (s.area a.toNat).serial ∧ ∃ t0 b0, (s.area a.toNat).hold = .held t0 b0 ∧ t0.toNat < n.toNat) →
          exec .attemptEnd s = .next { u with lastLost := some a.toNat, port := flagged s .claimLost })) ∧
      (∀ number dest b es r v, s.tx.urgent = ⟨.commit number dest b es, q⟩ :: rest →
        1 ≤ dest.toNat → dest.toNat ≤ 16 →
        r = es.foldl (committedTo dest b (commitOrphaned dest s) false) (0, { u with tx := s.tx }) →
        v = { r.2 with tx := { r.2.tx with urgent := r.2.tx.urgent.tail } } →
        (∀ o, s.handover.outgoing = .committing o → o.number = number →
          exec .attemptEnd s = .next { v with
            handover := { v.handover with
              outgoing := .idle, lastOut := some ⟨number, o.target, .committed r.1⟩ }
            port := flagged v .offerEnded }) ∧
        ((∀ o, s.handover.outgoing = .committing o → o.number ≠ number) → exec .attemptEnd s = .next v)) ∧
      (∀ b e es t, s.tx.urgent = ⟨.ack b (e :: es), q⟩ :: rest → es ≠ [] →
        exec .attemptEnd { s with tx := { s.tx with urgent := ⟨.ack b [e], q⟩ :: rest } } = .next t →
        exec .attemptEnd s = exec .attemptEnd { t with
          bus := { t.bus with sending := some x }, tx := { t.tx with urgent := ⟨.ack b es, q⟩ :: rest } }) ∧
      (∀ f, s.tx.urgent = ⟨f, q⟩ :: rest →
        (∃ number dest b areas xs, f = .offer number dest b areas xs) ∨ (∃ number dest, f = .withdraw number dest) ∨
          (∃ origin number d r b, f = .answer origin number d r b ∧ origin ≠ n) →
        exec .attemptEnd s = .next u)) ∧
    (∀ x n e q u, s.bus.sending = some x → x.cls = .change → (x.stoppedA = false ∨ x.stoppedB = false) →
      s.node.number = some n → 1 ≤ n.toNat → n.toNat ≤ 16 → s.tx.changeFrame = some ⟨.alarmChange [e], q⟩ →
      u = { s with bus := { s.bus with sending := none, fails := 0 }, tx := { s.tx with changeFrame := none } } →
      ((∀ k, (s.area e.id.area.toNat).config = some k → k.feed ≠ n) →
        exec .attemptEnd s = .next { u with port := flagged s .feedMismatch }) ∧
      (∀ k p v w, (s.area e.id.area.toNat).config = some k → k.feed = n → e.kind = 0x01 →
        priorityOf e.priority.toNat = some p → v = (s.area e.id.area.toNat).addLoad p →
        w = { u with
          areas := s.areas.set e.id.area.toNat v
          picture := { s.picture with arrivals := s.picture.arrivals + 1 }
          transfer := { s.transfer with pendingEvents := s.transfer.pendingEvents.filter fun y => y.id != e.id }
          port := { s.port with
            attention := if v.flood = (s.area e.id.area.toNat).flood then s.port.attention
              else plus s.port.attention .floodChange } } →
        (∀ r, findRecord e.id s.picture.list = none → s.picture.list.length < 256 →
          r = ⟨e.id, p, false, .unack, 1, e.raiseTime, s.clock.now, s.picture.arrivals, false, n⟩ →
          ∃ t, exec .attemptEnd s = .next t ∧ OthersKept e.id s t ∧ ListChange w t ∧ WindowFollows s t ∧
            findRecord e.id t.picture.list = some r ∧ Annunciates (sounds t r v.flood) w t) ∧
        (∀ y r, findRecord e.id s.picture.list = some y →
          r = { y with
            priority := p, cleared := false
            handling := if y.handling.isAck = true then .unack else y.handling
            occurrence := if y.occurrence = 0xFF then 0xFF else y.occurrence + 1
            raiseTime := e.raiseTime, arrivalSec := s.clock.now, arrivalSeq := s.picture.arrivals
            escalated := false, feed := n } →
          ∃ t, exec .attemptEnd s = .next t ∧ OthersKept e.id s t ∧ ListChange w t ∧
            findRecord e.id t.picture.list = some r ∧ Annunciates (sounds t r v.flood) w t ∧
            t.window.top = (if t.scoped.length ≤ s.window.top then t.scoped.length - 1 else s.window.top) ∧
            t.window.changed = (s.window.changed || viewMoved s t || s.inView e.id || t.inView e.id))) ∧
      (∀ k r, (s.area e.id.area.toNat).config = some k → k.feed = n → e.kind = 0x02 →
        findRecord e.id s.picture.list = some r → r.cleared = false →
        ∃ t, exec .attemptEnd s = .next t ∧ ListChange u t ∧ WindowFollows s t ∧ OthersKept e.id s t ∧ Annunciates false u t ∧
          findRecord e.id t.picture.list =
            if r.handling.isAck = true then none else some { r with cleared := true })) ∧
    (∀ x e es q t, s.bus.sending = some x → x.cls = .change → (x.stoppedA = false ∨ x.stoppedB = false) →
      s.tx.changeFrame = some ⟨.alarmChange (e :: es), q⟩ → es ≠ [] →
      exec .attemptEnd { s with tx := { s.tx with changeFrame := some ⟨.alarmChange [e], q⟩ } } = .next t →
      exec .attemptEnd s = exec .attemptEnd { t with
        bus := { t.bus with sending := some x }, tx := { t.tx with changeFrame := some ⟨.alarmChange es, q⟩ } }) ∧
    (∀ x n f y u, s.bus.sending = some x → x.cls = .picture → (x.stoppedA = false ∨ x.stoppedB = false) →
      s.node.number = some n → s.tx.pictureFrame = some f → s.transfer.serving = .streaming y →
      u = { s with bus := { s.bus with sending := none, fails := 0 }, tx := { s.tx with pictureFrame := none } } →
      (∀ m i rs, f.tx.frame = .picture m i rs →
        exec .attemptEnd s = .next { u with transfer := { s.transfer with
          serving := .streaming (if f.current = true then { y with index := y.index + 1 } else y) } }) ∧
      (∀ m c, f.tx.frame = .pictureEnd m c → f.current = true →
        exec .attemptEnd s = .next { u with transfer := { s.transfer with
          serving := if y.staged = 0 then .idle
            else .streaming ⟨y.staged, 0, s.picture.list.map AlarmRecord.id, 0, 0, 0⟩ } })) ∧
    (∀ x n p b, s.bus.sending = some x → x.cls = .presence → (x.stoppedA = false ∨ x.stoppedB = false) →
      s.node.number = some n → s.tx.presence = some p → p.tx.frame = .presence b →
      b.claims = [] ∨ (1 ≤ n.toNat ∧ n.toNat ≤ 16) →
      exec .attemptEnd s = .next { b.claims.foldl
          (fun y e => (tried n (e.badge.getD b.activeBadge) false false e.serial e.area.toNat y).getD y)
          { s with bus := { s.bus with sending := none, fails := 0 } } with
        node := { s.node with reports := {
          listFull := s.node.reports.listFull && (!b.reports.listFull || p.again.listFull)
          echoFault := s.node.reports.echoFault && (!b.reports.echoFault || p.again.echoFault)
          lineDisturbed := s.node.reports.lineDisturbed && (!b.reports.lineDisturbed || p.again.lineDisturbed)
          duplicateSeen := s.node.reports.duplicateSeen && (!b.reports.duplicateSeen || p.again.duplicateSeen) } }
        tx := { s.tx with presence := s.tx.nextPresence, nextPresence := none } })

/-! ### Receiving (chapters 9 to 11) -/

/-- Tier 2. A frame whose body does not fit its kind is accepted and tracks its sender, and no block applies it: a
sender not heard before gets its peer record and a LOST one is PRESENT again. A well-formed frame does the same first, and
its owner then takes it as from a PRESENT peer; a join mark makes no restart of a peer that was LOST (R157), nor of one
not heard before. A PRESENT peer at a silence count of 3 is taken before the second event, which then counts from 0 (log
entry 10). A kind or sender that is none, and a
repeated sequence, count for the lines alone; nothing is received in CONFIG and READY, and without a good copy. This
station's own number from another transmitter is a duplicate. Of every frame, a bad copy beside a good one marks its
line, and a good copy makes a SILENT line GOOD (what each line delivered is an operand, log entry 15; that it delivered
a good copy is marked in the line, log entry 9). -/
def Obligations.UnusableFramesChangeLittle : Prop :=
  ∀ s rx (kind : Byte) body,
    (Hears s rx → 0x01 ≤ kind.toNat → kind.toNat ≤ 0x0E → decodeFrame kind body = none →
      exec (.malformedFrame rx kind body) s = .next (heard s rx)) ∧
    (Hears s rx → kind = 0x00 ∨ 0x0E < kind.toNat →
      exec (.malformedFrame rx kind body) s = .next { s with bus := { (heard s rx).bus with lastSeq := s.bus.lastSeq } }) ∧
    (∀ q, Hears s ⟨rx.sender, q, rx.copyA, rx.copyB⟩ → s.lastSeq rx.sender = some rx.seq →
      exec (.malformedFrame rx kind body) s = .next { s with bus := { (heard s rx).bus with lastSeq := s.bus.lastSeq } } ∧
      exec (.pictureRequest rx) s = .next { s with bus := { (heard s rx).bus with lastSeq := s.bus.lastSeq } }) ∧
    (s.node.mode = .config ∨ s.node.mode = .ready ∨ (rx.copyA ≠ .good ∧ rx.copyB ≠ .good) →
      exec (.malformedFrame rx kind body) s = .next s ∧ exec (.pictureRequest rx) s = .next s ∧
        exec (.duplicateFrame rx.seq rx.copyA rx.copyB) s = .next s) ∧
    (∀ (q : Byte) n bus, s.node.number = some n → 1 ≤ n.toNat → n.toNat ≤ 16 → s.bus.sending = none →
      s.lastSeq n ≠ some q → Sound s.bus.lineA → Sound s.bus.lineB →
      bus = { s.bus with
        lineA := { s.bus.lineA with heard := true }
        lineB := { s.bus.lineB with heard := true }
        lastSeq := s.bus.lastSeq.set (n.toNat - 1) (some q) } →
      (s.node.mode = .joining →
        exec (.duplicateFrame q .good .good) s = .next { s with
          bus := bus, node := { s.node with mode := .mute }, port := flagged s .duplicateStation }) ∧
      (s.node.mode = .mute →
        exec (.duplicateFrame q .good .good) s = .next { s with bus := bus, port := flagged s .duplicateStation }) ∧
      (Active s → s.tx.presence = none → s.tx.nextPresence = none →
        exec (.duplicateFrame q .good .good) s = .next { s with
          bus := bus, node := { s.node with reports := { s.node.reports with duplicateSeen := true } }
          port := flagged s .duplicateStation })) ∧
    (s.node.mode.receives = true → rx.copyA = .good → rx.copyB = .good → Sound s.bus.lineA → Sound s.bus.lineB →
      ¬(1 ≤ rx.sender.toNat ∧ rx.sender.toNat ≤ 16) → s.node.number ≠ some rx.sender →
      exec (.malformedFrame rx kind body) s =
        .next { s with bus := { (heard s rx).bus with lastSeq := s.bus.lastSeq } }) ∧
    (∀ c, Arrives s rx →
      (∃ f, frameFits f = false ∧ c = received rx f) ∨
        (1 ≤ kind.toNat ∧ kind.toNat ≤ 0x0E ∧ decodeFrame kind body = none ∧ c = .malformedFrame rx kind body) →
      (s.peer rx.sender = none →
        exec c s = .next { heard s rx with
          peers := s.peers.set (rx.sender.toNat - 1) (some ⟨.present, 0, none, .none, .notCompared, none, none⟩)
          port := flagged s .peerChange }) ∧
      (∀ r, s.peer rx.sender = some r → r.state = .lost →
        exec c s = .next { heard s rx with
          peers := s.peers.set (rx.sender.toNat - 1) (some { r with state := .present, silence := 0 })
          port := flagged s .peerChange }) ∧
      (∀ r, s.peer rx.sender = some r → r.state = .present → r.silence = 3 →
        exec c s = .next { heard s rx with
          peers := s.peers.set (rx.sender.toNat - 1) (some { r with silence := 1 }) })) ∧
    (∀ f r, Arrives s rx → frameFits f = true →
      (s.peer rx.sender = none → r = ⟨.present, 0, none, .none, .notCompared, none, none⟩ →
        exec (received rx f) s = exec (received rx f) (peered s rx r) ∧
          (rx.sender.toNat ≤ s.peers.length → Hears (peered s rx r) rx)) ∧
      (∀ r0, s.peer rx.sender = some r0 → r0.state = .lost →
        r = { r0 with state := .present, silence := 0, mark := if frameKind f = 0x01 then .none else r0.mark } →
        exec (received rx f) s = exec (received rx f) (peered s rx r) ∧ Hears (peered s rx r) rx)) ∧
    (∀ f, s.node.mode.receives = true → s.node.number ≠ some rx.sender → s.bus.lineA.silentDue = false →
      s.bus.lineB.silentDue = false →
      exec (received { rx with copyA := .bad, copyB := .good } f) s =
        exec (received { rx with copyA := .absent, copyB := .good } f) (marked s .a) ∧
      exec (received { rx with copyA := .good, copyB := .bad } f) s =
        exec (received { rx with copyA := .good, copyB := .absent } f) (marked s .b) ∧
      (s.bus.lineB.state ≠ .silent →
        exec (received { rx with copyA := .good, copyB := .good } f) s =
          exec (received { rx with copyA := .good, copyB := .absent } f)
            { s with bus := { s.bus with lineB := { s.bus.lineB with heard := true } } }) ∧
      (s.bus.lineA.state = .silent →
        exec (received { rx with copyA := .good, copyB := .absent } f) s =
          exec (received { rx with copyA := .good, copyB := .absent } f) { s with
            bus := { s.bus with lineA := { s.bus.lineA with state := .good, quiet := 0 } }
            port := flagged s .lineFault }) ∧
      (s.bus.lineB.state = .silent →
        exec (received { rx with copyA := .absent, copyB := .good } f) s =
          exec (received { rx with copyA := .absent, copyB := .good } f) { s with
            bus := { s.bus with lineB := { s.bus.lineB with state := .good, quiet := 0 } }
            port := flagged s .lineFault }))

/-- Tier 2. A PRESENCE replaces the fields of its peer record and compares digest and mill time, and of the attention
flags latches PEER_CHANGE, PEER_TROUBLE at a rank-0 station, CONFIG_DIFFERS, TIME_SKEW, BADGE_TWICE and HANDOVER_FAILED
in their cases and, its claims apart, no other; its claims are settled in list order: an accepted one makes its area
HELD, or ORPHANED with its grace RUNNING where the presence is dark and the area is not so already at that serial (R95);
one that takes an area of this station is a loss with all that R89 and R124 give, and a rejected one leaves the record.
A presence that is dark, or that shows a restart, orphans the areas its sender holds and ends the offers to and from it,
and changes nothing else. Routing is re-evaluated with each change of holder or hold status (R15). The dark notice comes
after the claims (R156): an offer to the sender whose last area a claim has taken has ended AREAS_LOST by then. -/
def Obligations.PresenceUpdatesThePeer : Prop :=
  ∀ s rx p r, Hears s rx → frameFits (.presence p) = true → s.peer rx.sender = some r →
    (p.dark = false → p.claims = [] → p.joinMark = false ∨ r.mark ≠ .no →
      ∃ flags, exec (.presence rx p) s = .next { heard s rx with
          peers := s.peers.set (rx.sender.toNat - 1) (some (shown s r p))
          port := { s.port with attention := flags } } ∧
        ∀ f, flags.getLsbD f.bit = true ↔ s.flagSet f = true ∨ Latches s rx.sender r p f) ∧
    (∀ e k, p.dark = false → p.claims = [e] → p.joinMark = false → (s.area e.area.toNat).config = some k →
      s.holds e.area.toNat = false → (s.area e.area.toNat).serial.toNat < e.serial.toNat →
      ∃ t, exec (.presence rx p) s = .next t ∧
        t.areas = s.areas.set e.area.toNat { s.area e.area.toNat with
          hold := .held rx.sender (e.badge.getD p.activeBadge), serial := e.serial } ∧
        t.picture = (handedOn e.area.toNat s { s with areas := t.areas }).picture ∧
        t.signOn = s.signOn ∧ t.picture.list = s.picture.list ∧ t.lastLost = s.lastLost) ∧
    (∀ u v, exec (.presence rx { p with claims := [] }) s = .next u →
      v = p.claims.foldl (settled rx.sender p)
        { u with peers := s.peers.set (rx.sender.toNat - 1) (some (shown s r p)) } →
      (p.dark = false ∨ Restarts r p ∨ (∀ o, s.handover.outgoing = .offered o → o.target ≠ rx.sender) →
        exec (.presence rx p) s = .next v) ∧
      (∀ o res, p.dark = true → ¬Restarts r p → s.handover.outgoing = .offered o → o.target = rx.sender →
        (res = .areasLost ∧ (∃ a, a < 32 ∧ s.holds a = true ∧ v.holds a = false) ∧
            ∀ a, a < 32 → o.areas.getLsbD a = true → s.holds a = true ∧ v.holds a = false) ∨
          (res = .targetLost ∧ ((∀ a, a < 32 → s.holds a = true → v.holds a = true) ∨
            ∃ a, a < 32 ∧ o.areas.getLsbD a = true ∧ (s.holds a = false ∨ v.holds a = true))) →
        exec (.presence rx p) s = .next { v with
          handover := { v.handover with lastOut := some ⟨o.number, o.target, res⟩ } })) ∧
    (p.claims = [] → p.dark = true ∨ Restarts r p →
      ∃ t, exec (.presence rx p) s = .next t ∧
        t = { s with
          picture := { s.picture with horn := t.picture.horn, lamp := t.picture.lamp }
          areas := t.areas, bus := (heard s rx).bus
          peers := s.peers.set (rx.sender.toNat - 1) (some (shown s r p))
          handover := { s.handover with
            outgoing := t.handover.outgoing, lastOut := t.handover.lastOut
            incoming := t.handover.incoming, lastIn := t.handover.lastIn }
          tx := { s.tx with urgent := t.tx.urgent }
          port := { s.port with attention := t.port.attention } } ∧
        (∀ f, t.flagSet f = true ↔ s.flagSet f = true ∨ Latches s rx.sender r p f) ∧
        (AnnunciatorSound s → t.picture = (rerouted { t with picture := s.picture }).picture) ∧
        (∀ o, s.handover.outgoing = .offered o → o.target = rx.sender →
          t.handover.outgoing = .idle ∧ t.handover.lastOut = some ⟨o.number, o.target, .targetLost⟩ ∧
          t.tx.urgent = if s.tx.urgent.length < 8 then s.tx.urgent ++ [⟨.withdraw o.number o.target, none⟩]
            else s.tx.urgent) ∧
        ((∀ o, s.handover.outgoing = .offered o → o.target ≠ rx.sender) →
          t.handover.outgoing = s.handover.outgoing ∧ t.handover.lastOut = s.handover.lastOut ∧
            t.tx.urgent = s.tx.urgent) ∧
        (∀ o f, s.handover.incoming = .presented o ∨ s.handover.incoming = .answered o f → o.origin = rx.sender →
          t.handover.incoming = .idle ∧ t.handover.lastIn = some ⟨o.number, o.origin, .originLost⟩) ∧
        ((∀ o f, s.handover.incoming = .presented o ∨ s.handover.incoming = .answered o f → o.origin ≠ rx.sender) →
          t.handover.incoming = s.handover.incoming ∧ t.handover.lastIn = s.handover.lastIn) ∧
        ∀ a, a < 32 →
          (∀ b, (s.area a).hold = .held rx.sender b →
            t.area a = { s.area a with hold := .orphaned rx.sender b s.clock.now .running }) ∧
          ((∀ b, (s.area a).hold ≠ .held rx.sender b) → t.area a = s.area a))

/-- Tier 2. The entries of an ALARM CHANGE act in frame order, each whole before the next (R4). One entry: the feed check,
before a kind or priority is looked at (log entry 12) and whatever the point (log entry 13); a new raise and a re-raise,
each at its position in the list; in a full list the ACK record that makes room, or LIST_FULL; a clear, which waits
during a refresh where it finds no record, a 33rd one in place of the oldest (R167). A raise shows in
the window where the view differs, a re-raise too where its record stands in the view. Routing is re-evaluated, and a
raise that leaves its record routed UNACK makes a sound demand, unless the area is in FLOOD after the raise and the
record is not URGENT (R15, R16, R27). -/
def Obligations.ChangeEntriesChangeTheList : Prop :=
  ∀ s rx e, Hears s rx →
    (∀ es q, es ≠ [] → es.length ≤ 7 → q ≠ rx.seq →
      InTurn (.alarmChange rx (e :: es)) (.alarmChange rx [e]) (.alarmChange { rx with seq := q } es) s) ∧
    ((∀ k, (s.area e.id.area.toNat).config = some k → k.feed ≠ rx.sender) →
      exec (.alarmChange rx [e]) s = .next { heard s rx with port := flagged s .feedMismatch }) ∧
    (∀ k, (s.area e.id.area.toNat).config = some k → k.feed = rx.sender →
      (e.kind ≠ 0x01 → e.kind ≠ 0x02 → exec (.alarmChange rx [e]) s = .next (heard s rx)) ∧
      (e.kind = 0x01 → priorityOf e.priority.toNat = none → exec (.alarmChange rx [e]) s = .next (heard s rx)) ∧
      (∀ p v u, e.kind = 0x01 → priorityOf e.priority.toNat = some p → v = (s.area e.id.area.toNat).addLoad p →
        u = { heard s rx with
          areas := s.areas.set e.id.area.toNat v
          picture := { s.picture with arrivals := s.picture.arrivals + 1 }
          transfer := { s.transfer with
            pendingEvents := s.transfer.pendingEvents.filter fun x => x.id != e.id }
          port := { s.port with
            attention := if v.flood = (s.area e.id.area.toNat).flood then s.port.attention
              else plus s.port.attention .floodChange } } →
        v.load = min 65535 ((s.area e.id.area.toNat).load + p.weight) ∧
        v = { s.area e.id.area.toNat with load := v.load, flood := v.flood } ∧
        (v.flood = true ↔
          if (s.area e.id.area.toNat).flood = true then k.floodOff < v.load else k.floodOn ≤ v.load) ∧
        (∀ n, findRecord e.id s.picture.list = none →
          n = ⟨e.id, p, false, .unack, 1, e.raiseTime, s.clock.now, s.picture.arrivals, false, rx.sender⟩ →
          (s.picture.list.length < 256 →
            ∃ t, exec (.alarmChange rx [e]) s = .next t ∧ ListChange u t ∧ OthersKept e.id s t ∧
              findRecord e.id t.picture.list = some n ∧ Placed n s.picture.list t.picture.list ∧ WindowFollows s t ∧
              Annunciates (sounds t n v.flood) u t) ∧
          (∀ l y m room, 256 ≤ s.picture.list.length → s.picture.list = l ++ y :: m → y.handling.isAck = true →
            (∀ x ∈ l, x.handling.isAck = true → x.priority.num < y.priority.num) →
            (∀ x ∈ m, x.handling.isAck = true → x.priority.num ≤ y.priority.num) →
            room = relisted (s.picture.list.filter fun x => x.id != y.id) u →
            ∃ t, exec (.alarmChange rx [e]) s = .next t ∧ ListChange u t ∧
              Placed n room.picture.list t.picture.list ∧
              t = demanded (sounds t n v.flood) (relisted t.picture.list room)) ∧
          (256 ≤ s.picture.list.length → (∀ x ∈ s.picture.list, x.handling.isAck = false) →
            exec (.alarmChange rx [e]) s = .next { u with
              picture := s.picture
              node := { s.node with reports := { s.node.reports with listFull := true } }
              tx := { s.tx with
                presence := s.tx.presence.map fun y => { y with again := { y.again with listFull := true } }
                nextPresence := s.tx.nextPresence.map fun y => { y with again := { y.again with listFull := true } } }
              port := { u.port with attention := plus u.port.attention .listFull } })) ∧
        (∀ r n, findRecord e.id s.picture.list = some r →
          n = { r with
            priority := p, cleared := false
            handling := if r.handling.isAck = true then .unack else r.handling
            occurrence := if r.occurrence = 0xFF then 0xFF else r.occurrence + 1
            raiseTime := e.raiseTime, arrivalSec := s.clock.now, arrivalSeq := s.picture.arrivals
            escalated := false, feed := rx.sender } →
          ∃ t, exec (.alarmChange rx [e]) s = .next t ∧ ListChange u t ∧ OthersKept e.id s t ∧
            findRecord e.id t.picture.list = some n ∧
            Placed n (s.picture.list.filter fun x => x.id != e.id) t.picture.list ∧
            Annunciates (sounds t n v.flood) u t ∧
            t.window.top = (if t.scoped.length ≤ s.window.top then t.scoped.length - 1 else s.window.top) ∧
            t.window.changed = (s.window.changed || viewMoved s t || s.inView e.id || t.inView e.id))) ∧
      (∀ r, e.kind = 0x02 → findRecord e.id s.picture.list = some r → r.cleared = false →
        ∃ t, exec (.alarmChange rx [e]) s = .next t ∧ ListChange (heard s rx) t ∧ OthersKept e.id s t ∧
          WindowFollows s t ∧ Annunciates false (heard s rx) t ∧
          findRecord e.id t.picture.list = if r.handling.isAck = true then none else some { r with cleared := true }) ∧
      (e.kind = 0x02 → findRecord e.id s.picture.list = none →
        (s.transfer.refresh = none → exec (.alarmChange rx [e]) s = .next (heard s rx)) ∧
        (s.transfer.refresh ≠ none → s.transfer.pendingEvents.length < 32 →
          exec (.alarmChange rx [e]) s = .next { heard s rx with
            transfer := { s.transfer with pendingEvents := s.transfer.pendingEvents ++ [⟨e.id, .clear⟩] } }) ∧
        (s.transfer.refresh ≠ none → 32 ≤ s.transfer.pendingEvents.length →
          exec (.alarmChange rx [e]) s = .next { heard s rx with
            transfer := { s.transfer with pendingEvents := s.transfer.pendingEvents.tail ++ [⟨e.id, .clear⟩] }
            port := flagged s .pictureDoubtful })))

/-- Tier 2. The entries of an ACK frame from a peer, one after another, a SHELVE and an UNSHELVE: what becomes of the
record, of the window, and of the horn and lamp, with the sound demand of a record that leaves its shelf (R33), and that
a stale, unknown or unshelvable one is left. An ACK entry without a record waits during a refresh, a 33rd one in place of
the oldest with PICTURE_DOUBTFUL (R167), but not one for an area that is not configured here. -/
def Obligations.AlarmFramesChangeTheRecord : Prop :=
  ∀ s rx (b : Badge), Hears s rx →
    (∀ e es q, es ≠ [] → es.length ≤ 7 → q ≠ rx.seq →
      InTurn (.ackFrame rx b (e :: es)) (.ackFrame rx b [e]) (.ackFrame { rx with seq := q } b es) s) ∧
    (∀ e, findRecord e.id s.picture.list = none →
      s.transfer.refresh = none ∨ (s.area e.id.area.toNat).config = none →
      exec (.ackFrame rx b [e]) s = .next (heard s rx)) ∧
    (∀ e, findRecord e.id s.picture.list = none → s.transfer.refresh ≠ none →
      (s.area e.id.area.toNat).config ≠ none → s.transfer.pendingEvents.length < 32 →
      exec (.ackFrame rx b [e]) s = .next { heard s rx with
        transfer := { s.transfer with
          pendingEvents := s.transfer.pendingEvents ++ [⟨e.id, .ack e.occurrence rx.sender b⟩] } }) ∧
    (∀ e, findRecord e.id s.picture.list = none → s.transfer.refresh ≠ none →
      (s.area e.id.area.toNat).config ≠ none → 32 ≤ s.transfer.pendingEvents.length →
      exec (.ackFrame rx b [e]) s = .next { heard s rx with
        transfer := { s.transfer with
          pendingEvents := s.transfer.pendingEvents.tail ++ [⟨e.id, .ack e.occurrence rx.sender b⟩] }
        port := flagged s .pictureDoubtful }) ∧
    (∀ e r, findRecord e.id s.picture.list = some r →
      (r.occurrence ≠ e.occurrence ∨ r.handling.isUnack = false →
        exec (.ackFrame rx b [e]) s = .next (heard s rx)) ∧
      (r.occurrence = e.occurrence → r.handling = .unack →
        ∃ t, exec (.ackFrame rx b [e]) s = .next t ∧ ListChange (heard s rx) t ∧ WindowFollows s t ∧ OthersKept e.id s t ∧
          Annunciates false (heard s rx) t ∧
          findRecord e.id t.picture.list =
            if r.cleared = true then none else some { r with handling := .ack rx.sender b, escalated := false })) ∧
    (∀ (id : AlarmId) (d : Half),
      (findRecord id s.picture.list = none ∨
          s.shelveLimit id.area ≤ shelvedCount id.area id s.picture.list →
        exec (.shelveFrame rx id d b) s = .next (heard s rx)) ∧
      (∀ r, findRecord id s.picture.list = some r →
        shelvedCount id.area id s.picture.list < s.shelveLimit id.area →
        ∃ t, exec (.shelveFrame rx id d b) s = .next t ∧ ListChange (heard s rx) t ∧ WindowFollows s t ∧ OthersKept id s t ∧
          Annunciates false (heard s rx) t ∧
          findRecord id t.picture.list = some { r with
            handling := .shelved (s.clock.now + BitVec.ofNat 32 (d.toNat * 60)) rx.sender b, escalated := false })) ∧
    (∀ id : AlarmId,
      (findRecord id s.picture.list = none → exec (.unshelveFrame rx id) s = .next (heard s rx)) ∧
      (∀ r, findRecord id s.picture.list = some r →
        (r.handling.isShelved = false → exec (.unshelveFrame rx id) s = .next (heard s rx)) ∧
        (r.handling.isShelved = true →
          ∃ t, exec (.unshelveFrame rx id) s = .next t ∧ ListChange (heard s rx) t ∧ WindowFollows s t ∧ OthersKept id s t ∧
            Annunciates (!r.cleared && sounds t { r with handling := .unack } (s.area id.area.toNat).flood)
              (heard s rx) t ∧
            findRecord id t.picture.list =
              if r.cleared = true then none else some { r with handling := .unack, arrivalSec := s.clock.now })))

/-- Tier 2. CLAIM and TAKE frames under the claim rule: a higher serial wins, at an equal one the holder is the lowest
station; an accepted claim is handed on to routing and window (R89), and a rejected one leaves the record. An area this
station loses latches CLAIM_LOST and leaves the outgoing offer; a remote OFFERED one left without areas ends AREAS_LOST
with its WITHDRAW, if that has a place (R124). A COMMIT's entries are claims, one after another: an accepted one holds
its area at the incoming station, or leaves it ORPHANED where that station's active slot is empty or its peer record is
LOST or dark, and takes an area of this station with all of the above; a rejected one leaves the record and is not in
the outcome. At the incoming station the COMMIT ends the ANSWERED offer, and in any other incoming state only the last
outcome changes (R120); that the outcome names no ORPHANED area there in such a state either is the model's choice (log
entry 50). -/
def Obligations.ClaimFramesAreSettled : Prop :=
  ∀ s rx (a : Byte) (n : Half) (b : Badge) (reason : Byte), Hears s rx →
    ((s.area a.toNat).config = none →
      exec (.claimFrame rx reason a n b) s = .next (heard s rx) ∧ exec (.takeFrame rx a n b) s = .next (heard s rx)) ∧
    (n.toNat < (s.area a.toNat).serial.toNat ∨
        (n = (s.area a.toNat).serial ∧ ∃ t0 b0, (s.area a.toNat).hold = .held t0 b0 ∧ t0.toNat < rx.sender.toNat) →
      exec (.claimFrame rx reason a n b) s = .next (heard s rx) ∧ exec (.takeFrame rx a n b) s = .next (heard s rx)) ∧
    (∀ k u c, (s.area a.toNat).config = some k →
      (s.area a.toNat).serial.toNat < n.toNat ∨
        (n = (s.area a.toNat).serial ∧ ∀ t0 b0, (s.area a.toNat).hold = .held t0 b0 → rx.sender.toNat ≤ t0.toNat) →
      u = handedOn a.toNat s { heard s rx with
        areas := s.areas.set a.toNat { s.area a.toNat with hold := .held rx.sender b, serial := n } } →
      c = .claimFrame rx reason a n b ∨ c = .takeFrame rx a n b →
      (s.holds a.toNat = false → exec c s = .next u) ∧
      (∀ ho left, s.holds a.toNat = true →
        ho = { s.handover with rebadge := s.handover.rebadge &&& ~~~BitVec.twoPow 32 a.toNat } →
        (s.handover.outgoing = .idle →
          exec c s = .next { u with lastLost := some a.toNat, handover := ho, port := flagged s .claimLost }) ∧
        (∀ o, s.handover.outgoing = .committing o → left = o.areas &&& ~~~BitVec.twoPow 32 a.toNat →
          exec c s = .next { u with
            lastLost := some a.toNat, port := flagged s .claimLost
            handover := { ho with outgoing := .committing { o with areas := left } } }) ∧
        (∀ o, s.handover.outgoing = .offered o → left = o.areas &&& ~~~BitVec.twoPow 32 a.toNat →
          (left ≠ 0 ∨ s.node.number = some o.target →
            exec c s = .next { u with
              lastLost := some a.toNat, port := flagged s .claimLost
              handover := { ho with outgoing := .offered { o with areas := left } } }) ∧
          (left = 0 → s.node.number ≠ some o.target →
            exec c s = .next { u with
              lastLost := some a.toNat
              port := { s.port with attention := plus (plus s.port.attention .claimLost) .handoverFailed }
              handover := { ho with outgoing := .idle, lastOut := some ⟨o.number, o.target, .areasLost⟩ }
              tx := if s.tx.urgent.length < 8 then queued s (.withdraw o.number o.target) else s.tx })))) ∧
    (∀ (number : Byte) (dest : Station) es, frameFits (.commit number dest b es) = true →
      (¬(1 ≤ dest.toNat ∧ dest.toNat ≤ 16) → s.node.number ≠ some dest →
        exec (.commitFrame rx number dest b es) s = .next (heard s rx)) ∧
      (∀ r, 1 ≤ dest.toNat → dest.toNat ≤ 16 →
        r = es.foldl (committedTo dest b (commitOrphaned dest s) (s.node.number != some dest)) (0, heard s rx) →
        (s.node.number ≠ some dest → exec (.commitFrame rx number dest b es) s = .next r.2) ∧
        (∀ incoming, s.node.number = some dest →
          (incoming = .idle ∧
              ∃ o f, s.handover.incoming = .answered o f ∧ o.origin = rx.sender ∧ o.number = number) ∨
            (incoming = s.handover.incoming ∧
              ∀ o f, s.handover.incoming = .answered o f → o.origin ≠ rx.sender ∨ o.number ≠ number) →
          exec (.commitFrame rx number dest b es) s = .next { r.2 with
            handover := { r.2.handover with
              incoming := incoming
              lastIn := some ⟨number, rx.sender, .committed (if s.signOn.active = none then 0 else r.1)⟩ }
            port := flagged r.2 .offerEnded })))

/-- Tier 2. OFFER, ANSWER and WITHDRAW frames at the station they name, and at any other. A decline that a full urgent
queue does not take is not built (R117); an ACCEPT commits the offered areas still held, or ends the offer AREAS_LOST or
NO_ROOM (R119). -/
def Obligations.OfferFramesAreTaken : Prop :=
  ∀ s rx (number : Byte) (dest : Station) (b : Badge), Hears s rx →
    (∀ m xs, frameFits (.offer number dest b m xs) = true →
      (s.node.number ≠ some dest ∨ ¬Active s → exec (.offerFrame rx number dest b m xs) s = .next (heard s rx)) ∧
      (s.node.number = some dest → Active s →
        (s.handover.incoming ≠ .idle → s.tx.urgent.length < 8 →
          exec (.offerFrame rx number dest b m xs) s = .next { heard s rx with
            tx := queued s (.answer rx.sender number 0x02 0x02 0) }) ∧
        (s.handover.incoming = .idle → s.signOn.active = none → s.tx.urgent.length < 8 →
          exec (.offerFrame rx number dest b m xs) s = .next { heard s rx with
            tx := queued s (.answer rx.sender number 0x02 0x03 0) }) ∧
        (s.handover.incoming ≠ .idle ∨ s.signOn.active = none → 8 ≤ s.tx.urgent.length →
          exec (.offerFrame rx number dest b m xs) s = .next (heard s rx)) ∧
        (s.handover.incoming = .idle → s.signOn.active ≠ none →
          exec (.offerFrame rx number dest b m xs) s = .next { heard s rx with
            handover := { s.handover with incoming := .presented ⟨rx.sender, number, m, xs, b, s.clock.now⟩ }
            port := flagged s .offerReceived }))) ∧
    (∀ (origin : Station) (d reason : Byte),
      (s.node.number ≠ some origin ∨ (∀ o, s.handover.outgoing ≠ .offered o) →
        exec (.answerFrame rx origin number d reason b) s = .next (heard s rx)) ∧
      (∀ o, s.node.number = some origin → s.handover.outgoing = .offered o →
        (o.target ≠ rx.sender ∨ o.number ≠ number ∨ (d ≠ 0x01 ∧ d ≠ 0x02) →
          exec (.answerFrame rx origin number d reason b) s = .next (heard s rx)) ∧
        (o.target = rx.sender → o.number = number → d = 0x02 →
          exec (.answerFrame rx origin number d reason b) s = .next { heard s rx with
            handover := { s.handover with outgoing := .idle, lastOut := some ⟨number, rx.sender, .declined reason⟩ }
            port := flagged s .offerEnded }) ∧
        (∀ m, o.target = rx.sender → o.number = number → d = 0x01 →
          (∀ a, a < 32 → (m.getLsbD a = true ↔ o.areas.getLsbD a = true ∧ s.holds a = true)) →
          (∀ u, m = 0 →
            u = { heard s rx with
              handover := { s.handover with outgoing := .idle, lastOut := some ⟨number, rx.sender, .areasLost⟩ }
              port := flagged s .handoverFailed } →
            (s.tx.urgent.length < 8 →
              exec (.answerFrame rx origin number d reason b) s =
                .next { u with tx := queued s (.withdraw number rx.sender) }) ∧
            (8 ≤ s.tx.urgent.length → exec (.answerFrame rx origin number d reason b) s = .next u)) ∧
          (m ≠ 0 → s.tx.urgent.length < 8 →
            exec (.answerFrame rx origin number d reason b) s = .next { heard s rx with
              handover := { s.handover with outgoing := .committing { o with areas := m } }
              tx := queued s (.commit number rx.sender b (((List.range 32).filter m.getLsbD).map fun a =>
                ⟨BitVec.ofNat 8 a, if (s.area a).serial = 0xFFFF then 0xFFFF else (s.area a).serial + 1⟩)) }) ∧
          (m ≠ 0 → 8 ≤ s.tx.urgent.length →
            exec (.answerFrame rx origin number d reason b) s = .next { heard s rx with
              handover := { s.handover with outgoing := .idle, lastOut := some ⟨number, rx.sender, .noRoom⟩ }
              port := flagged s .handoverFailed })))) ∧
    (s.node.number ≠ some dest ∨ s.handover.incoming = .idle →
      exec (.withdrawFrame rx number dest) s = .next (heard s rx)) ∧
    (∀ o f, s.node.number = some dest → s.handover.incoming = .presented o ∨ s.handover.incoming = .answered o f →
      (o.origin ≠ rx.sender ∨ o.number ≠ number → exec (.withdrawFrame rx number dest) s = .next (heard s rx)) ∧
      (o.origin = rx.sender → o.number = number →
        exec (.withdrawFrame rx number dest) s = .next { heard s rx with
          handover := { s.handover with incoming := .idle, lastIn := some ⟨number, rx.sender, .withdrawn⟩ }
          port := flagged s .offerEnded }))

/-- Tier 2. A PICTURE REQUEST starts or joins a stream at the serving station. A PICTURE frame of the stream being taken
is counted, ignored records too, without an upper bound (log entry 46), and its records are merged one after another as
they are carried (log entry 13), with a repeat request owed or not (log entry 21). A record is inserted, in place of a
local one of a lower occurrence, with its shelf where the area's limit leaves a place, and makes no sound demand; a
CLEARED one whose shelf is dropped is not inserted, and the lower one is gone (log entry 14); the pending entries of its
id are applied to it, oldest first; in a full list it takes the place of an ACK record, which stays removed even if a
pending entry removes the new one (the model's choice: log entry 45), or LIST_FULL discards those entries (R166, R168).
A PICTURE END completes the refresh, doubtful where the counts differ, and drops a repeat request still owed (log entry
42). -/
def Obligations.PictureFramesAreServedAndTaken : Prop :=
  ∀ s rx, Hears s rx →
    (∀ m i j v rs q, rs ≠ [] → rs.length ≤ 5 → q ≠ rx.seq → j ≠ 0 →
      InTurn (.picture rx m i (v :: rs)) (.picture rx m i [v]) (.picture { rx with seq := q } m j rs) s) ∧
    (¬Active s ∨ s.transfer.valid = false ∨
        (∃ m r i, s.peer m = some r ∧ r.state = .present ∧ r.info = some i ∧ i.pictureValid = true ∧
          m.toNat ≤ s.own.toNat) →
      exec (.pictureRequest rx) s = .next (heard s rx)) ∧
    (Active s → s.transfer.valid = true →
      (∀ m r i, s.peer m = some r → r.state = .present → r.info = some i → i.pictureValid = true →
        s.own.toNat < m.toNat) →
      (s.transfer.serving = .idle →
        exec (.pictureRequest rx) s = .next { heard s rx with
          transfer := { s.transfer with
            serving := .streaming ⟨BitVec.twoPow 16 (rx.sender.toNat - 1), 0, s.picture.list.map AlarmRecord.id, 0, 0, 0⟩ } }) ∧
      (∀ x, s.transfer.serving = .streaming x →
        exec (.pictureRequest rx) s = .next { heard s rx with
          transfer := { s.transfer with
            serving := .streaming { x with staged := x.staged ||| BitVec.twoPow 16 (rx.sender.toNat - 1) } } })) ∧
    (∀ (m : StationSet) n, s.node.number = some n → 1 ≤ n.toNat → n.toNat ≤ 16 →
      (m.getLsbD (n.toNat - 1) = false ∨ s.transfer.refresh = none →
        (∀ i rs, exec (.picture rx m i rs) s = .next (heard s rx)) ∧
        (∀ c, exec (.pictureEnd rx m c) s = .next (heard s rx))) ∧
      (∀ x, m.getLsbD (n.toNat - 1) = true → s.transfer.refresh = some x →
        (∀ (i : Byte) rs, (x.phase = .waiting ∧ i ≠ 0) ∨
            (∃ server last, x.phase = .receiving server last ∧ server ≠ rx.sender) →
          exec (.picture rx m i rs) s = .next (heard s rx)) ∧
        (∀ (i : Byte) v taken u, (x.phase = .waiting ∧ i = 0 ∧ taken = 1) ∨
            (∃ last, x.phase = .receiving rx.sender last ∧ taken = (if i = 0 then 0 else x.taken) + 1) →
          u = { heard s rx with
            transfer := { s.transfer with
              refresh := some { x with phase := .receiving rx.sender s.clock.now, taken := taken } } } →
          (∀ r, findRecord v.id s.picture.list = some r → v.occurrence.toNat ≤ r.occurrence.toNat →
            exec (.picture rx m i [v]) s = .next u) ∧
          ((s.area v.id.area.toNat).config = none ∨ priorityOf v.priority.toNat = none ∨
              (v.cleared = true ∧ ∃ t b, v.handling = .ack t b) ∨ v.handling = .reserved →
            exec (.picture rx m i [v]) s = .next u) ∧
          (∀ k p base, (s.area v.id.area.toNat).config = some k → priorityOf v.priority.toNat = some p →
            (findRecord v.id s.picture.list = none ∧ base = u) ∨
              (∃ r, findRecord v.id s.picture.list = some r ∧ r.occurrence.toNat < v.occurrence.toNat ∧
                base = relisted (s.picture.list.filter fun y => y.id != v.id) u) →
            (∀ t b left, v.handling = .shelved t b left → v.cleared = true →
              k.shelveLimit ≤ shelvedCount v.id.area v.id s.picture.list → exec (.picture rx m i [v]) s = .next base) ∧
            (∀ h n, (v.handling = .unack ∧ h = .unack) ∨
                (∃ t b, v.handling = .ack t b ∧ v.cleared = false ∧ h = .ack t b) ∨
                (∃ t b left, v.handling = .shelved t b left ∧
                  if shelvedCount v.id.area v.id s.picture.list < k.shelveLimit
                  then h = .shelved (s.clock.now + BitVec.ofNat 32 left.toNat) t b
                  else v.cleared = false ∧ h = .unack) →
              n = ⟨v.id, p, v.cleared, h, v.occurrence, v.raiseTime, BitVec.ofNat 32 (s.clock.now.toNat - v.age.toNat),
                s.picture.arrivals, false, v.feed⟩ →
              (base.picture.list.length < 256 →
                ∃ t, exec (.picture rx m i [v]) s = .next t ∧ OthersKept v.id s t ∧
                  ListChange { u with
                    picture := { s.picture with arrivals := s.picture.arrivals + 1 }
                    transfer := { u.transfer with
                      pendingEvents := s.transfer.pendingEvents.filter fun y => y.id != v.id } } t ∧
                  findRecord v.id t.picture.list =
                    (s.transfer.pendingEvents.filter fun y => y.id == v.id).foldl matched (some n) ∧
                  ((∀ y ∈ s.transfer.pendingEvents, y.id ≠ v.id) → Placed n base.picture.list t.picture.list ∧
                    t = relisted t.picture.list { base with
                      picture := { base.picture with arrivals := s.picture.arrivals + 1 } })) ∧
              (∀ l y l2 room, 256 ≤ base.picture.list.length → base.picture.list = l ++ y :: l2 →
                y.handling.isAck = true → (∀ z ∈ l, z.handling.isAck = true → z.priority.num < y.priority.num) →
                (∀ z ∈ l2, z.handling.isAck = true → z.priority.num ≤ y.priority.num) →
                room = relisted (base.picture.list.filter fun z => z.id != y.id) { base with
                  picture := { base.picture with arrivals := s.picture.arrivals + 1 } } →
                ∃ t, exec (.picture rx m i [v]) s = .next t ∧
                  ListChange { u with
                    picture := { s.picture with arrivals := s.picture.arrivals + 1 }
                    transfer := { u.transfer with
                      pendingEvents := s.transfer.pendingEvents.filter fun y => y.id != v.id } } t ∧
                  findRecord v.id t.picture.list =
                    (s.transfer.pendingEvents.filter fun y => y.id == v.id).foldl matched (some n) ∧
                  (∀ other, other ≠ v.id → findRecord other t.picture.list = findRecord other room.picture.list) ∧
                  ((∀ z ∈ s.transfer.pendingEvents, z.id ≠ v.id) → Placed n room.picture.list t.picture.list ∧
                    t = relisted t.picture.list room)) ∧
              (256 ≤ base.picture.list.length → (∀ z ∈ base.picture.list, z.handling.isAck = false) →
                exec (.picture rx m i [v]) s = .next { base with
                  node := { s.node with reports := { s.node.reports with listFull := true } }
                  tx := { s.tx with
                    presence := s.tx.presence.map fun y => { y with again := { y.again with listFull := true } }
                    nextPresence := s.tx.nextPresence.map fun y =>
                      { y with again := { y.again with listFull := true } } }
                  transfer := { u.transfer with
                    pendingEvents := s.transfer.pendingEvents.filter fun y => y.id != v.id }
                  port := flagged s .listFull })))) ∧
        (∀ (c : Half) taken, (x.phase = .waiting ∧ c = 0 ∧ taken = 0) ∨
            (∃ last, x.phase = .receiving rx.sender last ∧ taken = x.taken) →
          exec (.pictureEnd rx m c) s = .next { heard s rx with
            transfer := { s.transfer with valid := true, pendingEvents := [], refresh := none }
            port := { s.port with
              attention := if c.toNat = taken then plus s.port.attention .pictureDone
                else plus (plus s.port.attention .pictureDone) .pictureDoubtful } }) ∧
        (∀ c : Half, (x.phase = .waiting ∧ c ≠ 0) ∨
            (∃ server last, x.phase = .receiving server last ∧ server ≠ rx.sender) →
          exec (.pictureEnd rx m c) s = .next (heard s rx))))
end

