-- ==== Sys2Proof/Laws/Bits.lean ====
section
/-! SUPPORT. The bits of the lines and of the console port: a byte's bits read back as that byte. -/

namespace Sys2Proof.Machine

/-- The data bits of a byte, in their order, are that byte's. -/
@[simp] theorem byteOfData_bits (b : Byte) : byteOfData b[0] b[1] b[2] b[3] b[4] b[5] b[6] b[7] = b := by
  revert b
  decide

/-- A byte on a line is a start bit, eight data bits and a stop bit. -/
theorem byteOnLine_eq (b : Byte) :
    byteOnLine b = [false, b.getLsbD 0, b.getLsbD 1, b.getLsbD 2, b.getLsbD 3, b.getLsbD 4, b.getLsbD 5, b.getLsbD 6,
      b.getLsbD 7, true] := rfl

@[simp] theorem lineBits_nil : lineBits [] = [] := rfl

@[simp] theorem lineBits_cons (b : Byte) (l : List Byte) : lineBits (b :: l) = byteOnLine b ++ lineBits l := rfl

/-- The bits of bytes sent without a gap are read as those bytes. -/
@[simp] theorem lineBytes_lineBits (l : List Byte) (k : Nat) : lineBytes k (lineBits l) = some l := by
  induction l generalizing k with
  | nil => simp [lineBytes]
  | cons b l ih => simp [byteOnLine_eq, lineBytes, ih]

/-- A line that carries bytes without a gap delivers what those bytes are. -/
@[simp] theorem goodBits_lineBits (l : List Byte) : goodBits (lineBits l) = goodCopy l := by
  have h : (lineBits l).dropWhile id = lineBits l := by cases l <;> simp [byteOnLine_eq]
  simp [goodBits, h]

/-- The bits of a byte as the port shifts them, most significant first. -/
theorem portBits_eq (b : Byte) :
    portBits b = [b.getLsbD 7, b.getLsbD 6, b.getLsbD 5, b.getLsbD 4, b.getLsbD 3, b.getLsbD 2, b.getLsbD 1,
      b.getLsbD 0] := rfl

/-- The bits of whole bytes are sampled as those bytes. -/
@[simp] theorem portBytes_flatMap (l : List Byte) : portBytes (l.flatMap portBits) = l := by
  induction l with
  | nil => rfl
  | cons b l ih => simp [portBits_eq, portBytes, ih]

end Sys2Proof.Machine
end

