-- ==== Sys2Proof/Laws/State.lean ====
section
/-! SUPPORT. What each update of the state leaves as it was, field by field, and what the updated field becomes. -/

namespace Sys2Proof.Machine

/-! ### `latch` -/

@[simp] theorem State.latch_node (s : State) (f : Flag) : (s.latch f).node = s.node := rfl
@[simp] theorem State.latch_picture (s : State) (f : Flag) : (s.latch f).picture = s.picture := rfl
@[simp] theorem State.latch_window (s : State) (f : Flag) : (s.latch f).window = s.window := rfl
@[simp] theorem State.latch_areas (s : State) (f : Flag) : (s.latch f).areas = s.areas := rfl
@[simp] theorem State.latch_lastLost (s : State) (f : Flag) : (s.latch f).lastLost = s.lastLost := rfl
@[simp] theorem State.latch_signOn (s : State) (f : Flag) : (s.latch f).signOn = s.signOn := rfl
@[simp] theorem State.latch_clock (s : State) (f : Flag) : (s.latch f).clock = s.clock := rfl
@[simp] theorem State.latch_handover (s : State) (f : Flag) : (s.latch f).handover = s.handover := rfl
@[simp] theorem State.latch_bus (s : State) (f : Flag) : (s.latch f).bus = s.bus := rfl
@[simp] theorem State.latch_tx (s : State) (f : Flag) : (s.latch f).tx = s.tx := rfl
@[simp] theorem State.latch_peers (s : State) (f : Flag) : (s.latch f).peers = s.peers := rfl
@[simp] theorem State.latch_transfer (s : State) (f : Flag) : (s.latch f).transfer = s.transfer := rfl
@[simp] theorem State.latch_second (s : State) (f : Flag) : (s.latch f).second = s.second := rfl
@[simp] theorem State.latch_freeCount (s : State) (f : Flag) : (s.latch f).freeCount = s.freeCount := rfl
@[simp] theorem State.latch_pending (s : State) (f : Flag) : (s.latch f).pending = s.pending := rfl

/-! ### `setReport` -/

@[simp] theorem State.setReport_picture (s : State) (r : Report) : (s.setReport r).picture = s.picture := rfl
@[simp] theorem State.setReport_window (s : State) (r : Report) : (s.setReport r).window = s.window := rfl
@[simp] theorem State.setReport_areas (s : State) (r : Report) : (s.setReport r).areas = s.areas := rfl
@[simp] theorem State.setReport_lastLost (s : State) (r : Report) : (s.setReport r).lastLost = s.lastLost := rfl
@[simp] theorem State.setReport_signOn (s : State) (r : Report) : (s.setReport r).signOn = s.signOn := rfl
@[simp] theorem State.setReport_clock (s : State) (r : Report) : (s.setReport r).clock = s.clock := rfl
@[simp] theorem State.setReport_handover (s : State) (r : Report) : (s.setReport r).handover = s.handover := rfl
@[simp] theorem State.setReport_bus (s : State) (r : Report) : (s.setReport r).bus = s.bus := rfl
@[simp] theorem State.setReport_peers (s : State) (r : Report) : (s.setReport r).peers = s.peers := rfl
@[simp] theorem State.setReport_transfer (s : State) (r : Report) : (s.setReport r).transfer = s.transfer := rfl
@[simp] theorem State.setReport_port (s : State) (r : Report) : (s.setReport r).port = s.port := rfl
@[simp] theorem State.setReport_second (s : State) (r : Report) : (s.setReport r).second = s.second := rfl
@[simp] theorem State.setReport_freeCount (s : State) (r : Report) : (s.setReport r).freeCount = s.freeCount := rfl
@[simp] theorem State.setReport_pending (s : State) (r : Report) : (s.setReport r).pending = s.pending := rfl

/-! ### `setArea` -/

@[simp] theorem State.setArea_node (s : State) (a : Nat) (r : Area) : (s.setArea a r).node = s.node := rfl
@[simp] theorem State.setArea_picture (s : State) (a : Nat) (r : Area) : (s.setArea a r).picture = s.picture := rfl
@[simp] theorem State.setArea_window (s : State) (a : Nat) (r : Area) : (s.setArea a r).window = s.window := rfl
@[simp] theorem State.setArea_lastLost (s : State) (a : Nat) (r : Area) : (s.setArea a r).lastLost = s.lastLost := rfl
@[simp] theorem State.setArea_signOn (s : State) (a : Nat) (r : Area) : (s.setArea a r).signOn = s.signOn := rfl
@[simp] theorem State.setArea_clock (s : State) (a : Nat) (r : Area) : (s.setArea a r).clock = s.clock := rfl
@[simp] theorem State.setArea_handover (s : State) (a : Nat) (r : Area) : (s.setArea a r).handover = s.handover := rfl
@[simp] theorem State.setArea_bus (s : State) (a : Nat) (r : Area) : (s.setArea a r).bus = s.bus := rfl
@[simp] theorem State.setArea_tx (s : State) (a : Nat) (r : Area) : (s.setArea a r).tx = s.tx := rfl
@[simp] theorem State.setArea_peers (s : State) (a : Nat) (r : Area) : (s.setArea a r).peers = s.peers := rfl
@[simp] theorem State.setArea_transfer (s : State) (a : Nat) (r : Area) : (s.setArea a r).transfer = s.transfer := rfl
@[simp] theorem State.setArea_port (s : State) (a : Nat) (r : Area) : (s.setArea a r).port = s.port := rfl
@[simp] theorem State.setArea_second (s : State) (a : Nat) (r : Area) : (s.setArea a r).second = s.second := rfl
@[simp] theorem State.setArea_freeCount (s : State) (a : Nat) (r : Area) : (s.setArea a r).freeCount = s.freeCount := rfl
@[simp] theorem State.setArea_pending (s : State) (a : Nat) (r : Area) : (s.setArea a r).pending = s.pending := rfl

/-! ### `queue` -/

@[simp] theorem State.queue_node (s : State) (f : Frame) : (s.queue f).node = s.node := rfl
@[simp] theorem State.queue_picture (s : State) (f : Frame) : (s.queue f).picture = s.picture := rfl
@[simp] theorem State.queue_window (s : State) (f : Frame) : (s.queue f).window = s.window := rfl
@[simp] theorem State.queue_areas (s : State) (f : Frame) : (s.queue f).areas = s.areas := rfl
@[simp] theorem State.queue_lastLost (s : State) (f : Frame) : (s.queue f).lastLost = s.lastLost := rfl
@[simp] theorem State.queue_signOn (s : State) (f : Frame) : (s.queue f).signOn = s.signOn := rfl
@[simp] theorem State.queue_clock (s : State) (f : Frame) : (s.queue f).clock = s.clock := rfl
@[simp] theorem State.queue_handover (s : State) (f : Frame) : (s.queue f).handover = s.handover := rfl
@[simp] theorem State.queue_bus (s : State) (f : Frame) : (s.queue f).bus = s.bus := rfl
@[simp] theorem State.queue_peers (s : State) (f : Frame) : (s.queue f).peers = s.peers := rfl
@[simp] theorem State.queue_transfer (s : State) (f : Frame) : (s.queue f).transfer = s.transfer := rfl
@[simp] theorem State.queue_port (s : State) (f : Frame) : (s.queue f).port = s.port := rfl
@[simp] theorem State.queue_second (s : State) (f : Frame) : (s.queue f).second = s.second := rfl
@[simp] theorem State.queue_freeCount (s : State) (f : Frame) : (s.queue f).freeCount = s.freeCount := rfl
@[simp] theorem State.queue_pending (s : State) (f : Frame) : (s.queue f).pending = s.pending := rfl

/-! ### `checkIn` -/

@[simp] theorem State.checkIn_picture (s : State) : (s.checkIn).picture = s.picture := rfl
@[simp] theorem State.checkIn_window (s : State) : (s.checkIn).window = s.window := rfl
@[simp] theorem State.checkIn_areas (s : State) : (s.checkIn).areas = s.areas := rfl
@[simp] theorem State.checkIn_lastLost (s : State) : (s.checkIn).lastLost = s.lastLost := rfl
@[simp] theorem State.checkIn_signOn (s : State) : (s.checkIn).signOn = s.signOn := rfl
@[simp] theorem State.checkIn_clock (s : State) : (s.checkIn).clock = s.clock := rfl
@[simp] theorem State.checkIn_handover (s : State) : (s.checkIn).handover = s.handover := rfl
@[simp] theorem State.checkIn_bus (s : State) : (s.checkIn).bus = s.bus := rfl
@[simp] theorem State.checkIn_tx (s : State) : (s.checkIn).tx = s.tx := rfl
@[simp] theorem State.checkIn_peers (s : State) : (s.checkIn).peers = s.peers := rfl
@[simp] theorem State.checkIn_transfer (s : State) : (s.checkIn).transfer = s.transfer := rfl
@[simp] theorem State.checkIn_port (s : State) : (s.checkIn).port = s.port := rfl
@[simp] theorem State.checkIn_second (s : State) : (s.checkIn).second = s.second := rfl
@[simp] theorem State.checkIn_freeCount (s : State) : (s.checkIn).freeCount = s.freeCount := rfl
@[simp] theorem State.checkIn_pending (s : State) : (s.checkIn).pending = s.pending := rfl

/-! ### `answer` -/

@[simp] theorem State.answer_node (s : State) (c : Byte) (r : ResultCode) (b : AnswerBody) : (s.answer c r b).node = s.node := rfl
@[simp] theorem State.answer_picture (s : State) (c : Byte) (r : ResultCode) (b : AnswerBody) : (s.answer c r b).picture = s.picture := rfl
@[simp] theorem State.answer_window (s : State) (c : Byte) (r : ResultCode) (b : AnswerBody) : (s.answer c r b).window = s.window := rfl
@[simp] theorem State.answer_areas (s : State) (c : Byte) (r : ResultCode) (b : AnswerBody) : (s.answer c r b).areas = s.areas := rfl
@[simp] theorem State.answer_lastLost (s : State) (c : Byte) (r : ResultCode) (b : AnswerBody) : (s.answer c r b).lastLost = s.lastLost := rfl
@[simp] theorem State.answer_signOn (s : State) (c : Byte) (r : ResultCode) (b : AnswerBody) : (s.answer c r b).signOn = s.signOn := rfl
@[simp] theorem State.answer_clock (s : State) (c : Byte) (r : ResultCode) (b : AnswerBody) : (s.answer c r b).clock = s.clock := rfl
@[simp] theorem State.answer_handover (s : State) (c : Byte) (r : ResultCode) (b : AnswerBody) : (s.answer c r b).handover = s.handover := rfl
@[simp] theorem State.answer_bus (s : State) (c : Byte) (r : ResultCode) (b : AnswerBody) : (s.answer c r b).bus = s.bus := rfl
@[simp] theorem State.answer_tx (s : State) (c : Byte) (r : ResultCode) (b : AnswerBody) : (s.answer c r b).tx = s.tx := rfl
@[simp] theorem State.answer_peers (s : State) (c : Byte) (r : ResultCode) (b : AnswerBody) : (s.answer c r b).peers = s.peers := rfl
@[simp] theorem State.answer_transfer (s : State) (c : Byte) (r : ResultCode) (b : AnswerBody) : (s.answer c r b).transfer = s.transfer := rfl
@[simp] theorem State.answer_second (s : State) (c : Byte) (r : ResultCode) (b : AnswerBody) : (s.answer c r b).second = s.second := rfl
@[simp] theorem State.answer_freeCount (s : State) (c : Byte) (r : ResultCode) (b : AnswerBody) : (s.answer c r b).freeCount = s.freeCount := rfl
@[simp] theorem State.answer_pending (s : State) (c : Byte) (r : ResultCode) (b : AnswerBody) : (s.answer c r b).pending = s.pending := rfl

/-! ### `setWindow` -/

@[simp] theorem State.setWindow_node (s : State) (f : Window → Window) : (s.setWindow f).node = s.node := rfl
@[simp] theorem State.setWindow_picture (s : State) (f : Window → Window) : (s.setWindow f).picture = s.picture := rfl
@[simp] theorem State.setWindow_areas (s : State) (f : Window → Window) : (s.setWindow f).areas = s.areas := rfl
@[simp] theorem State.setWindow_lastLost (s : State) (f : Window → Window) : (s.setWindow f).lastLost = s.lastLost := rfl
@[simp] theorem State.setWindow_signOn (s : State) (f : Window → Window) : (s.setWindow f).signOn = s.signOn := rfl
@[simp] theorem State.setWindow_clock (s : State) (f : Window → Window) : (s.setWindow f).clock = s.clock := rfl
@[simp] theorem State.setWindow_handover (s : State) (f : Window → Window) : (s.setWindow f).handover = s.handover := rfl
@[simp] theorem State.setWindow_bus (s : State) (f : Window → Window) : (s.setWindow f).bus = s.bus := rfl
@[simp] theorem State.setWindow_tx (s : State) (f : Window → Window) : (s.setWindow f).tx = s.tx := rfl
@[simp] theorem State.setWindow_peers (s : State) (f : Window → Window) : (s.setWindow f).peers = s.peers := rfl
@[simp] theorem State.setWindow_transfer (s : State) (f : Window → Window) : (s.setWindow f).transfer = s.transfer := rfl
@[simp] theorem State.setWindow_port (s : State) (f : Window → Window) : (s.setWindow f).port = s.port := rfl
@[simp] theorem State.setWindow_second (s : State) (f : Window → Window) : (s.setWindow f).second = s.second := rfl
@[simp] theorem State.setWindow_freeCount (s : State) (f : Window → Window) : (s.setWindow f).freeCount = s.freeCount := rfl
@[simp] theorem State.setWindow_pending (s : State) (f : Window → Window) : (s.setWindow f).pending = s.pending := rfl

/-! ### `setClock` -/

@[simp] theorem State.setClock_node (s : State) (f : Clock → Clock) : (s.setClock f).node = s.node := rfl
@[simp] theorem State.setClock_picture (s : State) (f : Clock → Clock) : (s.setClock f).picture = s.picture := rfl
@[simp] theorem State.setClock_window (s : State) (f : Clock → Clock) : (s.setClock f).window = s.window := rfl
@[simp] theorem State.setClock_areas (s : State) (f : Clock → Clock) : (s.setClock f).areas = s.areas := rfl
@[simp] theorem State.setClock_lastLost (s : State) (f : Clock → Clock) : (s.setClock f).lastLost = s.lastLost := rfl
@[simp] theorem State.setClock_signOn (s : State) (f : Clock → Clock) : (s.setClock f).signOn = s.signOn := rfl
@[simp] theorem State.setClock_handover (s : State) (f : Clock → Clock) : (s.setClock f).handover = s.handover := rfl
@[simp] theorem State.setClock_bus (s : State) (f : Clock → Clock) : (s.setClock f).bus = s.bus := rfl
@[simp] theorem State.setClock_tx (s : State) (f : Clock → Clock) : (s.setClock f).tx = s.tx := rfl
@[simp] theorem State.setClock_peers (s : State) (f : Clock → Clock) : (s.setClock f).peers = s.peers := rfl
@[simp] theorem State.setClock_transfer (s : State) (f : Clock → Clock) : (s.setClock f).transfer = s.transfer := rfl
@[simp] theorem State.setClock_port (s : State) (f : Clock → Clock) : (s.setClock f).port = s.port := rfl
@[simp] theorem State.setClock_second (s : State) (f : Clock → Clock) : (s.setClock f).second = s.second := rfl
@[simp] theorem State.setClock_freeCount (s : State) (f : Clock → Clock) : (s.setClock f).freeCount = s.freeCount := rfl
@[simp] theorem State.setClock_pending (s : State) (f : Clock → Clock) : (s.setClock f).pending = s.pending := rfl

/-! ### `setSecond` -/

@[simp] theorem State.setSecond_node (s : State) (f : SecondWork → SecondWork) : (s.setSecond f).node = s.node := rfl
@[simp] theorem State.setSecond_picture (s : State) (f : SecondWork → SecondWork) : (s.setSecond f).picture = s.picture := rfl
@[simp] theorem State.setSecond_window (s : State) (f : SecondWork → SecondWork) : (s.setSecond f).window = s.window := rfl
@[simp] theorem State.setSecond_areas (s : State) (f : SecondWork → SecondWork) : (s.setSecond f).areas = s.areas := rfl
@[simp] theorem State.setSecond_lastLost (s : State) (f : SecondWork → SecondWork) : (s.setSecond f).lastLost = s.lastLost := rfl
@[simp] theorem State.setSecond_signOn (s : State) (f : SecondWork → SecondWork) : (s.setSecond f).signOn = s.signOn := rfl
@[simp] theorem State.setSecond_clock (s : State) (f : SecondWork → SecondWork) : (s.setSecond f).clock = s.clock := rfl
@[simp] theorem State.setSecond_handover (s : State) (f : SecondWork → SecondWork) : (s.setSecond f).handover = s.handover := rfl
@[simp] theorem State.setSecond_bus (s : State) (f : SecondWork → SecondWork) : (s.setSecond f).bus = s.bus := rfl
@[simp] theorem State.setSecond_tx (s : State) (f : SecondWork → SecondWork) : (s.setSecond f).tx = s.tx := rfl
@[simp] theorem State.setSecond_peers (s : State) (f : SecondWork → SecondWork) : (s.setSecond f).peers = s.peers := rfl
@[simp] theorem State.setSecond_transfer (s : State) (f : SecondWork → SecondWork) : (s.setSecond f).transfer = s.transfer := rfl
@[simp] theorem State.setSecond_port (s : State) (f : SecondWork → SecondWork) : (s.setSecond f).port = s.port := rfl
@[simp] theorem State.setSecond_freeCount (s : State) (f : SecondWork → SecondWork) : (s.setSecond f).freeCount = s.freeCount := rfl
@[simp] theorem State.setSecond_pending (s : State) (f : SecondWork → SecondWork) : (s.setSecond f).pending = s.pending := rfl

/-! ### `setServing` -/

@[simp] theorem State.setServing_node (s : State) (x : Serving) : (s.setServing x).node = s.node := rfl
@[simp] theorem State.setServing_picture (s : State) (x : Serving) : (s.setServing x).picture = s.picture := rfl
@[simp] theorem State.setServing_window (s : State) (x : Serving) : (s.setServing x).window = s.window := rfl
@[simp] theorem State.setServing_areas (s : State) (x : Serving) : (s.setServing x).areas = s.areas := rfl
@[simp] theorem State.setServing_lastLost (s : State) (x : Serving) : (s.setServing x).lastLost = s.lastLost := rfl
@[simp] theorem State.setServing_signOn (s : State) (x : Serving) : (s.setServing x).signOn = s.signOn := rfl
@[simp] theorem State.setServing_clock (s : State) (x : Serving) : (s.setServing x).clock = s.clock := rfl
@[simp] theorem State.setServing_handover (s : State) (x : Serving) : (s.setServing x).handover = s.handover := rfl
@[simp] theorem State.setServing_bus (s : State) (x : Serving) : (s.setServing x).bus = s.bus := rfl
@[simp] theorem State.setServing_tx (s : State) (x : Serving) : (s.setServing x).tx = s.tx := rfl
@[simp] theorem State.setServing_peers (s : State) (x : Serving) : (s.setServing x).peers = s.peers := rfl
@[simp] theorem State.setServing_port (s : State) (x : Serving) : (s.setServing x).port = s.port := rfl
@[simp] theorem State.setServing_second (s : State) (x : Serving) : (s.setServing x).second = s.second := rfl
@[simp] theorem State.setServing_freeCount (s : State) (x : Serving) : (s.setServing x).freeCount = s.freeCount := rfl
@[simp] theorem State.setServing_pending (s : State) (x : Serving) : (s.setServing x).pending = s.pending := rfl

/-! ### `setRefresh` -/

@[simp] theorem State.setRefresh_node (s : State) (x : Option Refresh) : (s.setRefresh x).node = s.node := rfl
@[simp] theorem State.setRefresh_picture (s : State) (x : Option Refresh) : (s.setRefresh x).picture = s.picture := rfl
@[simp] theorem State.setRefresh_window (s : State) (x : Option Refresh) : (s.setRefresh x).window = s.window := rfl
@[simp] theorem State.setRefresh_areas (s : State) (x : Option Refresh) : (s.setRefresh x).areas = s.areas := rfl
@[simp] theorem State.setRefresh_lastLost (s : State) (x : Option Refresh) : (s.setRefresh x).lastLost = s.lastLost := rfl
@[simp] theorem State.setRefresh_signOn (s : State) (x : Option Refresh) : (s.setRefresh x).signOn = s.signOn := rfl
@[simp] theorem State.setRefresh_clock (s : State) (x : Option Refresh) : (s.setRefresh x).clock = s.clock := rfl
@[simp] theorem State.setRefresh_handover (s : State) (x : Option Refresh) : (s.setRefresh x).handover = s.handover := rfl
@[simp] theorem State.setRefresh_bus (s : State) (x : Option Refresh) : (s.setRefresh x).bus = s.bus := rfl
@[simp] theorem State.setRefresh_tx (s : State) (x : Option Refresh) : (s.setRefresh x).tx = s.tx := rfl
@[simp] theorem State.setRefresh_peers (s : State) (x : Option Refresh) : (s.setRefresh x).peers = s.peers := rfl
@[simp] theorem State.setRefresh_port (s : State) (x : Option Refresh) : (s.setRefresh x).port = s.port := rfl
@[simp] theorem State.setRefresh_second (s : State) (x : Option Refresh) : (s.setRefresh x).second = s.second := rfl
@[simp] theorem State.setRefresh_freeCount (s : State) (x : Option Refresh) : (s.setRefresh x).freeCount = s.freeCount := rfl
@[simp] theorem State.setRefresh_pending (s : State) (x : Option Refresh) : (s.setRefresh x).pending = s.pending := rfl

/-! ### `setPendingEvents` -/

@[simp] theorem State.setPendingEvents_node (s : State) (x : List PendingEvent) : (s.setPendingEvents x).node = s.node := rfl
@[simp] theorem State.setPendingEvents_picture (s : State) (x : List PendingEvent) : (s.setPendingEvents x).picture = s.picture := rfl
@[simp] theorem State.setPendingEvents_window (s : State) (x : List PendingEvent) : (s.setPendingEvents x).window = s.window := rfl
@[simp] theorem State.setPendingEvents_areas (s : State) (x : List PendingEvent) : (s.setPendingEvents x).areas = s.areas := rfl
@[simp] theorem State.setPendingEvents_lastLost (s : State) (x : List PendingEvent) : (s.setPendingEvents x).lastLost = s.lastLost := rfl
@[simp] theorem State.setPendingEvents_signOn (s : State) (x : List PendingEvent) : (s.setPendingEvents x).signOn = s.signOn := rfl
@[simp] theorem State.setPendingEvents_clock (s : State) (x : List PendingEvent) : (s.setPendingEvents x).clock = s.clock := rfl
@[simp] theorem State.setPendingEvents_handover (s : State) (x : List PendingEvent) : (s.setPendingEvents x).handover = s.handover := rfl
@[simp] theorem State.setPendingEvents_bus (s : State) (x : List PendingEvent) : (s.setPendingEvents x).bus = s.bus := rfl
@[simp] theorem State.setPendingEvents_tx (s : State) (x : List PendingEvent) : (s.setPendingEvents x).tx = s.tx := rfl
@[simp] theorem State.setPendingEvents_peers (s : State) (x : List PendingEvent) : (s.setPendingEvents x).peers = s.peers := rfl
@[simp] theorem State.setPendingEvents_port (s : State) (x : List PendingEvent) : (s.setPendingEvents x).port = s.port := rfl
@[simp] theorem State.setPendingEvents_second (s : State) (x : List PendingEvent) : (s.setPendingEvents x).second = s.second := rfl
@[simp] theorem State.setPendingEvents_freeCount (s : State) (x : List PendingEvent) : (s.setPendingEvents x).freeCount = s.freeCount := rfl
@[simp] theorem State.setPendingEvents_pending (s : State) (x : List PendingEvent) : (s.setPendingEvents x).pending = s.pending := rfl

/-! ### `setValid` -/

@[simp] theorem State.setValid_node (s : State) : (s.setValid).node = s.node := rfl
@[simp] theorem State.setValid_picture (s : State) : (s.setValid).picture = s.picture := rfl
@[simp] theorem State.setValid_window (s : State) : (s.setValid).window = s.window := rfl
@[simp] theorem State.setValid_areas (s : State) : (s.setValid).areas = s.areas := rfl
@[simp] theorem State.setValid_lastLost (s : State) : (s.setValid).lastLost = s.lastLost := rfl
@[simp] theorem State.setValid_signOn (s : State) : (s.setValid).signOn = s.signOn := rfl
@[simp] theorem State.setValid_clock (s : State) : (s.setValid).clock = s.clock := rfl
@[simp] theorem State.setValid_handover (s : State) : (s.setValid).handover = s.handover := rfl
@[simp] theorem State.setValid_bus (s : State) : (s.setValid).bus = s.bus := rfl
@[simp] theorem State.setValid_tx (s : State) : (s.setValid).tx = s.tx := rfl
@[simp] theorem State.setValid_peers (s : State) : (s.setValid).peers = s.peers := rfl
@[simp] theorem State.setValid_port (s : State) : (s.setValid).port = s.port := rfl
@[simp] theorem State.setValid_second (s : State) : (s.setValid).second = s.second := rfl
@[simp] theorem State.setValid_freeCount (s : State) : (s.setValid).freeCount = s.freeCount := rfl
@[simp] theorem State.setValid_pending (s : State) : (s.setValid).pending = s.pending := rfl

/-! ### `reroute` -/

@[simp] theorem State.reroute_node (s : State) : (s.reroute).node = s.node := rfl
@[simp] theorem State.reroute_window (s : State) : (s.reroute).window = s.window := rfl
@[simp] theorem State.reroute_areas (s : State) : (s.reroute).areas = s.areas := rfl
@[simp] theorem State.reroute_lastLost (s : State) : (s.reroute).lastLost = s.lastLost := rfl
@[simp] theorem State.reroute_signOn (s : State) : (s.reroute).signOn = s.signOn := rfl
@[simp] theorem State.reroute_clock (s : State) : (s.reroute).clock = s.clock := rfl
@[simp] theorem State.reroute_handover (s : State) : (s.reroute).handover = s.handover := rfl
@[simp] theorem State.reroute_bus (s : State) : (s.reroute).bus = s.bus := rfl
@[simp] theorem State.reroute_tx (s : State) : (s.reroute).tx = s.tx := rfl
@[simp] theorem State.reroute_peers (s : State) : (s.reroute).peers = s.peers := rfl
@[simp] theorem State.reroute_transfer (s : State) : (s.reroute).transfer = s.transfer := rfl
@[simp] theorem State.reroute_port (s : State) : (s.reroute).port = s.port := rfl
@[simp] theorem State.reroute_second (s : State) : (s.reroute).second = s.second := rfl
@[simp] theorem State.reroute_freeCount (s : State) : (s.reroute).freeCount = s.freeCount := rfl
@[simp] theorem State.reroute_pending (s : State) : (s.reroute).pending = s.pending := rfl

/-! ### `sound` -/

@[simp] theorem State.sound_node (s : State) : (s.sound).node = s.node := rfl
@[simp] theorem State.sound_window (s : State) : (s.sound).window = s.window := rfl
@[simp] theorem State.sound_areas (s : State) : (s.sound).areas = s.areas := rfl
@[simp] theorem State.sound_lastLost (s : State) : (s.sound).lastLost = s.lastLost := rfl
@[simp] theorem State.sound_signOn (s : State) : (s.sound).signOn = s.signOn := rfl
@[simp] theorem State.sound_clock (s : State) : (s.sound).clock = s.clock := rfl
@[simp] theorem State.sound_handover (s : State) : (s.sound).handover = s.handover := rfl
@[simp] theorem State.sound_bus (s : State) : (s.sound).bus = s.bus := rfl
@[simp] theorem State.sound_tx (s : State) : (s.sound).tx = s.tx := rfl
@[simp] theorem State.sound_peers (s : State) : (s.sound).peers = s.peers := rfl
@[simp] theorem State.sound_transfer (s : State) : (s.sound).transfer = s.transfer := rfl
@[simp] theorem State.sound_port (s : State) : (s.sound).port = s.port := rfl
@[simp] theorem State.sound_second (s : State) : (s.sound).second = s.second := rfl
@[simp] theorem State.sound_freeCount (s : State) : (s.sound).freeCount = s.freeCount := rfl
@[simp] theorem State.sound_pending (s : State) : (s.sound).pending = s.pending := rfl

/-! ### `takeSnapshot` -/

@[simp] theorem State.takeSnapshot_node (s : State) : (s.takeSnapshot).node = s.node := rfl
@[simp] theorem State.takeSnapshot_picture (s : State) : (s.takeSnapshot).picture = s.picture := rfl
@[simp] theorem State.takeSnapshot_areas (s : State) : (s.takeSnapshot).areas = s.areas := rfl
@[simp] theorem State.takeSnapshot_lastLost (s : State) : (s.takeSnapshot).lastLost = s.lastLost := rfl
@[simp] theorem State.takeSnapshot_signOn (s : State) : (s.takeSnapshot).signOn = s.signOn := rfl
@[simp] theorem State.takeSnapshot_clock (s : State) : (s.takeSnapshot).clock = s.clock := rfl
@[simp] theorem State.takeSnapshot_handover (s : State) : (s.takeSnapshot).handover = s.handover := rfl
@[simp] theorem State.takeSnapshot_bus (s : State) : (s.takeSnapshot).bus = s.bus := rfl
@[simp] theorem State.takeSnapshot_tx (s : State) : (s.takeSnapshot).tx = s.tx := rfl
@[simp] theorem State.takeSnapshot_peers (s : State) : (s.takeSnapshot).peers = s.peers := rfl
@[simp] theorem State.takeSnapshot_transfer (s : State) : (s.takeSnapshot).transfer = s.transfer := rfl
@[simp] theorem State.takeSnapshot_port (s : State) : (s.takeSnapshot).port = s.port := rfl
@[simp] theorem State.takeSnapshot_second (s : State) : (s.takeSnapshot).second = s.second := rfl
@[simp] theorem State.takeSnapshot_freeCount (s : State) : (s.takeSnapshot).freeCount = s.freeCount := rfl
@[simp] theorem State.takeSnapshot_pending (s : State) : (s.takeSnapshot).pending = s.pending := rfl

/-! ### `adjustTop` -/

@[simp] theorem State.adjustTop_node (s : State) : (s.adjustTop).node = s.node := rfl
@[simp] theorem State.adjustTop_picture (s : State) : (s.adjustTop).picture = s.picture := rfl
@[simp] theorem State.adjustTop_areas (s : State) : (s.adjustTop).areas = s.areas := rfl
@[simp] theorem State.adjustTop_lastLost (s : State) : (s.adjustTop).lastLost = s.lastLost := rfl
@[simp] theorem State.adjustTop_signOn (s : State) : (s.adjustTop).signOn = s.signOn := rfl
@[simp] theorem State.adjustTop_clock (s : State) : (s.adjustTop).clock = s.clock := rfl
@[simp] theorem State.adjustTop_handover (s : State) : (s.adjustTop).handover = s.handover := rfl
@[simp] theorem State.adjustTop_bus (s : State) : (s.adjustTop).bus = s.bus := rfl
@[simp] theorem State.adjustTop_tx (s : State) : (s.adjustTop).tx = s.tx := rfl
@[simp] theorem State.adjustTop_peers (s : State) : (s.adjustTop).peers = s.peers := rfl
@[simp] theorem State.adjustTop_transfer (s : State) : (s.adjustTop).transfer = s.transfer := rfl
@[simp] theorem State.adjustTop_port (s : State) : (s.adjustTop).port = s.port := rfl
@[simp] theorem State.adjustTop_second (s : State) : (s.adjustTop).second = s.second := rfl
@[simp] theorem State.adjustTop_freeCount (s : State) : (s.adjustTop).freeCount = s.freeCount := rfl
@[simp] theorem State.adjustTop_pending (s : State) : (s.adjustTop).pending = s.pending := rfl

/-! ### `noteView` -/

@[simp] theorem State.noteView_node (s : State) (v : List (Option RowKey)) : (s.noteView v).node = s.node := rfl
@[simp] theorem State.noteView_picture (s : State) (v : List (Option RowKey)) : (s.noteView v).picture = s.picture := rfl
@[simp] theorem State.noteView_areas (s : State) (v : List (Option RowKey)) : (s.noteView v).areas = s.areas := rfl
@[simp] theorem State.noteView_lastLost (s : State) (v : List (Option RowKey)) : (s.noteView v).lastLost = s.lastLost := rfl
@[simp] theorem State.noteView_signOn (s : State) (v : List (Option RowKey)) : (s.noteView v).signOn = s.signOn := rfl
@[simp] theorem State.noteView_clock (s : State) (v : List (Option RowKey)) : (s.noteView v).clock = s.clock := rfl
@[simp] theorem State.noteView_handover (s : State) (v : List (Option RowKey)) : (s.noteView v).handover = s.handover := rfl
@[simp] theorem State.noteView_bus (s : State) (v : List (Option RowKey)) : (s.noteView v).bus = s.bus := rfl
@[simp] theorem State.noteView_tx (s : State) (v : List (Option RowKey)) : (s.noteView v).tx = s.tx := rfl
@[simp] theorem State.noteView_peers (s : State) (v : List (Option RowKey)) : (s.noteView v).peers = s.peers := rfl
@[simp] theorem State.noteView_transfer (s : State) (v : List (Option RowKey)) : (s.noteView v).transfer = s.transfer := rfl
@[simp] theorem State.noteView_port (s : State) (v : List (Option RowKey)) : (s.noteView v).port = s.port := rfl
@[simp] theorem State.noteView_second (s : State) (v : List (Option RowKey)) : (s.noteView v).second = s.second := rfl
@[simp] theorem State.noteView_freeCount (s : State) (v : List (Option RowKey)) : (s.noteView v).freeCount = s.freeCount := rfl
@[simp] theorem State.noteView_pending (s : State) (v : List (Option RowKey)) : (s.noteView v).pending = s.pending := rfl

/-! ### `takeArrival` -/

@[simp] theorem State.takeArrival_node (s : State) : (s.takeArrival).node = s.node := rfl
@[simp] theorem State.takeArrival_window (s : State) : (s.takeArrival).window = s.window := rfl
@[simp] theorem State.takeArrival_areas (s : State) : (s.takeArrival).areas = s.areas := rfl
@[simp] theorem State.takeArrival_lastLost (s : State) : (s.takeArrival).lastLost = s.lastLost := rfl
@[simp] theorem State.takeArrival_signOn (s : State) : (s.takeArrival).signOn = s.signOn := rfl
@[simp] theorem State.takeArrival_clock (s : State) : (s.takeArrival).clock = s.clock := rfl
@[simp] theorem State.takeArrival_handover (s : State) : (s.takeArrival).handover = s.handover := rfl
@[simp] theorem State.takeArrival_bus (s : State) : (s.takeArrival).bus = s.bus := rfl
@[simp] theorem State.takeArrival_tx (s : State) : (s.takeArrival).tx = s.tx := rfl
@[simp] theorem State.takeArrival_peers (s : State) : (s.takeArrival).peers = s.peers := rfl
@[simp] theorem State.takeArrival_transfer (s : State) : (s.takeArrival).transfer = s.transfer := rfl
@[simp] theorem State.takeArrival_port (s : State) : (s.takeArrival).port = s.port := rfl
@[simp] theorem State.takeArrival_second (s : State) : (s.takeArrival).second = s.second := rfl
@[simp] theorem State.takeArrival_freeCount (s : State) : (s.takeArrival).freeCount = s.freeCount := rfl
@[simp] theorem State.takeArrival_pending (s : State) : (s.takeArrival).pending = s.pending := rfl

/-! ### `dropPending` -/

@[simp] theorem State.dropPending_node (s : State) (id : AlarmId) : (s.dropPending id).node = s.node := rfl
@[simp] theorem State.dropPending_picture (s : State) (id : AlarmId) : (s.dropPending id).picture = s.picture := rfl
@[simp] theorem State.dropPending_window (s : State) (id : AlarmId) : (s.dropPending id).window = s.window := rfl
@[simp] theorem State.dropPending_areas (s : State) (id : AlarmId) : (s.dropPending id).areas = s.areas := rfl
@[simp] theorem State.dropPending_lastLost (s : State) (id : AlarmId) : (s.dropPending id).lastLost = s.lastLost := rfl
@[simp] theorem State.dropPending_signOn (s : State) (id : AlarmId) : (s.dropPending id).signOn = s.signOn := rfl
@[simp] theorem State.dropPending_clock (s : State) (id : AlarmId) : (s.dropPending id).clock = s.clock := rfl
@[simp] theorem State.dropPending_handover (s : State) (id : AlarmId) : (s.dropPending id).handover = s.handover := rfl
@[simp] theorem State.dropPending_bus (s : State) (id : AlarmId) : (s.dropPending id).bus = s.bus := rfl
@[simp] theorem State.dropPending_tx (s : State) (id : AlarmId) : (s.dropPending id).tx = s.tx := rfl
@[simp] theorem State.dropPending_peers (s : State) (id : AlarmId) : (s.dropPending id).peers = s.peers := rfl
@[simp] theorem State.dropPending_port (s : State) (id : AlarmId) : (s.dropPending id).port = s.port := rfl
@[simp] theorem State.dropPending_second (s : State) (id : AlarmId) : (s.dropPending id).second = s.second := rfl
@[simp] theorem State.dropPending_freeCount (s : State) (id : AlarmId) : (s.dropPending id).freeCount = s.freeCount := rfl
@[simp] theorem State.dropPending_pending (s : State) (id : AlarmId) : (s.dropPending id).pending = s.pending := rfl

/-! ### `claimLost` -/

@[simp] theorem State.claimLost_node (s : State) (a : Nat) : (s.claimLost a).node = s.node := rfl
@[simp] theorem State.claimLost_picture (s : State) (a : Nat) : (s.claimLost a).picture = s.picture := rfl
@[simp] theorem State.claimLost_window (s : State) (a : Nat) : (s.claimLost a).window = s.window := rfl
@[simp] theorem State.claimLost_areas (s : State) (a : Nat) : (s.claimLost a).areas = s.areas := rfl
@[simp] theorem State.claimLost_signOn (s : State) (a : Nat) : (s.claimLost a).signOn = s.signOn := rfl
@[simp] theorem State.claimLost_clock (s : State) (a : Nat) : (s.claimLost a).clock = s.clock := rfl
@[simp] theorem State.claimLost_handover (s : State) (a : Nat) : (s.claimLost a).handover = s.handover := rfl
@[simp] theorem State.claimLost_bus (s : State) (a : Nat) : (s.claimLost a).bus = s.bus := rfl
@[simp] theorem State.claimLost_tx (s : State) (a : Nat) : (s.claimLost a).tx = s.tx := rfl
@[simp] theorem State.claimLost_peers (s : State) (a : Nat) : (s.claimLost a).peers = s.peers := rfl
@[simp] theorem State.claimLost_transfer (s : State) (a : Nat) : (s.claimLost a).transfer = s.transfer := rfl
@[simp] theorem State.claimLost_second (s : State) (a : Nat) : (s.claimLost a).second = s.second := rfl
@[simp] theorem State.claimLost_freeCount (s : State) (a : Nat) : (s.claimLost a).freeCount = s.freeCount := rfl
@[simp] theorem State.claimLost_pending (s : State) (a : Nat) : (s.claimLost a).pending = s.pending := rfl

/-! ### `countPeers` -/

@[simp] theorem State.countPeers_node (s : State) : (s.countPeers).node = s.node := rfl
@[simp] theorem State.countPeers_picture (s : State) : (s.countPeers).picture = s.picture := rfl
@[simp] theorem State.countPeers_window (s : State) : (s.countPeers).window = s.window := rfl
@[simp] theorem State.countPeers_areas (s : State) : (s.countPeers).areas = s.areas := rfl
@[simp] theorem State.countPeers_lastLost (s : State) : (s.countPeers).lastLost = s.lastLost := rfl
@[simp] theorem State.countPeers_signOn (s : State) : (s.countPeers).signOn = s.signOn := rfl
@[simp] theorem State.countPeers_clock (s : State) : (s.countPeers).clock = s.clock := rfl
@[simp] theorem State.countPeers_handover (s : State) : (s.countPeers).handover = s.handover := rfl
@[simp] theorem State.countPeers_bus (s : State) : (s.countPeers).bus = s.bus := rfl
@[simp] theorem State.countPeers_tx (s : State) : (s.countPeers).tx = s.tx := rfl
@[simp] theorem State.countPeers_transfer (s : State) : (s.countPeers).transfer = s.transfer := rfl
@[simp] theorem State.countPeers_port (s : State) : (s.countPeers).port = s.port := rfl
@[simp] theorem State.countPeers_second (s : State) : (s.countPeers).second = s.second := rfl
@[simp] theorem State.countPeers_freeCount (s : State) : (s.countPeers).freeCount = s.freeCount := rfl
@[simp] theorem State.countPeers_pending (s : State) : (s.countPeers).pending = s.pending := rfl

/-! ### `countLines` -/

@[simp] theorem State.countLines_node (s : State) : (s.countLines).node = s.node := rfl
@[simp] theorem State.countLines_picture (s : State) : (s.countLines).picture = s.picture := rfl
@[simp] theorem State.countLines_window (s : State) : (s.countLines).window = s.window := rfl
@[simp] theorem State.countLines_areas (s : State) : (s.countLines).areas = s.areas := rfl
@[simp] theorem State.countLines_lastLost (s : State) : (s.countLines).lastLost = s.lastLost := rfl
@[simp] theorem State.countLines_signOn (s : State) : (s.countLines).signOn = s.signOn := rfl
@[simp] theorem State.countLines_clock (s : State) : (s.countLines).clock = s.clock := rfl
@[simp] theorem State.countLines_handover (s : State) : (s.countLines).handover = s.handover := rfl
@[simp] theorem State.countLines_tx (s : State) : (s.countLines).tx = s.tx := rfl
@[simp] theorem State.countLines_peers (s : State) : (s.countLines).peers = s.peers := rfl
@[simp] theorem State.countLines_transfer (s : State) : (s.countLines).transfer = s.transfer := rfl
@[simp] theorem State.countLines_port (s : State) : (s.countLines).port = s.port := rfl
@[simp] theorem State.countLines_second (s : State) : (s.countLines).second = s.second := rfl
@[simp] theorem State.countLines_freeCount (s : State) : (s.countLines).freeCount = s.freeCount := rfl
@[simp] theorem State.countLines_pending (s : State) : (s.countLines).pending = s.pending := rfl

/-! ### `setScheduled` -/

@[simp] theorem State.setScheduled_node (s : State) (x : Scheduled) : (s.setScheduled x).node = s.node := rfl
@[simp] theorem State.setScheduled_picture (s : State) (x : Scheduled) : (s.setScheduled x).picture = s.picture := rfl
@[simp] theorem State.setScheduled_window (s : State) (x : Scheduled) : (s.setScheduled x).window = s.window := rfl
@[simp] theorem State.setScheduled_areas (s : State) (x : Scheduled) : (s.setScheduled x).areas = s.areas := rfl
@[simp] theorem State.setScheduled_lastLost (s : State) (x : Scheduled) : (s.setScheduled x).lastLost = s.lastLost := rfl
@[simp] theorem State.setScheduled_signOn (s : State) (x : Scheduled) : (s.setScheduled x).signOn = s.signOn := rfl
@[simp] theorem State.setScheduled_clock (s : State) (x : Scheduled) : (s.setScheduled x).clock = s.clock := rfl
@[simp] theorem State.setScheduled_bus (s : State) (x : Scheduled) : (s.setScheduled x).bus = s.bus := rfl
@[simp] theorem State.setScheduled_tx (s : State) (x : Scheduled) : (s.setScheduled x).tx = s.tx := rfl
@[simp] theorem State.setScheduled_peers (s : State) (x : Scheduled) : (s.setScheduled x).peers = s.peers := rfl
@[simp] theorem State.setScheduled_transfer (s : State) (x : Scheduled) : (s.setScheduled x).transfer = s.transfer := rfl
@[simp] theorem State.setScheduled_port (s : State) (x : Scheduled) : (s.setScheduled x).port = s.port := rfl
@[simp] theorem State.setScheduled_freeCount (s : State) (x : Scheduled) : (s.setScheduled x).freeCount = s.freeCount := rfl
@[simp] theorem State.setScheduled_pending (s : State) (x : Scheduled) : (s.setScheduled x).pending = s.pending := rfl

/-! ### `withPending` -/

@[simp] theorem State.withPending_node (s : State) (q : List Instr) : (s.withPending q).node = s.node := rfl
@[simp] theorem State.withPending_picture (s : State) (q : List Instr) : (s.withPending q).picture = s.picture := rfl
@[simp] theorem State.withPending_window (s : State) (q : List Instr) : (s.withPending q).window = s.window := rfl
@[simp] theorem State.withPending_areas (s : State) (q : List Instr) : (s.withPending q).areas = s.areas := rfl
@[simp] theorem State.withPending_lastLost (s : State) (q : List Instr) : (s.withPending q).lastLost = s.lastLost := rfl
@[simp] theorem State.withPending_signOn (s : State) (q : List Instr) : (s.withPending q).signOn = s.signOn := rfl
@[simp] theorem State.withPending_clock (s : State) (q : List Instr) : (s.withPending q).clock = s.clock := rfl
@[simp] theorem State.withPending_handover (s : State) (q : List Instr) : (s.withPending q).handover = s.handover := rfl
@[simp] theorem State.withPending_bus (s : State) (q : List Instr) : (s.withPending q).bus = s.bus := rfl
@[simp] theorem State.withPending_tx (s : State) (q : List Instr) : (s.withPending q).tx = s.tx := rfl
@[simp] theorem State.withPending_peers (s : State) (q : List Instr) : (s.withPending q).peers = s.peers := rfl
@[simp] theorem State.withPending_transfer (s : State) (q : List Instr) : (s.withPending q).transfer = s.transfer := rfl
@[simp] theorem State.withPending_port (s : State) (q : List Instr) : (s.withPending q).port = s.port := rfl
@[simp] theorem State.withPending_second (s : State) (q : List Instr) : (s.withPending q).second = s.second := rfl
@[simp] theorem State.withPending_freeCount (s : State) (q : List Instr) : (s.withPending q).freeCount = s.freeCount := rfl

/-! ### The updated fields -/

@[simp] theorem State.latch_attention (s : State) (f : Flag) :
    (s.latch f).port.attention = s.port.attention ||| BitVec.twoPow 24 f.bit := rfl
@[simp] theorem State.latch_answer (s : State) (f : Flag) : (s.latch f).port.answer = s.port.answer := rfl
@[simp] theorem State.latch_counter (s : State) (f : Flag) : (s.latch f).port.counter = s.port.counter := rfl
@[simp] theorem State.latch_busy (s : State) (f : Flag) : (s.latch f).port.busy = s.port.busy := rfl
@[simp] theorem State.latch_started (s : State) (f : Flag) : (s.latch f).port.started = s.port.started := rfl
@[simp] theorem State.checkIn_mode (s : State) : s.checkIn.node.mode = s.node.mode := rfl
@[simp] theorem State.checkIn_number (s : State) : s.checkIn.node.number = s.node.number := rfl
@[simp] theorem State.checkIn_dark (s : State) : s.checkIn.node.dark = false := rfl
@[simp] theorem State.checkIn_lastCheckIn (s : State) : s.checkIn.node.lastCheckIn = s.now := rfl
@[simp] theorem State.answer_attention (s : State) (c : Byte) (r : ResultCode) (b : AnswerBody) :
    (s.answer c r b).port.attention = s.port.attention := rfl
@[simp] theorem State.answer_busy (s : State) (c : Byte) (r : ResultCode) (b : AnswerBody) :
    (s.answer c r b).port.busy = true := rfl
@[simp] theorem State.answer_counter (s : State) (c : Byte) (r : ResultCode) (b : AnswerBody) :
    (s.answer c r b).port.counter = s.port.counter + 1 := rfl
@[simp] theorem State.answer_answer (s : State) (c : Byte) (r : ResultCode) (b : AnswerBody) :
    (s.answer c r b).port.answer = { result := r, number := s.port.counter + 1, request := c, body := b } := rfl
@[simp] theorem State.queue_urgent (s : State) (f : Frame) :
    (s.queue f).tx.urgent = s.tx.urgent ++ [{ frame := f, seq := none }] := rfl
@[simp] theorem State.queue_change (s : State) (f : Frame) : (s.queue f).tx.change = s.tx.change := rfl
@[simp] theorem State.reroute_list (s : State) : s.reroute.picture.list = s.picture.list := rfl
@[simp] theorem State.reroute_arrivals (s : State) : s.reroute.picture.arrivals = s.picture.arrivals := rfl
@[simp] theorem State.sound_list (s : State) : s.sound.picture.list = s.picture.list := rfl
@[simp] theorem State.sound_lamp (s : State) : s.sound.picture.lamp = s.picture.lamp := rfl
@[simp] theorem State.takeArrival_list (s : State) : s.takeArrival.picture.list = s.picture.list := rfl
@[simp] theorem State.setReport_mode (s : State) (r : Report) : (s.setReport r).node.mode = s.node.mode := rfl
@[simp] theorem State.setReport_number (s : State) (r : Report) : (s.setReport r).node.number = s.node.number := rfl
@[simp] theorem State.setReport_urgent (s : State) (r : Report) : (s.setReport r).tx.urgent = s.tx.urgent := rfl
@[simp] theorem State.setReport_change (s : State) (r : Report) : (s.setReport r).tx.change = s.tx.change := rfl
@[simp] theorem State.setRefresh_refresh (s : State) (x : Option Refresh) : (s.setRefresh x).transfer.refresh = x := rfl
@[simp] theorem State.setRefresh_valid (s : State) (x : Option Refresh) :
    (s.setRefresh x).transfer.valid = s.transfer.valid := rfl
@[simp] theorem State.setPendingEvents_events (s : State) (x : List PendingEvent) :
    (s.setPendingEvents x).transfer.pendingEvents = x := rfl
@[simp] theorem State.setValid_valid (s : State) : s.setValid.transfer.valid = true := rfl
@[simp] theorem State.setServing_serving (s : State) (x : Serving) : (s.setServing x).transfer.serving = x := rfl
@[simp] theorem State.setWindow_eq (s : State) (f : Window → Window) : (s.setWindow f).window = f s.window := rfl
@[simp] theorem State.setClock_eq (s : State) (f : Clock → Clock) : (s.setClock f).clock = f s.clock := rfl
@[simp] theorem State.setSecond_eq (s : State) (f : SecondWork → SecondWork) : (s.setSecond f).second = f s.second := rfl
@[simp] theorem State.withPending_eq (s : State) (q : List Instr) : (s.withPending q).pending = q := rfl

/-! ### Reading an area record after a write -/

theorem State.area_setArea_self (s : State) (a : Nat) (r : Area) (h : a < s.areas.length) :
    (s.setArea a r).area a = r := by
  simp [State.area, State.setArea, List.getD, h]

theorem State.area_setArea_other (s : State) (a b : Nat) (r : Area) (h : a ≠ b) :
    (s.setArea a r).area b = s.area b := by
  simp [State.area, State.setArea, List.getD, List.getElem?_set_ne h]

@[simp] theorem State.setArea_length (s : State) (a : Nat) (r : Area) :
    (s.setArea a r).areas.length = s.areas.length := by
  simp [State.setArea]

end Sys2Proof.Machine
end

