-- ==== Sys2Proof/Laws/Frames.lean ====
section
/-! SUPPORT. For each shared operation, one lemma that says which parts of the state it never changes. -/

namespace Sys2Proof.Machine

@[simp] theorem ite_node (c : Prop) [Decidable c] (a b : State) :
    (if c then a else b).node = if c then a.node else b.node := by
  split <;> rfl

@[simp] theorem ite_picture (c : Prop) [Decidable c] (a b : State) :
    (if c then a else b).picture = if c then a.picture else b.picture := by
  split <;> rfl

@[simp] theorem ite_window (c : Prop) [Decidable c] (a b : State) :
    (if c then a else b).window = if c then a.window else b.window := by
  split <;> rfl

@[simp] theorem ite_areas (c : Prop) [Decidable c] (a b : State) :
    (if c then a else b).areas = if c then a.areas else b.areas := by
  split <;> rfl

@[simp] theorem ite_lastLost (c : Prop) [Decidable c] (a b : State) :
    (if c then a else b).lastLost = if c then a.lastLost else b.lastLost := by
  split <;> rfl

@[simp] theorem ite_signOn (c : Prop) [Decidable c] (a b : State) :
    (if c then a else b).signOn = if c then a.signOn else b.signOn := by
  split <;> rfl

@[simp] theorem ite_clock (c : Prop) [Decidable c] (a b : State) :
    (if c then a else b).clock = if c then a.clock else b.clock := by
  split <;> rfl

@[simp] theorem ite_handover (c : Prop) [Decidable c] (a b : State) :
    (if c then a else b).handover = if c then a.handover else b.handover := by
  split <;> rfl

@[simp] theorem ite_bus (c : Prop) [Decidable c] (a b : State) :
    (if c then a else b).bus = if c then a.bus else b.bus := by
  split <;> rfl

@[simp] theorem ite_tx (c : Prop) [Decidable c] (a b : State) :
    (if c then a else b).tx = if c then a.tx else b.tx := by
  split <;> rfl

@[simp] theorem ite_peers (c : Prop) [Decidable c] (a b : State) :
    (if c then a else b).peers = if c then a.peers else b.peers := by
  split <;> rfl

@[simp] theorem ite_transfer (c : Prop) [Decidable c] (a b : State) :
    (if c then a else b).transfer = if c then a.transfer else b.transfer := by
  split <;> rfl

@[simp] theorem ite_port (c : Prop) [Decidable c] (a b : State) :
    (if c then a else b).port = if c then a.port else b.port := by
  split <;> rfl

@[simp] theorem ite_second (c : Prop) [Decidable c] (a b : State) :
    (if c then a else b).second = if c then a.second else b.second := by
  split <;> rfl

@[simp] theorem ite_freeCount (c : Prop) [Decidable c] (a b : State) :
    (if c then a else b).freeCount = if c then a.freeCount else b.freeCount := by
  split <;> rfl

@[simp] theorem ite_pending (c : Prop) [Decidable c] (a b : State) :
    (if c then a else b).pending = if c then a.pending else b.pending := by
  split <;> rfl

/-- What every step of a fold keeps, the fold keeps. -/
theorem foldl_keeps {α β : Type} (g : State → β) (f : State → α → State) (step : ∀ s x, g (f s x) = g s) (l : List α) :
    ∀ s, g (l.foldl f s) = g s := by
  induction l with
  | nil => exact fun _ => rfl
  | cons x rest ih => exact fun s => (ih (f s x)).trans (step s x)

/-! ### Flags and reports -/

@[simp] theorem State.latchIf_frame (s : State) (c : Bool) (f : Flag) :
    (s.latchIf c f).node = s.node ∧ (s.latchIf c f).picture = s.picture ∧ (s.latchIf c f).window = s.window ∧
      (s.latchIf c f).areas = s.areas ∧ (s.latchIf c f).lastLost = s.lastLost ∧
      (s.latchIf c f).signOn = s.signOn ∧ (s.latchIf c f).clock = s.clock ∧
      (s.latchIf c f).handover = s.handover ∧ (s.latchIf c f).bus = s.bus ∧ (s.latchIf c f).tx = s.tx ∧
      (s.latchIf c f).peers = s.peers ∧ (s.latchIf c f).transfer = s.transfer ∧
      (s.latchIf c f).second = s.second ∧ (s.latchIf c f).freeCount = s.freeCount ∧
      (s.latchIf c f).pending = s.pending := by
  unfold State.latchIf
  try dsimp only
  repeat' split
  all_goals simp

@[simp] theorem State.latchOpt_frame (s : State) (f : Option Flag) :
    (s.latchOpt f).node = s.node ∧ (s.latchOpt f).picture = s.picture ∧ (s.latchOpt f).window = s.window ∧
      (s.latchOpt f).areas = s.areas ∧ (s.latchOpt f).lastLost = s.lastLost ∧ (s.latchOpt f).signOn = s.signOn ∧
      (s.latchOpt f).clock = s.clock ∧ (s.latchOpt f).handover = s.handover ∧ (s.latchOpt f).bus = s.bus ∧
      (s.latchOpt f).tx = s.tx ∧ (s.latchOpt f).peers = s.peers ∧ (s.latchOpt f).transfer = s.transfer ∧
      (s.latchOpt f).second = s.second ∧ (s.latchOpt f).freeCount = s.freeCount ∧
      (s.latchOpt f).pending = s.pending := by
  unfold State.latchOpt
  try dsimp only
  repeat' split
  all_goals simp

/-! ### Areas, queue, routing, window, port -/

@[simp] theorem State.queueIfRoom_frame (s : State) (f : Frame) :
    (s.queueIfRoom f).node = s.node ∧ (s.queueIfRoom f).picture = s.picture ∧
      (s.queueIfRoom f).window = s.window ∧ (s.queueIfRoom f).areas = s.areas ∧
      (s.queueIfRoom f).lastLost = s.lastLost ∧ (s.queueIfRoom f).signOn = s.signOn ∧
      (s.queueIfRoom f).clock = s.clock ∧ (s.queueIfRoom f).handover = s.handover ∧
      (s.queueIfRoom f).bus = s.bus ∧ (s.queueIfRoom f).peers = s.peers ∧
      (s.queueIfRoom f).transfer = s.transfer ∧ (s.queueIfRoom f).port = s.port ∧
      (s.queueIfRoom f).second = s.second ∧ (s.queueIfRoom f).freeCount = s.freeCount ∧
      (s.queueIfRoom f).pending = s.pending := by
  unfold State.queueIfRoom
  try dsimp only
  repeat' split
  all_goals simp

@[simp] theorem State.soundFor_frame (s : State) (r : AlarmRecord) (f : Bool) :
    (s.soundFor r f).node = s.node ∧ (s.soundFor r f).window = s.window ∧ (s.soundFor r f).areas = s.areas ∧
      (s.soundFor r f).lastLost = s.lastLost ∧ (s.soundFor r f).signOn = s.signOn ∧
      (s.soundFor r f).clock = s.clock ∧ (s.soundFor r f).handover = s.handover ∧ (s.soundFor r f).bus = s.bus ∧
      (s.soundFor r f).tx = s.tx ∧ (s.soundFor r f).peers = s.peers ∧ (s.soundFor r f).transfer = s.transfer ∧
      (s.soundFor r f).port = s.port ∧ (s.soundFor r f).second = s.second ∧
      (s.soundFor r f).freeCount = s.freeCount ∧ (s.soundFor r f).pending = s.pending := by
  unfold State.soundFor
  try dsimp only
  repeat' split
  all_goals simp

@[simp] theorem State.setList_frame (s : State) (l : List AlarmRecord) :
    (s.setList l).node = s.node ∧ (s.setList l).areas = s.areas ∧ (s.setList l).lastLost = s.lastLost ∧
      (s.setList l).signOn = s.signOn ∧ (s.setList l).clock = s.clock ∧ (s.setList l).handover = s.handover ∧
      (s.setList l).bus = s.bus ∧ (s.setList l).tx = s.tx ∧ (s.setList l).peers = s.peers ∧
      (s.setList l).transfer = s.transfer ∧ (s.setList l).port = s.port ∧ (s.setList l).second = s.second ∧
      (s.setList l).freeCount = s.freeCount ∧ (s.setList l).pending = s.pending := by
  unfold State.setList State.throughWindow
  try dsimp only
  all_goals simp

/-! ### Picture store and load unit -/

@[simp] theorem State.listFull_frame (s : State) :
    (s.listFull).picture = s.picture ∧ (s.listFull).window = s.window ∧ (s.listFull).areas = s.areas ∧
      (s.listFull).lastLost = s.lastLost ∧ (s.listFull).signOn = s.signOn ∧ (s.listFull).clock = s.clock ∧
      (s.listFull).handover = s.handover ∧ (s.listFull).bus = s.bus ∧ (s.listFull).peers = s.peers ∧
      (s.listFull).transfer = s.transfer ∧ (s.listFull).second = s.second ∧
      (s.listFull).freeCount = s.freeCount ∧ (s.listFull).pending = s.pending := by
  unfold State.listFull
  try dsimp only
  all_goals simp

@[simp] theorem State.addLoad_frame (s : State) (p : Priority) (a : Nat) :
    (s.addLoad p a).node = s.node ∧ (s.addLoad p a).picture = s.picture ∧ (s.addLoad p a).window = s.window ∧
      (s.addLoad p a).lastLost = s.lastLost ∧ (s.addLoad p a).signOn = s.signOn ∧
      (s.addLoad p a).clock = s.clock ∧ (s.addLoad p a).handover = s.handover ∧ (s.addLoad p a).bus = s.bus ∧
      (s.addLoad p a).tx = s.tx ∧ (s.addLoad p a).peers = s.peers ∧ (s.addLoad p a).transfer = s.transfer ∧
      (s.addLoad p a).second = s.second ∧ (s.addLoad p a).freeCount = s.freeCount ∧
      (s.addLoad p a).pending = s.pending := by
  unfold State.addLoad
  try dsimp only
  all_goals simp

@[simp] theorem State.decayAll_frame (s : State) :
    (s.decayAll).node = s.node ∧ (s.decayAll).picture = s.picture ∧ (s.decayAll).window = s.window ∧
      (s.decayAll).lastLost = s.lastLost ∧ (s.decayAll).signOn = s.signOn ∧ (s.decayAll).clock = s.clock ∧
      (s.decayAll).handover = s.handover ∧ (s.decayAll).bus = s.bus ∧ (s.decayAll).tx = s.tx ∧
      (s.decayAll).peers = s.peers ∧ (s.decayAll).transfer = s.transfer ∧ (s.decayAll).freeCount = s.freeCount ∧
      (s.decayAll).pending = s.pending := by
  unfold State.decayAll
  try dsimp only
  all_goals simp

@[simp] theorem State.addPending_frame (s : State) (e : PendingEvent) :
    (s.addPending e).node = s.node ∧ (s.addPending e).picture = s.picture ∧ (s.addPending e).window = s.window ∧
      (s.addPending e).areas = s.areas ∧ (s.addPending e).lastLost = s.lastLost ∧
      (s.addPending e).signOn = s.signOn ∧ (s.addPending e).clock = s.clock ∧
      (s.addPending e).handover = s.handover ∧ (s.addPending e).bus = s.bus ∧ (s.addPending e).tx = s.tx ∧
      (s.addPending e).peers = s.peers ∧ (s.addPending e).second = s.second ∧
      (s.addPending e).freeCount = s.freeCount ∧ (s.addPending e).pending = s.pending := by
  unfold State.addPending
  try dsimp only
  repeat' split
  all_goals simp

theorem State.insert_frame (s t : State) (r : AlarmRecord) (h : s.insert r = some t) :
    t.node = s.node ∧ t.areas = s.areas ∧ t.lastLost = s.lastLost ∧ t.signOn = s.signOn ∧
      t.clock = s.clock ∧ t.handover = s.handover ∧ t.bus = s.bus ∧ t.tx = s.tx ∧ t.peers = s.peers ∧
      t.transfer = s.transfer ∧ t.port = s.port ∧ t.second = s.second ∧ t.freeCount = s.freeCount ∧
      t.pending = s.pending := by
  unfold State.insert at h
  dsimp only at h
  split at h
  · cases h
    simp
  · split at h
    · cases h
    · cases h
      simp

@[simp] theorem State.newRaise_frame (s : State) (t : Station) (id : AlarmId) (p : Priority) (q : Quad) :
    (s.newRaise t id p q).areas = s.areas ∧ (s.newRaise t id p q).lastLost = s.lastLost ∧
      (s.newRaise t id p q).signOn = s.signOn ∧ (s.newRaise t id p q).clock = s.clock ∧
      (s.newRaise t id p q).handover = s.handover ∧ (s.newRaise t id p q).bus = s.bus ∧
      (s.newRaise t id p q).peers = s.peers ∧ (s.newRaise t id p q).transfer = s.transfer ∧
      (s.newRaise t id p q).second = s.second ∧ (s.newRaise t id p q).freeCount = s.freeCount ∧
      (s.newRaise t id p q).pending = s.pending := by
  unfold State.newRaise
  dsimp only
  repeat' split
  all_goals first
    | (simp; done)
    | (rename_i h; simp [State.insert_frame _ _ _ h])

@[simp] theorem State.reRaise_frame (s : State) (t : Station) (p : Priority) (q : Quad) (r : AlarmRecord) :
    (s.reRaise t p q r).node = s.node ∧ (s.reRaise t p q r).areas = s.areas ∧
      (s.reRaise t p q r).lastLost = s.lastLost ∧ (s.reRaise t p q r).signOn = s.signOn ∧
      (s.reRaise t p q r).clock = s.clock ∧ (s.reRaise t p q r).handover = s.handover ∧
      (s.reRaise t p q r).bus = s.bus ∧ (s.reRaise t p q r).tx = s.tx ∧ (s.reRaise t p q r).peers = s.peers ∧
      (s.reRaise t p q r).transfer = s.transfer ∧ (s.reRaise t p q r).port = s.port ∧
      (s.reRaise t p q r).second = s.second ∧ (s.reRaise t p q r).freeCount = s.freeCount ∧
      (s.reRaise t p q r).pending = s.pending := by
  unfold State.reRaise
  try dsimp only
  all_goals simp

@[simp] theorem State.raise_frame (s : State) (t : Station) (id : AlarmId) (p : Priority) (q : Quad) :
    (s.raise t id p q).lastLost = s.lastLost ∧ (s.raise t id p q).signOn = s.signOn ∧
      (s.raise t id p q).clock = s.clock ∧ (s.raise t id p q).handover = s.handover ∧
      (s.raise t id p q).bus = s.bus ∧ (s.raise t id p q).peers = s.peers ∧
      (s.raise t id p q).second = s.second ∧ (s.raise t id p q).freeCount = s.freeCount ∧
      (s.raise t id p q).pending = s.pending := by
  unfold State.raise
  try dsimp only
  repeat' split
  all_goals simp

@[simp] theorem State.clearRecord_frame (s : State) (r : AlarmRecord) :
    (s.clearRecord r).node = s.node ∧ (s.clearRecord r).areas = s.areas ∧
      (s.clearRecord r).lastLost = s.lastLost ∧ (s.clearRecord r).signOn = s.signOn ∧
      (s.clearRecord r).clock = s.clock ∧ (s.clearRecord r).handover = s.handover ∧
      (s.clearRecord r).bus = s.bus ∧ (s.clearRecord r).tx = s.tx ∧ (s.clearRecord r).peers = s.peers ∧
      (s.clearRecord r).transfer = s.transfer ∧ (s.clearRecord r).port = s.port ∧
      (s.clearRecord r).second = s.second ∧ (s.clearRecord r).freeCount = s.freeCount ∧
      (s.clearRecord r).pending = s.pending := by
  unfold State.clearRecord
  try dsimp only
  repeat' split
  all_goals simp

@[simp] theorem State.clear_frame (s : State) (id : AlarmId) :
    (s.clear id).node = s.node ∧ (s.clear id).areas = s.areas ∧ (s.clear id).lastLost = s.lastLost ∧
      (s.clear id).signOn = s.signOn ∧ (s.clear id).clock = s.clock ∧ (s.clear id).handover = s.handover ∧
      (s.clear id).bus = s.bus ∧ (s.clear id).tx = s.tx ∧ (s.clear id).peers = s.peers ∧
      (s.clear id).second = s.second ∧ (s.clear id).freeCount = s.freeCount ∧ (s.clear id).pending = s.pending := by
  unfold State.clear
  try dsimp only
  repeat' split
  all_goals simp

@[simp] theorem State.changeEntry_frame (s : State) (t : Station) (e : ChangeEntry) :
    (s.changeEntry t e).lastLost = s.lastLost ∧ (s.changeEntry t e).signOn = s.signOn ∧
      (s.changeEntry t e).clock = s.clock ∧ (s.changeEntry t e).handover = s.handover ∧
      (s.changeEntry t e).bus = s.bus ∧ (s.changeEntry t e).peers = s.peers ∧
      (s.changeEntry t e).second = s.second ∧ (s.changeEntry t e).freeCount = s.freeCount ∧
      (s.changeEntry t e).pending = s.pending := by
  unfold State.changeEntry
  try dsimp only
  repeat' split
  all_goals simp

@[simp] theorem State.applyChanges_frame (s : State) (t : Station) (es : List ChangeEntry) :
    (s.applyChanges t es).lastLost = s.lastLost ∧ (s.applyChanges t es).signOn = s.signOn ∧
      (s.applyChanges t es).clock = s.clock ∧ (s.applyChanges t es).handover = s.handover ∧
      (s.applyChanges t es).bus = s.bus ∧ (s.applyChanges t es).peers = s.peers ∧
      (s.applyChanges t es).second = s.second ∧ (s.applyChanges t es).freeCount = s.freeCount ∧
      (s.applyChanges t es).pending = s.pending := by
  unfold State.applyChanges
  refine ⟨foldl_keeps State.lastLost _ (by simp) _ s, foldl_keeps State.signOn _ (by simp) _ s,
    foldl_keeps State.clock _ (by simp) _ s, foldl_keeps State.handover _ (by simp) _ s,
    foldl_keeps State.bus _ (by simp) _ s, foldl_keeps State.peers _ (by simp) _ s,
    foldl_keeps State.second _ (by simp) _ s, foldl_keeps State.freeCount _ (by simp) _ s,
    foldl_keeps State.pending _ (by simp) _ s⟩

@[simp] theorem State.acknowledgeRecord_frame (s : State) (t : Station) (b : Badge) (r : AlarmRecord) :
    (s.acknowledgeRecord t b r).node = s.node ∧ (s.acknowledgeRecord t b r).areas = s.areas ∧
      (s.acknowledgeRecord t b r).lastLost = s.lastLost ∧ (s.acknowledgeRecord t b r).signOn = s.signOn ∧
      (s.acknowledgeRecord t b r).clock = s.clock ∧ (s.acknowledgeRecord t b r).handover = s.handover ∧
      (s.acknowledgeRecord t b r).bus = s.bus ∧ (s.acknowledgeRecord t b r).tx = s.tx ∧
      (s.acknowledgeRecord t b r).peers = s.peers ∧ (s.acknowledgeRecord t b r).transfer = s.transfer ∧
      (s.acknowledgeRecord t b r).port = s.port ∧ (s.acknowledgeRecord t b r).second = s.second ∧
      (s.acknowledgeRecord t b r).freeCount = s.freeCount ∧ (s.acknowledgeRecord t b r).pending = s.pending := by
  unfold State.acknowledgeRecord
  try dsimp only
  repeat' split
  all_goals simp

@[simp] theorem State.stale_frame (s : State) (id : AlarmId) :
    (s.stale id).node = s.node ∧ (s.stale id).window = s.window ∧ (s.stale id).areas = s.areas ∧
      (s.stale id).lastLost = s.lastLost ∧ (s.stale id).signOn = s.signOn ∧ (s.stale id).clock = s.clock ∧
      (s.stale id).handover = s.handover ∧ (s.stale id).bus = s.bus ∧ (s.stale id).tx = s.tx ∧
      (s.stale id).peers = s.peers ∧ (s.stale id).transfer = s.transfer ∧ (s.stale id).second = s.second ∧
      (s.stale id).freeCount = s.freeCount ∧ (s.stale id).pending = s.pending := by
  unfold State.stale
  try dsimp only
  all_goals simp

@[simp] theorem State.ackEntry_frame (s : State) (t : Station) (b : Badge) (e : AckEntry) :
    (s.ackEntry t b e).node = s.node ∧ (s.ackEntry t b e).areas = s.areas ∧
      (s.ackEntry t b e).lastLost = s.lastLost ∧ (s.ackEntry t b e).signOn = s.signOn ∧
      (s.ackEntry t b e).clock = s.clock ∧ (s.ackEntry t b e).handover = s.handover ∧
      (s.ackEntry t b e).bus = s.bus ∧ (s.ackEntry t b e).tx = s.tx ∧ (s.ackEntry t b e).peers = s.peers ∧
      (s.ackEntry t b e).second = s.second ∧ (s.ackEntry t b e).freeCount = s.freeCount ∧
      (s.ackEntry t b e).pending = s.pending := by
  unfold State.ackEntry
  try dsimp only
  repeat' split
  all_goals simp

@[simp] theorem State.applyAcks_frame (s : State) (t : Station) (b : Badge) (es : List AckEntry) :
    (s.applyAcks t b es).node = s.node ∧ (s.applyAcks t b es).areas = s.areas ∧
      (s.applyAcks t b es).lastLost = s.lastLost ∧ (s.applyAcks t b es).signOn = s.signOn ∧
      (s.applyAcks t b es).clock = s.clock ∧ (s.applyAcks t b es).handover = s.handover ∧
      (s.applyAcks t b es).bus = s.bus ∧ (s.applyAcks t b es).tx = s.tx ∧ (s.applyAcks t b es).peers = s.peers ∧
      (s.applyAcks t b es).second = s.second ∧ (s.applyAcks t b es).freeCount = s.freeCount ∧
      (s.applyAcks t b es).pending = s.pending := by
  unfold State.applyAcks
  refine ⟨foldl_keeps State.node _ (by simp) _ s, foldl_keeps State.areas _ (by simp) _ s,
    foldl_keeps State.lastLost _ (by simp) _ s, foldl_keeps State.signOn _ (by simp) _ s,
    foldl_keeps State.clock _ (by simp) _ s, foldl_keeps State.handover _ (by simp) _ s,
    foldl_keeps State.bus _ (by simp) _ s, foldl_keeps State.tx _ (by simp) _ s,
    foldl_keeps State.peers _ (by simp) _ s, foldl_keeps State.second _ (by simp) _ s,
    foldl_keeps State.freeCount _ (by simp) _ s, foldl_keeps State.pending _ (by simp) _ s⟩

@[simp] theorem State.applyShelve_frame (s : State) (t : Station) (id : AlarmId) (m : Half) (b : Badge) :
    (s.applyShelve t id m b).node = s.node ∧ (s.applyShelve t id m b).areas = s.areas ∧
      (s.applyShelve t id m b).lastLost = s.lastLost ∧ (s.applyShelve t id m b).signOn = s.signOn ∧
      (s.applyShelve t id m b).clock = s.clock ∧ (s.applyShelve t id m b).handover = s.handover ∧
      (s.applyShelve t id m b).bus = s.bus ∧ (s.applyShelve t id m b).tx = s.tx ∧
      (s.applyShelve t id m b).peers = s.peers ∧ (s.applyShelve t id m b).transfer = s.transfer ∧
      (s.applyShelve t id m b).port = s.port ∧ (s.applyShelve t id m b).second = s.second ∧
      (s.applyShelve t id m b).freeCount = s.freeCount ∧ (s.applyShelve t id m b).pending = s.pending := by
  unfold State.applyShelve
  try dsimp only
  repeat' split
  all_goals simp

@[simp] theorem State.unshelveRecord_frame (s : State) (f : Bool) (r : AlarmRecord) :
    (s.unshelveRecord f r).node = s.node ∧ (s.unshelveRecord f r).areas = s.areas ∧
      (s.unshelveRecord f r).lastLost = s.lastLost ∧ (s.unshelveRecord f r).signOn = s.signOn ∧
      (s.unshelveRecord f r).clock = s.clock ∧ (s.unshelveRecord f r).handover = s.handover ∧
      (s.unshelveRecord f r).bus = s.bus ∧ (s.unshelveRecord f r).tx = s.tx ∧
      (s.unshelveRecord f r).peers = s.peers ∧ (s.unshelveRecord f r).transfer = s.transfer ∧
      (s.unshelveRecord f r).port = s.port ∧ (s.unshelveRecord f r).second = s.second ∧
      (s.unshelveRecord f r).freeCount = s.freeCount ∧ (s.unshelveRecord f r).pending = s.pending := by
  unfold State.unshelveRecord
  try dsimp only
  repeat' split
  all_goals simp

@[simp] theorem State.applyUnshelve_frame (s : State) (id : AlarmId) :
    (s.applyUnshelve id).node = s.node ∧ (s.applyUnshelve id).areas = s.areas ∧
      (s.applyUnshelve id).lastLost = s.lastLost ∧ (s.applyUnshelve id).signOn = s.signOn ∧
      (s.applyUnshelve id).clock = s.clock ∧ (s.applyUnshelve id).handover = s.handover ∧
      (s.applyUnshelve id).bus = s.bus ∧ (s.applyUnshelve id).tx = s.tx ∧ (s.applyUnshelve id).peers = s.peers ∧
      (s.applyUnshelve id).transfer = s.transfer ∧ (s.applyUnshelve id).port = s.port ∧
      (s.applyUnshelve id).second = s.second ∧ (s.applyUnshelve id).freeCount = s.freeCount ∧
      (s.applyUnshelve id).pending = s.pending := by
  unfold State.applyUnshelve
  try dsimp only
  repeat' split
  all_goals simp

@[simp] theorem State.floodFound_frame (s : State) (a : Nat) :
    ((s.floodFound a).2).node = s.node ∧ ((s.floodFound a).2).picture = s.picture ∧
      ((s.floodFound a).2).window = s.window ∧ ((s.floodFound a).2).areas = s.areas ∧
      ((s.floodFound a).2).lastLost = s.lastLost ∧ ((s.floodFound a).2).signOn = s.signOn ∧
      ((s.floodFound a).2).clock = s.clock ∧ ((s.floodFound a).2).handover = s.handover ∧
      ((s.floodFound a).2).bus = s.bus ∧ ((s.floodFound a).2).tx = s.tx ∧ ((s.floodFound a).2).peers = s.peers ∧
      ((s.floodFound a).2).transfer = s.transfer ∧ ((s.floodFound a).2).port = s.port ∧
      ((s.floodFound a).2).second = s.second ∧ ((s.floodFound a).2).pending = s.pending := by
  unfold State.floodFound
  try dsimp only
  repeat' split
  all_goals simp

@[simp] theorem State.expireShelf_frame (s : State) (id : AlarmId) :
    (s.expireShelf id).node = s.node ∧ (s.expireShelf id).areas = s.areas ∧
      (s.expireShelf id).lastLost = s.lastLost ∧ (s.expireShelf id).signOn = s.signOn ∧
      (s.expireShelf id).clock = s.clock ∧ (s.expireShelf id).handover = s.handover ∧
      (s.expireShelf id).bus = s.bus ∧ (s.expireShelf id).tx = s.tx ∧ (s.expireShelf id).peers = s.peers ∧
      (s.expireShelf id).transfer = s.transfer ∧ (s.expireShelf id).port = s.port ∧
      (s.expireShelf id).second = s.second ∧ (s.expireShelf id).pending = s.pending := by
  unfold State.expireShelf
  try dsimp only
  repeat' split
  all_goals simp

@[simp] theorem State.expireShelves_frame (s : State) :
    (s.expireShelves).node = s.node ∧ (s.expireShelves).areas = s.areas ∧
      (s.expireShelves).lastLost = s.lastLost ∧ (s.expireShelves).signOn = s.signOn ∧
      (s.expireShelves).clock = s.clock ∧ (s.expireShelves).handover = s.handover ∧
      (s.expireShelves).bus = s.bus ∧ (s.expireShelves).tx = s.tx ∧ (s.expireShelves).peers = s.peers ∧
      (s.expireShelves).transfer = s.transfer ∧ (s.expireShelves).port = s.port ∧
      (s.expireShelves).second = s.second ∧ (s.expireShelves).pending = s.pending := by
  unfold State.expireShelves
  refine ⟨foldl_keeps State.node _ (by simp) _ s, foldl_keeps State.areas _ (by simp) _ s,
    foldl_keeps State.lastLost _ (by simp) _ s, foldl_keeps State.signOn _ (by simp) _ s,
    foldl_keeps State.clock _ (by simp) _ s, foldl_keeps State.handover _ (by simp) _ s,
    foldl_keeps State.bus _ (by simp) _ s, foldl_keeps State.tx _ (by simp) _ s,
    foldl_keeps State.peers _ (by simp) _ s, foldl_keeps State.transfer _ (by simp) _ s,
    foldl_keeps State.port _ (by simp) _ s, foldl_keeps State.second _ (by simp) _ s,
    foldl_keeps State.pending _ (by simp) _ s⟩

@[simp] theorem State.escalate_frame (s : State) (r : AlarmRecord) :
    (s.escalate r).node = s.node ∧ (s.escalate r).window = s.window ∧ (s.escalate r).areas = s.areas ∧
      (s.escalate r).lastLost = s.lastLost ∧ (s.escalate r).signOn = s.signOn ∧ (s.escalate r).clock = s.clock ∧
      (s.escalate r).handover = s.handover ∧ (s.escalate r).bus = s.bus ∧ (s.escalate r).tx = s.tx ∧
      (s.escalate r).peers = s.peers ∧ (s.escalate r).transfer = s.transfer ∧ (s.escalate r).second = s.second ∧
      (s.escalate r).freeCount = s.freeCount ∧ (s.escalate r).pending = s.pending := by
  unfold State.escalate
  try dsimp only
  repeat' split
  all_goals simp

@[simp] theorem State.testDeadline_frame (s : State) (id : AlarmId) :
    (s.testDeadline id).node = s.node ∧ (s.testDeadline id).window = s.window ∧
      (s.testDeadline id).areas = s.areas ∧ (s.testDeadline id).lastLost = s.lastLost ∧
      (s.testDeadline id).signOn = s.signOn ∧ (s.testDeadline id).clock = s.clock ∧
      (s.testDeadline id).handover = s.handover ∧ (s.testDeadline id).bus = s.bus ∧
      (s.testDeadline id).tx = s.tx ∧ (s.testDeadline id).peers = s.peers ∧
      (s.testDeadline id).transfer = s.transfer ∧ (s.testDeadline id).second = s.second ∧
      (s.testDeadline id).pending = s.pending := by
  unfold State.testDeadline
  try dsimp only
  repeat' split
  all_goals simp

@[simp] theorem State.testDeadlines_frame (s : State) :
    (s.testDeadlines).node = s.node ∧ (s.testDeadlines).window = s.window ∧ (s.testDeadlines).areas = s.areas ∧
      (s.testDeadlines).lastLost = s.lastLost ∧ (s.testDeadlines).signOn = s.signOn ∧
      (s.testDeadlines).clock = s.clock ∧ (s.testDeadlines).handover = s.handover ∧
      (s.testDeadlines).bus = s.bus ∧ (s.testDeadlines).tx = s.tx ∧ (s.testDeadlines).peers = s.peers ∧
      (s.testDeadlines).transfer = s.transfer ∧ (s.testDeadlines).second = s.second ∧
      (s.testDeadlines).pending = s.pending := by
  unfold State.testDeadlines
  refine ⟨foldl_keeps State.node _ (by simp) _ s, foldl_keeps State.window _ (by simp) _ s,
    foldl_keeps State.areas _ (by simp) _ s, foldl_keeps State.lastLost _ (by simp) _ s,
    foldl_keeps State.signOn _ (by simp) _ s, foldl_keeps State.clock _ (by simp) _ s,
    foldl_keeps State.handover _ (by simp) _ s, foldl_keeps State.bus _ (by simp) _ s,
    foldl_keeps State.tx _ (by simp) _ s, foldl_keeps State.peers _ (by simp) _ s,
    foldl_keeps State.transfer _ (by simp) _ s, foldl_keeps State.second _ (by simp) _ s,
    foldl_keeps State.pending _ (by simp) _ s⟩

/-! ### Handover controller -/

@[simp] theorem State.endOut_frame (s : State) (o : OutOffer) (e : OfferEnd) :
    (s.endOut o e).node = s.node ∧ (s.endOut o e).picture = s.picture ∧ (s.endOut o e).window = s.window ∧
      (s.endOut o e).areas = s.areas ∧ (s.endOut o e).lastLost = s.lastLost ∧ (s.endOut o e).signOn = s.signOn ∧
      (s.endOut o e).clock = s.clock ∧ (s.endOut o e).bus = s.bus ∧ (s.endOut o e).tx = s.tx ∧
      (s.endOut o e).peers = s.peers ∧ (s.endOut o e).transfer = s.transfer ∧ (s.endOut o e).second = s.second ∧
      (s.endOut o e).freeCount = s.freeCount ∧ (s.endOut o e).pending = s.pending := by
  unfold State.endOut
  try dsimp only
  all_goals simp

@[simp] theorem State.endIn_frame (s : State) (o : InOffer) (e : OfferEnd) :
    (s.endIn o e).node = s.node ∧ (s.endIn o e).picture = s.picture ∧ (s.endIn o e).window = s.window ∧
      (s.endIn o e).areas = s.areas ∧ (s.endIn o e).lastLost = s.lastLost ∧ (s.endIn o e).signOn = s.signOn ∧
      (s.endIn o e).clock = s.clock ∧ (s.endIn o e).bus = s.bus ∧ (s.endIn o e).tx = s.tx ∧
      (s.endIn o e).peers = s.peers ∧ (s.endIn o e).transfer = s.transfer ∧ (s.endIn o e).second = s.second ∧
      (s.endIn o e).freeCount = s.freeCount ∧ (s.endIn o e).pending = s.pending := by
  unfold State.endIn
  try dsimp only
  all_goals simp

@[simp] theorem State.endSeat_frame (s : State) (n : Byte) (e : OfferEnd) :
    (s.endSeat n e).node = s.node ∧ (s.endSeat n e).picture = s.picture ∧ (s.endSeat n e).window = s.window ∧
      (s.endSeat n e).areas = s.areas ∧ (s.endSeat n e).lastLost = s.lastLost ∧
      (s.endSeat n e).signOn = s.signOn ∧ (s.endSeat n e).clock = s.clock ∧ (s.endSeat n e).bus = s.bus ∧
      (s.endSeat n e).tx = s.tx ∧ (s.endSeat n e).peers = s.peers ∧ (s.endSeat n e).transfer = s.transfer ∧
      (s.endSeat n e).second = s.second ∧ (s.endSeat n e).freeCount = s.freeCount ∧
      (s.endSeat n e).pending = s.pending := by
  unfold State.endSeat
  try dsimp only
  all_goals simp

@[simp] theorem State.dropOffer_frame (s : State) (o : OutOffer) (e : OfferEnd) :
    (s.dropOffer o e).node = s.node ∧ (s.dropOffer o e).picture = s.picture ∧
      (s.dropOffer o e).window = s.window ∧ (s.dropOffer o e).areas = s.areas ∧
      (s.dropOffer o e).lastLost = s.lastLost ∧ (s.dropOffer o e).signOn = s.signOn ∧
      (s.dropOffer o e).clock = s.clock ∧ (s.dropOffer o e).bus = s.bus ∧ (s.dropOffer o e).peers = s.peers ∧
      (s.dropOffer o e).transfer = s.transfer ∧ (s.dropOffer o e).second = s.second ∧
      (s.dropOffer o e).freeCount = s.freeCount ∧ (s.dropOffer o e).pending = s.pending := by
  unfold State.dropOffer
  try dsimp only
  repeat' split
  all_goals simp

/-- Work of a second event changes what it changes; the mark of a firing stands in the handover controller (R62). -/
@[simp] theorem State.bySecond_frame (s : State) (f : State → State) :
    (s.bySecond f).node = (f s).node ∧ (s.bySecond f).picture = (f s).picture ∧
      (s.bySecond f).window = (f s).window ∧ (s.bySecond f).areas = (f s).areas ∧
      (s.bySecond f).lastLost = (f s).lastLost ∧ (s.bySecond f).signOn = (f s).signOn ∧
      (s.bySecond f).clock = (f s).clock ∧ (s.bySecond f).bus = (f s).bus ∧
      (s.bySecond f).tx = (f s).tx ∧ (s.bySecond f).peers = (f s).peers ∧
      (s.bySecond f).transfer = (f s).transfer ∧ (s.bySecond f).port = (f s).port ∧
      (s.bySecond f).second = (f s).second ∧ (s.bySecond f).freeCount = (f s).freeCount ∧
      (s.bySecond f).pending = (f s).pending := by
  unfold State.bySecond
  dsimp only
  split <;> simp

/-- Work of a second event leaves the handover controller as it leaves it, but for the mark of a firing (R62). -/
theorem State.bySecond_handover (s : State) (f : State → State) :
    (s.bySecond f).handover = { (f s).handover with
      fireBySecond := (f s).handover.fireBySecond || ((f s).dueToFire && !s.dueToFire) } := by
  unfold State.bySecond
  dsimp only
  cases (f s).dueToFire && !s.dueToFire <;> simp

@[simp] theorem State.makeRemoteOffer_frame (s : State) (t : Station) (m : AreaSet) :
    (s.makeRemoteOffer t m).node = s.node ∧ (s.makeRemoteOffer t m).picture = s.picture ∧
      (s.makeRemoteOffer t m).window = s.window ∧ (s.makeRemoteOffer t m).areas = s.areas ∧
      (s.makeRemoteOffer t m).lastLost = s.lastLost ∧ (s.makeRemoteOffer t m).signOn = s.signOn ∧
      (s.makeRemoteOffer t m).clock = s.clock ∧ (s.makeRemoteOffer t m).bus = s.bus ∧
      (s.makeRemoteOffer t m).peers = s.peers ∧ (s.makeRemoteOffer t m).transfer = s.transfer ∧
      (s.makeRemoteOffer t m).port = s.port ∧ (s.makeRemoteOffer t m).second = s.second ∧
      (s.makeRemoteOffer t m).freeCount = s.freeCount ∧ (s.makeRemoteOffer t m).pending = s.pending := by
  unfold State.makeRemoteOffer
  try dsimp only
  all_goals simp

@[simp] theorem State.makeSeatOffer_frame (s : State) :
    (s.makeSeatOffer).node = s.node ∧ (s.makeSeatOffer).picture = s.picture ∧
      (s.makeSeatOffer).window = s.window ∧ (s.makeSeatOffer).areas = s.areas ∧
      (s.makeSeatOffer).lastLost = s.lastLost ∧ (s.makeSeatOffer).signOn = s.signOn ∧
      (s.makeSeatOffer).clock = s.clock ∧ (s.makeSeatOffer).bus = s.bus ∧ (s.makeSeatOffer).tx = s.tx ∧
      (s.makeSeatOffer).peers = s.peers ∧ (s.makeSeatOffer).transfer = s.transfer ∧
      (s.makeSeatOffer).second = s.second ∧ (s.makeSeatOffer).freeCount = s.freeCount ∧
      (s.makeSeatOffer).pending = s.pending := by
  unfold State.makeSeatOffer
  try dsimp only
  all_goals simp

@[simp] theorem State.makeOffer_frame (s : State) (t : Station) (m : AreaSet) :
    (s.makeOffer t m).node = s.node ∧ (s.makeOffer t m).picture = s.picture ∧
      (s.makeOffer t m).window = s.window ∧ (s.makeOffer t m).areas = s.areas ∧
      (s.makeOffer t m).lastLost = s.lastLost ∧ (s.makeOffer t m).signOn = s.signOn ∧
      (s.makeOffer t m).clock = s.clock ∧ (s.makeOffer t m).bus = s.bus ∧ (s.makeOffer t m).peers = s.peers ∧
      (s.makeOffer t m).transfer = s.transfer ∧ (s.makeOffer t m).second = s.second ∧
      (s.makeOffer t m).freeCount = s.freeCount ∧ (s.makeOffer t m).pending = s.pending := by
  unfold State.makeOffer
  try dsimp only
  repeat' split
  all_goals simp

@[simp] theorem State.applyOffer_frame (s : State) (f : Station) (n : Byte) (t : Station) (b : Badge) (m : AreaSet) (xs : List OfferSummary) :
    (s.applyOffer f n t b m xs).node = s.node ∧ (s.applyOffer f n t b m xs).picture = s.picture ∧
      (s.applyOffer f n t b m xs).window = s.window ∧ (s.applyOffer f n t b m xs).areas = s.areas ∧
      (s.applyOffer f n t b m xs).lastLost = s.lastLost ∧ (s.applyOffer f n t b m xs).signOn = s.signOn ∧
      (s.applyOffer f n t b m xs).clock = s.clock ∧ (s.applyOffer f n t b m xs).bus = s.bus ∧
      (s.applyOffer f n t b m xs).peers = s.peers ∧ (s.applyOffer f n t b m xs).transfer = s.transfer ∧
      (s.applyOffer f n t b m xs).second = s.second ∧ (s.applyOffer f n t b m xs).freeCount = s.freeCount ∧
      (s.applyOffer f n t b m xs).pending = s.pending := by
  unfold State.applyOffer
  try dsimp only
  repeat' split
  all_goals simp

@[simp] theorem State.answerAccepted_frame (s : State) (t : Station) (b : Badge) (o : OutOffer) :
    (s.answerAccepted t b o).node = s.node ∧ (s.answerAccepted t b o).picture = s.picture ∧
      (s.answerAccepted t b o).window = s.window ∧ (s.answerAccepted t b o).areas = s.areas ∧
      (s.answerAccepted t b o).lastLost = s.lastLost ∧ (s.answerAccepted t b o).signOn = s.signOn ∧
      (s.answerAccepted t b o).clock = s.clock ∧ (s.answerAccepted t b o).bus = s.bus ∧
      (s.answerAccepted t b o).peers = s.peers ∧ (s.answerAccepted t b o).transfer = s.transfer ∧
      (s.answerAccepted t b o).second = s.second ∧ (s.answerAccepted t b o).freeCount = s.freeCount ∧
      (s.answerAccepted t b o).pending = s.pending := by
  unfold State.answerAccepted
  try dsimp only
  repeat' split
  all_goals simp

@[simp] theorem State.applyAnswer_frame (s : State) (t : Station) (o : Station) (n d r : Byte) (b : Badge) :
    (s.applyAnswer t o n d r b).node = s.node ∧ (s.applyAnswer t o n d r b).picture = s.picture ∧
      (s.applyAnswer t o n d r b).window = s.window ∧ (s.applyAnswer t o n d r b).areas = s.areas ∧
      (s.applyAnswer t o n d r b).lastLost = s.lastLost ∧ (s.applyAnswer t o n d r b).signOn = s.signOn ∧
      (s.applyAnswer t o n d r b).clock = s.clock ∧ (s.applyAnswer t o n d r b).bus = s.bus ∧
      (s.applyAnswer t o n d r b).peers = s.peers ∧ (s.applyAnswer t o n d r b).transfer = s.transfer ∧
      (s.applyAnswer t o n d r b).second = s.second ∧ (s.applyAnswer t o n d r b).freeCount = s.freeCount ∧
      (s.applyAnswer t o n d r b).pending = s.pending := by
  unfold State.applyAnswer
  try dsimp only
  repeat' split
  all_goals simp

@[simp] theorem State.applyWithdraw_frame (s : State) (f : Station) (n : Byte) (t : Station) :
    (s.applyWithdraw f n t).node = s.node ∧ (s.applyWithdraw f n t).picture = s.picture ∧
      (s.applyWithdraw f n t).window = s.window ∧ (s.applyWithdraw f n t).areas = s.areas ∧
      (s.applyWithdraw f n t).lastLost = s.lastLost ∧ (s.applyWithdraw f n t).signOn = s.signOn ∧
      (s.applyWithdraw f n t).clock = s.clock ∧ (s.applyWithdraw f n t).bus = s.bus ∧
      (s.applyWithdraw f n t).tx = s.tx ∧ (s.applyWithdraw f n t).peers = s.peers ∧
      (s.applyWithdraw f n t).transfer = s.transfer ∧ (s.applyWithdraw f n t).second = s.second ∧
      (s.applyWithdraw f n t).freeCount = s.freeCount ∧ (s.applyWithdraw f n t).pending = s.pending := by
  unfold State.applyWithdraw
  try dsimp only
  repeat' split
  all_goals simp

@[simp] theorem State.offerTimer_frame (s : State) :
    (s.offerTimer).node = s.node ∧ (s.offerTimer).picture = s.picture ∧ (s.offerTimer).window = s.window ∧
      (s.offerTimer).areas = s.areas ∧ (s.offerTimer).lastLost = s.lastLost ∧ (s.offerTimer).signOn = s.signOn ∧
      (s.offerTimer).clock = s.clock ∧ (s.offerTimer).bus = s.bus ∧ (s.offerTimer).peers = s.peers ∧
      (s.offerTimer).transfer = s.transfer ∧ (s.offerTimer).second = s.second ∧
      (s.offerTimer).freeCount = s.freeCount ∧ (s.offerTimer).pending = s.pending := by
  unfold State.offerTimer
  try dsimp only
  repeat' split
  all_goals simp

@[simp] theorem State.decisionTimer_frame (s : State) :
    (s.decisionTimer).node = s.node ∧ (s.decisionTimer).picture = s.picture ∧
      (s.decisionTimer).window = s.window ∧ (s.decisionTimer).areas = s.areas ∧
      (s.decisionTimer).lastLost = s.lastLost ∧ (s.decisionTimer).signOn = s.signOn ∧
      (s.decisionTimer).clock = s.clock ∧ (s.decisionTimer).bus = s.bus ∧ (s.decisionTimer).peers = s.peers ∧
      (s.decisionTimer).transfer = s.transfer ∧ (s.decisionTimer).second = s.second ∧
      (s.decisionTimer).freeCount = s.freeCount ∧ (s.decisionTimer).pending = s.pending := by
  unfold State.decisionTimer
  try dsimp only
  repeat' split
  all_goals simp

@[simp] theorem State.commitTimer_frame (s : State) :
    (s.commitTimer).node = s.node ∧ (s.commitTimer).picture = s.picture ∧ (s.commitTimer).window = s.window ∧
      (s.commitTimer).areas = s.areas ∧ (s.commitTimer).lastLost = s.lastLost ∧
      (s.commitTimer).signOn = s.signOn ∧ (s.commitTimer).clock = s.clock ∧ (s.commitTimer).bus = s.bus ∧
      (s.commitTimer).tx = s.tx ∧ (s.commitTimer).peers = s.peers ∧ (s.commitTimer).transfer = s.transfer ∧
      (s.commitTimer).second = s.second ∧ (s.commitTimer).freeCount = s.freeCount ∧
      (s.commitTimer).pending = s.pending := by
  unfold State.commitTimer
  try dsimp only
  repeat' split
  all_goals simp

@[simp] theorem State.lossOut_frame (s : State) (t : Station) :
    (s.lossOut t).node = s.node ∧ (s.lossOut t).picture = s.picture ∧ (s.lossOut t).window = s.window ∧
      (s.lossOut t).areas = s.areas ∧ (s.lossOut t).lastLost = s.lastLost ∧ (s.lossOut t).signOn = s.signOn ∧
      (s.lossOut t).clock = s.clock ∧ (s.lossOut t).bus = s.bus ∧ (s.lossOut t).peers = s.peers ∧
      (s.lossOut t).transfer = s.transfer ∧ (s.lossOut t).second = s.second ∧
      (s.lossOut t).freeCount = s.freeCount ∧ (s.lossOut t).pending = s.pending := by
  unfold State.lossOut
  try dsimp only
  repeat' split
  all_goals simp

@[simp] theorem State.lossIn_frame (s : State) (t : Station) :
    (s.lossIn t).node = s.node ∧ (s.lossIn t).picture = s.picture ∧ (s.lossIn t).window = s.window ∧
      (s.lossIn t).areas = s.areas ∧ (s.lossIn t).lastLost = s.lastLost ∧ (s.lossIn t).signOn = s.signOn ∧
      (s.lossIn t).clock = s.clock ∧ (s.lossIn t).bus = s.bus ∧ (s.lossIn t).tx = s.tx ∧
      (s.lossIn t).peers = s.peers ∧ (s.lossIn t).transfer = s.transfer ∧ (s.lossIn t).second = s.second ∧
      (s.lossIn t).freeCount = s.freeCount ∧ (s.lossIn t).pending = s.pending := by
  unfold State.lossIn
  try dsimp only
  repeat' split
  all_goals simp

@[simp] theorem State.lossNotice_frame (s : State) (t : Station) :
    (s.lossNotice t).node = s.node ∧ (s.lossNotice t).picture = s.picture ∧ (s.lossNotice t).window = s.window ∧
      (s.lossNotice t).areas = s.areas ∧ (s.lossNotice t).lastLost = s.lastLost ∧
      (s.lossNotice t).signOn = s.signOn ∧ (s.lossNotice t).clock = s.clock ∧ (s.lossNotice t).bus = s.bus ∧
      (s.lossNotice t).peers = s.peers ∧ (s.lossNotice t).transfer = s.transfer ∧
      (s.lossNotice t).second = s.second ∧ (s.lossNotice t).freeCount = s.freeCount ∧
      (s.lossNotice t).pending = s.pending := by
  unfold State.lossNotice
  try dsimp only
  all_goals simp

@[simp] theorem State.ownDarkOut_frame (s : State) :
    (s.ownDarkOut).node = s.node ∧ (s.ownDarkOut).picture = s.picture ∧ (s.ownDarkOut).window = s.window ∧
      (s.ownDarkOut).areas = s.areas ∧ (s.ownDarkOut).lastLost = s.lastLost ∧ (s.ownDarkOut).signOn = s.signOn ∧
      (s.ownDarkOut).clock = s.clock ∧ (s.ownDarkOut).bus = s.bus ∧ (s.ownDarkOut).peers = s.peers ∧
      (s.ownDarkOut).transfer = s.transfer ∧ (s.ownDarkOut).second = s.second ∧
      (s.ownDarkOut).freeCount = s.freeCount ∧ (s.ownDarkOut).pending = s.pending := by
  unfold State.ownDarkOut
  try dsimp only
  repeat' split
  all_goals simp

@[simp] theorem State.ownDarkIn_frame (s : State) :
    (s.ownDarkIn).node = s.node ∧ (s.ownDarkIn).picture = s.picture ∧ (s.ownDarkIn).window = s.window ∧
      (s.ownDarkIn).areas = s.areas ∧ (s.ownDarkIn).lastLost = s.lastLost ∧ (s.ownDarkIn).signOn = s.signOn ∧
      (s.ownDarkIn).clock = s.clock ∧ (s.ownDarkIn).bus = s.bus ∧ (s.ownDarkIn).peers = s.peers ∧
      (s.ownDarkIn).transfer = s.transfer ∧ (s.ownDarkIn).second = s.second ∧
      (s.ownDarkIn).freeCount = s.freeCount ∧ (s.ownDarkIn).pending = s.pending := by
  unfold State.ownDarkIn
  try dsimp only
  repeat' split
  all_goals simp

@[simp] theorem State.ownDark_frame (s : State) :
    (s.ownDark).node = s.node ∧ (s.ownDark).picture = s.picture ∧ (s.ownDark).window = s.window ∧
      (s.ownDark).areas = s.areas ∧ (s.ownDark).lastLost = s.lastLost ∧ (s.ownDark).signOn = s.signOn ∧
      (s.ownDark).clock = s.clock ∧ (s.ownDark).bus = s.bus ∧ (s.ownDark).peers = s.peers ∧
      (s.ownDark).transfer = s.transfer ∧ (s.ownDark).second = s.second ∧ (s.ownDark).freeCount = s.freeCount ∧
      (s.ownDark).pending = s.pending := by
  unfold State.ownDark
  try dsimp only
  all_goals simp

@[simp] theorem State.areaLost_frame (s : State) (a : Nat) :
    (s.areaLost a).node = s.node ∧ (s.areaLost a).picture = s.picture ∧ (s.areaLost a).window = s.window ∧
      (s.areaLost a).areas = s.areas ∧ (s.areaLost a).lastLost = s.lastLost ∧ (s.areaLost a).signOn = s.signOn ∧
      (s.areaLost a).clock = s.clock ∧ (s.areaLost a).bus = s.bus ∧ (s.areaLost a).peers = s.peers ∧
      (s.areaLost a).transfer = s.transfer ∧ (s.areaLost a).second = s.second ∧
      (s.areaLost a).freeCount = s.freeCount ∧ (s.areaLost a).pending = s.pending := by
  unfold State.areaLost
  try dsimp only
  repeat' split
  all_goals simp

@[simp] theorem State.operatorGone_frame (s : State) :
    (s.operatorGone).node = s.node ∧ (s.operatorGone).picture = s.picture ∧ (s.operatorGone).window = s.window ∧
      (s.operatorGone).areas = s.areas ∧ (s.operatorGone).lastLost = s.lastLost ∧
      (s.operatorGone).signOn = s.signOn ∧ (s.operatorGone).clock = s.clock ∧ (s.operatorGone).bus = s.bus ∧
      (s.operatorGone).peers = s.peers ∧ (s.operatorGone).transfer = s.transfer ∧
      (s.operatorGone).second = s.second ∧ (s.operatorGone).freeCount = s.freeCount ∧
      (s.operatorGone).pending = s.pending := by
  unfold State.operatorGone
  try dsimp only
  repeat' split
  all_goals simp

@[simp] theorem State.reliefGone_frame (s : State) :
    (s.reliefGone).node = s.node ∧ (s.reliefGone).picture = s.picture ∧ (s.reliefGone).window = s.window ∧
      (s.reliefGone).areas = s.areas ∧ (s.reliefGone).lastLost = s.lastLost ∧ (s.reliefGone).signOn = s.signOn ∧
      (s.reliefGone).clock = s.clock ∧ (s.reliefGone).bus = s.bus ∧ (s.reliefGone).tx = s.tx ∧
      (s.reliefGone).peers = s.peers ∧ (s.reliefGone).transfer = s.transfer ∧ (s.reliefGone).second = s.second ∧
      (s.reliefGone).freeCount = s.freeCount ∧ (s.reliefGone).pending = s.pending := by
  unfold State.reliefGone
  try dsimp only
  repeat' split
  all_goals simp

@[simp] theorem State.activeChanged_frame (s : State) :
    (s.activeChanged).node = s.node ∧ (s.activeChanged).window = s.window ∧ (s.activeChanged).areas = s.areas ∧
      (s.activeChanged).lastLost = s.lastLost ∧ (s.activeChanged).signOn = s.signOn ∧
      (s.activeChanged).handover = s.handover ∧ (s.activeChanged).bus = s.bus ∧ (s.activeChanged).tx = s.tx ∧
      (s.activeChanged).peers = s.peers ∧ (s.activeChanged).transfer = s.transfer ∧
      (s.activeChanged).port = s.port ∧ (s.activeChanged).second = s.second ∧
      (s.activeChanged).freeCount = s.freeCount ∧ (s.activeChanged).pending = s.pending := by
  unfold State.activeChanged
  try dsimp only
  all_goals simp

@[simp] theorem State.promote_frame (s : State) :
    (s.promote).node = s.node ∧ (s.promote).window = s.window ∧ (s.promote).areas = s.areas ∧
      (s.promote).lastLost = s.lastLost ∧ (s.promote).handover = s.handover ∧ (s.promote).bus = s.bus ∧
      (s.promote).tx = s.tx ∧ (s.promote).peers = s.peers ∧ (s.promote).transfer = s.transfer ∧
      (s.promote).port = s.port ∧ (s.promote).second = s.second ∧ (s.promote).freeCount = s.freeCount ∧
      (s.promote).pending = s.pending := by
  unfold State.promote
  try dsimp only
  repeat' split
  all_goals simp

@[simp] theorem State.rebadgeOne_frame (s : State) :
    (s.rebadgeOne).node = s.node ∧ (s.rebadgeOne).picture = s.picture ∧ (s.rebadgeOne).window = s.window ∧
      (s.rebadgeOne).areas = s.areas ∧ (s.rebadgeOne).lastLost = s.lastLost ∧ (s.rebadgeOne).signOn = s.signOn ∧
      (s.rebadgeOne).clock = s.clock ∧ (s.rebadgeOne).bus = s.bus ∧ (s.rebadgeOne).peers = s.peers ∧
      (s.rebadgeOne).transfer = s.transfer ∧ (s.rebadgeOne).port = s.port ∧ (s.rebadgeOne).second = s.second ∧
      (s.rebadgeOne).freeCount = s.freeCount ∧ (s.rebadgeOne).pending = s.pending := by
  unfold State.rebadgeOne
  try dsimp only
  repeat' split
  all_goals simp

@[simp] theorem State.rebadgeMany_frame (n : Nat) : ∀ s : State,
    (State.rebadgeMany n s).node = s.node ∧ (State.rebadgeMany n s).picture = s.picture ∧
      (State.rebadgeMany n s).window = s.window ∧ (State.rebadgeMany n s).areas = s.areas ∧
      (State.rebadgeMany n s).lastLost = s.lastLost ∧ (State.rebadgeMany n s).signOn = s.signOn ∧
      (State.rebadgeMany n s).clock = s.clock ∧ (State.rebadgeMany n s).bus = s.bus ∧
      (State.rebadgeMany n s).peers = s.peers ∧ (State.rebadgeMany n s).transfer = s.transfer ∧
      (State.rebadgeMany n s).port = s.port ∧ (State.rebadgeMany n s).second = s.second ∧
      (State.rebadgeMany n s).freeCount = s.freeCount ∧ (State.rebadgeMany n s).pending = s.pending := by
  induction n with
  | zero => intro s; simp [State.rebadgeMany]
  | succ n ih => intro s; simp [State.rebadgeMany, ih]

@[simp] theorem State.commitSeat_frame (s : State) (n : Byte) :
    (s.commitSeat n).node = s.node ∧ (s.commitSeat n).window = s.window ∧ (s.commitSeat n).areas = s.areas ∧
      (s.commitSeat n).lastLost = s.lastLost ∧ (s.commitSeat n).bus = s.bus ∧ (s.commitSeat n).peers = s.peers ∧
      (s.commitSeat n).transfer = s.transfer ∧ (s.commitSeat n).second = s.second ∧
      (s.commitSeat n).freeCount = s.freeCount ∧ (s.commitSeat n).pending = s.pending := by
  unfold State.commitSeat
  try dsimp only
  all_goals simp

@[simp] theorem State.startNotice_frame (s : State) :
    (s.startNotice).node = s.node ∧ (s.startNotice).picture = s.picture ∧ (s.startNotice).window = s.window ∧
      (s.startNotice).areas = s.areas ∧ (s.startNotice).lastLost = s.lastLost ∧
      (s.startNotice).signOn = s.signOn ∧ (s.startNotice).clock = s.clock ∧ (s.startNotice).bus = s.bus ∧
      (s.startNotice).tx = s.tx ∧ (s.startNotice).peers = s.peers ∧ (s.startNotice).transfer = s.transfer ∧
      (s.startNotice).port = s.port ∧ (s.startNotice).second = s.second ∧
      (s.startNotice).freeCount = s.freeCount ∧ (s.startNotice).pending = s.pending := by
  unfold State.startNotice
  try dsimp only
  repeat' split
  all_goals simp

@[simp] theorem State.reachSchedule_frame (s : State) :
    (s.reachSchedule).node = s.node ∧ (s.reachSchedule).picture = s.picture ∧
      (s.reachSchedule).window = s.window ∧ (s.reachSchedule).areas = s.areas ∧
      (s.reachSchedule).lastLost = s.lastLost ∧ (s.reachSchedule).signOn = s.signOn ∧
      (s.reachSchedule).clock = s.clock ∧ (s.reachSchedule).bus = s.bus ∧ (s.reachSchedule).tx = s.tx ∧
      (s.reachSchedule).peers = s.peers ∧ (s.reachSchedule).transfer = s.transfer ∧
      (s.reachSchedule).port = s.port ∧ (s.reachSchedule).second = s.second ∧
      (s.reachSchedule).freeCount = s.freeCount ∧ (s.reachSchedule).pending = s.pending := by
  unfold State.reachSchedule
  try dsimp only
  repeat' split
  all_goals simp

@[simp] theorem State.fired_frame (s : State) (r : FireResult) :
    (s.fired r).node = s.node ∧ (s.fired r).picture = s.picture ∧ (s.fired r).window = s.window ∧
      (s.fired r).areas = s.areas ∧ (s.fired r).lastLost = s.lastLost ∧ (s.fired r).signOn = s.signOn ∧
      (s.fired r).clock = s.clock ∧ (s.fired r).bus = s.bus ∧ (s.fired r).tx = s.tx ∧
      (s.fired r).peers = s.peers ∧ (s.fired r).transfer = s.transfer ∧ (s.fired r).second = s.second ∧
      (s.fired r).freeCount = s.freeCount ∧ (s.fired r).pending = s.pending := by
  unfold State.fired
  try dsimp only
  all_goals simp

@[simp] theorem State.useFireChoices_frame (s : State) :
    (s.useFireChoices).node = s.node ∧ (s.useFireChoices).picture = s.picture ∧
      (s.useFireChoices).window = s.window ∧ (s.useFireChoices).areas = s.areas ∧
      (s.useFireChoices).lastLost = s.lastLost ∧ (s.useFireChoices).signOn = s.signOn ∧
      (s.useFireChoices).clock = s.clock ∧ (s.useFireChoices).handover = s.handover ∧
      (s.useFireChoices).bus = s.bus ∧ (s.useFireChoices).tx = s.tx ∧ (s.useFireChoices).peers = s.peers ∧
      (s.useFireChoices).transfer = s.transfer ∧ (s.useFireChoices).port = s.port ∧
      (s.useFireChoices).second = s.second ∧ (s.useFireChoices).pending = s.pending := by
  unfold State.useFireChoices
  split <;> simp

/-- A firing offer's checks find FLOOD in an area that is in FLOOD, and NORMAL in one that is not, unless the firing is
work of the second event whose decay ended its flood (R62). -/
theorem State.floodAtFire_settled (s : State) (a : Nat)
    (h : s.inFlood a = true ∨ s.handover.fireBySecond = false ∨ s.second.floodEnded.getLsbD a = false) :
    s.floodAtFire a = s.inFlood a := by
  unfold State.floodAtFire State.fireOpen
  rcases h with h | h | h
  · simp [h]
  · simp [h]
  · cases s.handover.fireBySecond <;> simp [h]

@[simp] theorem State.fireSchedule_frame (s : State) :
    (s.fireSchedule).node = s.node ∧ (s.fireSchedule).picture = s.picture ∧ (s.fireSchedule).window = s.window ∧
      (s.fireSchedule).areas = s.areas ∧ (s.fireSchedule).lastLost = s.lastLost ∧
      (s.fireSchedule).signOn = s.signOn ∧ (s.fireSchedule).clock = s.clock ∧ (s.fireSchedule).bus = s.bus ∧
      (s.fireSchedule).peers = s.peers ∧ (s.fireSchedule).transfer = s.transfer ∧
      (s.fireSchedule).second = s.second ∧
      (s.fireSchedule).pending = s.pending := by
  unfold State.fireSchedule
  try dsimp only
  repeat' split
  all_goals simp

/-! ### Area table -/

@[simp] theorem State.setHold_frame (s : State) (a : Nat) (h : Hold) (n : Half) :
    (s.setHold a h n).node = s.node ∧ (s.setHold a h n).lastLost = s.lastLost ∧
      (s.setHold a h n).signOn = s.signOn ∧ (s.setHold a h n).clock = s.clock ∧ (s.setHold a h n).bus = s.bus ∧
      (s.setHold a h n).peers = s.peers ∧ (s.setHold a h n).transfer = s.transfer ∧
      (s.setHold a h n).second = s.second ∧ (s.setHold a h n).freeCount = s.freeCount ∧
      (s.setHold a h n).pending = s.pending := by
  unfold State.setHold State.throughWindow
  try dsimp only
  repeat' split
  all_goals simp

@[simp] theorem State.acceptClaim_frame (s : State) (x : ClaimSource) (o p : Bool) (c : Claim) :
    (s.acceptClaim x o p c).node = s.node ∧ (s.acceptClaim x o p c).signOn = s.signOn ∧
      (s.acceptClaim x o p c).clock = s.clock ∧ (s.acceptClaim x o p c).bus = s.bus ∧
      (s.acceptClaim x o p c).peers = s.peers ∧ (s.acceptClaim x o p c).transfer = s.transfer ∧
      (s.acceptClaim x o p c).second = s.second ∧ (s.acceptClaim x o p c).freeCount = s.freeCount ∧
      (s.acceptClaim x o p c).pending = s.pending := by
  unfold State.acceptClaim
  try dsimp only
  repeat' split
  all_goals simp

@[simp] theorem State.rejectClaim_frame (s : State) (x : ClaimSource) (o : Bool) (c : Claim) :
    (s.rejectClaim x o c).node = s.node ∧ (s.rejectClaim x o c).picture = s.picture ∧
      (s.rejectClaim x o c).window = s.window ∧ (s.rejectClaim x o c).areas = s.areas ∧
      (s.rejectClaim x o c).signOn = s.signOn ∧ (s.rejectClaim x o c).clock = s.clock ∧
      (s.rejectClaim x o c).handover = s.handover ∧ (s.rejectClaim x o c).bus = s.bus ∧
      (s.rejectClaim x o c).tx = s.tx ∧ (s.rejectClaim x o c).peers = s.peers ∧
      (s.rejectClaim x o c).transfer = s.transfer ∧ (s.rejectClaim x o c).second = s.second ∧
      (s.rejectClaim x o c).freeCount = s.freeCount ∧ (s.rejectClaim x o c).pending = s.pending := by
  unfold State.rejectClaim
  try dsimp only
  repeat' split
  all_goals simp

@[simp] theorem State.applyClaim_frame (s : State) (x : ClaimSource) (o p : Bool) (c : Claim) :
    (s.applyClaim x o p c).node = s.node ∧ (s.applyClaim x o p c).signOn = s.signOn ∧
      (s.applyClaim x o p c).clock = s.clock ∧ (s.applyClaim x o p c).bus = s.bus ∧
      (s.applyClaim x o p c).peers = s.peers ∧ (s.applyClaim x o p c).transfer = s.transfer ∧
      (s.applyClaim x o p c).second = s.second ∧ (s.applyClaim x o p c).freeCount = s.freeCount ∧
      (s.applyClaim x o p c).pending = s.pending := by
  unfold State.applyClaim
  try dsimp only
  repeat' split
  all_goals simp

@[simp] theorem State.orphanArea_frame (s : State) (t : Station) (a : Nat) :
    (s.orphanArea t a).node = s.node ∧ (s.orphanArea t a).lastLost = s.lastLost ∧
      (s.orphanArea t a).signOn = s.signOn ∧ (s.orphanArea t a).clock = s.clock ∧
      (s.orphanArea t a).bus = s.bus ∧ (s.orphanArea t a).peers = s.peers ∧
      (s.orphanArea t a).transfer = s.transfer ∧ (s.orphanArea t a).second = s.second ∧
      (s.orphanArea t a).freeCount = s.freeCount ∧ (s.orphanArea t a).pending = s.pending := by
  unfold State.orphanArea
  try dsimp only
  repeat' split
  all_goals simp

@[simp] theorem State.orphanAll_frame (s : State) (t : Station) :
    (s.orphanAll t).node = s.node ∧ (s.orphanAll t).lastLost = s.lastLost ∧ (s.orphanAll t).signOn = s.signOn ∧
      (s.orphanAll t).clock = s.clock ∧ (s.orphanAll t).bus = s.bus ∧ (s.orphanAll t).peers = s.peers ∧
      (s.orphanAll t).transfer = s.transfer ∧ (s.orphanAll t).second = s.second ∧
      (s.orphanAll t).freeCount = s.freeCount ∧ (s.orphanAll t).pending = s.pending := by
  unfold State.orphanAll
  refine ⟨foldl_keeps State.node _ (by simp) _ s, foldl_keeps State.lastLost _ (by simp) _ s,
    foldl_keeps State.signOn _ (by simp) _ s, foldl_keeps State.clock _ (by simp) _ s,
    foldl_keeps State.bus _ (by simp) _ s, foldl_keeps State.peers _ (by simp) _ s,
    foldl_keeps State.transfer _ (by simp) _ s, foldl_keeps State.second _ (by simp) _ s,
    foldl_keeps State.freeCount _ (by simp) _ s, foldl_keeps State.pending _ (by simp) _ s⟩

@[simp] theorem State.applyDarkClaim_frame (s : State) (c : Claim) :
    (s.applyDarkClaim c).node = s.node ∧ (s.applyDarkClaim c).signOn = s.signOn ∧
      (s.applyDarkClaim c).clock = s.clock ∧ (s.applyDarkClaim c).bus = s.bus ∧
      (s.applyDarkClaim c).peers = s.peers ∧ (s.applyDarkClaim c).transfer = s.transfer ∧
      (s.applyDarkClaim c).second = s.second ∧ (s.applyDarkClaim c).freeCount = s.freeCount ∧
      (s.applyDarkClaim c).pending = s.pending := by
  unfold State.applyDarkClaim
  try dsimp only
  repeat' split
  all_goals simp

@[simp] theorem State.applyClaimList_frame (s : State) (t : Station) (p : PresenceBody) :
    (s.applyClaimList t p).node = s.node ∧ (s.applyClaimList t p).signOn = s.signOn ∧
      (s.applyClaimList t p).clock = s.clock ∧ (s.applyClaimList t p).bus = s.bus ∧
      (s.applyClaimList t p).peers = s.peers ∧ (s.applyClaimList t p).transfer = s.transfer ∧
      (s.applyClaimList t p).second = s.second ∧ (s.applyClaimList t p).freeCount = s.freeCount ∧
      (s.applyClaimList t p).pending = s.pending := by
  unfold State.applyClaimList
  split
  · refine ⟨(foldl_keeps State.node _ (by simp) _ _).trans (by simp),
    (foldl_keeps State.signOn _ (by simp) _ _).trans (by simp),
    (foldl_keeps State.clock _ (by simp) _ _).trans (by simp),
    (foldl_keeps State.bus _ (by simp) _ _).trans (by simp),
    (foldl_keeps State.peers _ (by simp) _ _).trans (by simp),
    (foldl_keeps State.transfer _ (by simp) _ _).trans (by simp),
    (foldl_keeps State.second _ (by simp) _ _).trans (by simp),
    (foldl_keeps State.freeCount _ (by simp) _ _).trans (by simp),
    (foldl_keeps State.pending _ (by simp) _ _).trans (by simp)⟩
  · refine ⟨foldl_keeps State.node _ (by simp) _ s, foldl_keeps State.signOn _ (by simp) _ s,
    foldl_keeps State.clock _ (by simp) _ s, foldl_keeps State.bus _ (by simp) _ s,
    foldl_keeps State.peers _ (by simp) _ s, foldl_keeps State.transfer _ (by simp) _ s,
    foldl_keeps State.second _ (by simp) _ s, foldl_keeps State.freeCount _ (by simp) _ s,
    foldl_keeps State.pending _ (by simp) _ s⟩

@[simp] theorem State.applyCommitEntries_frame (o p : Bool) (i : Station) (b : Badge) (es : List CommitEntry) :
    ∀ (m : AreaSet) (s : State),
    ((State.applyCommitEntries o p i b es m s).2).node = s.node ∧
      ((State.applyCommitEntries o p i b es m s).2).signOn = s.signOn ∧
      ((State.applyCommitEntries o p i b es m s).2).clock = s.clock ∧
      ((State.applyCommitEntries o p i b es m s).2).bus = s.bus ∧
      ((State.applyCommitEntries o p i b es m s).2).peers = s.peers ∧
      ((State.applyCommitEntries o p i b es m s).2).transfer = s.transfer ∧
      ((State.applyCommitEntries o p i b es m s).2).second = s.second ∧
      ((State.applyCommitEntries o p i b es m s).2).freeCount = s.freeCount ∧
      ((State.applyCommitEntries o p i b es m s).2).pending = s.pending := by
  induction es with
  | nil => intro m s; simp [State.applyCommitEntries]
  | cons e rest ih => intro m s; simp [State.applyCommitEntries, ih]

@[simp] theorem State.commitEndOut_frame (s : State) (n : Byte) (m : AreaSet) :
    (s.commitEndOut n m).node = s.node ∧ (s.commitEndOut n m).picture = s.picture ∧
      (s.commitEndOut n m).window = s.window ∧ (s.commitEndOut n m).areas = s.areas ∧
      (s.commitEndOut n m).lastLost = s.lastLost ∧ (s.commitEndOut n m).signOn = s.signOn ∧
      (s.commitEndOut n m).clock = s.clock ∧ (s.commitEndOut n m).bus = s.bus ∧ (s.commitEndOut n m).tx = s.tx ∧
      (s.commitEndOut n m).peers = s.peers ∧ (s.commitEndOut n m).transfer = s.transfer ∧
      (s.commitEndOut n m).second = s.second ∧ (s.commitEndOut n m).freeCount = s.freeCount ∧
      (s.commitEndOut n m).pending = s.pending := by
  unfold State.commitEndOut
  try dsimp only
  repeat' split
  all_goals simp

@[simp] theorem State.commitEndIn_frame (s : State) (t : Station) (n : Byte) (m : AreaSet) :
    (s.commitEndIn t n m).node = s.node ∧ (s.commitEndIn t n m).picture = s.picture ∧
      (s.commitEndIn t n m).window = s.window ∧ (s.commitEndIn t n m).areas = s.areas ∧
      (s.commitEndIn t n m).lastLost = s.lastLost ∧ (s.commitEndIn t n m).signOn = s.signOn ∧
      (s.commitEndIn t n m).clock = s.clock ∧ (s.commitEndIn t n m).bus = s.bus ∧
      (s.commitEndIn t n m).tx = s.tx ∧ (s.commitEndIn t n m).peers = s.peers ∧
      (s.commitEndIn t n m).transfer = s.transfer ∧ (s.commitEndIn t n m).second = s.second ∧
      (s.commitEndIn t n m).freeCount = s.freeCount ∧ (s.commitEndIn t n m).pending = s.pending := by
  unfold State.commitEndIn
  try dsimp only
  repeat' split
  all_goals simp

@[simp] theorem State.applyCommit_frame (s : State) (t : Station) (n : Byte) (i : Station) (b : Badge) (es : List CommitEntry) :
    (s.applyCommit t n i b es).node = s.node ∧ (s.applyCommit t n i b es).signOn = s.signOn ∧
      (s.applyCommit t n i b es).clock = s.clock ∧ (s.applyCommit t n i b es).bus = s.bus ∧
      (s.applyCommit t n i b es).peers = s.peers ∧ (s.applyCommit t n i b es).transfer = s.transfer ∧
      (s.applyCommit t n i b es).second = s.second ∧ (s.applyCommit t n i b es).freeCount = s.freeCount ∧
      (s.applyCommit t n i b es).pending = s.pending := by
  unfold State.applyCommit
  try dsimp only
  repeat' split
  all_goals simp

@[simp] theorem State.setRunOut_frame (s : State) (a : Nat) :
    (s.setRunOut a).node = s.node ∧ (s.setRunOut a).picture = s.picture ∧ (s.setRunOut a).window = s.window ∧
      (s.setRunOut a).lastLost = s.lastLost ∧ (s.setRunOut a).signOn = s.signOn ∧
      (s.setRunOut a).clock = s.clock ∧ (s.setRunOut a).handover = s.handover ∧ (s.setRunOut a).bus = s.bus ∧
      (s.setRunOut a).tx = s.tx ∧ (s.setRunOut a).peers = s.peers ∧ (s.setRunOut a).transfer = s.transfer ∧
      (s.setRunOut a).port = s.port ∧ (s.setRunOut a).second = s.second ∧
      (s.setRunOut a).freeCount = s.freeCount ∧ (s.setRunOut a).pending = s.pending := by
  unfold State.setRunOut
  try dsimp only
  repeat' split
  all_goals simp

@[simp] theorem State.takeOver_frame (s : State) (a : Nat) :
    (s.takeOver a).node = s.node ∧ (s.takeOver a).picture = s.picture ∧ (s.takeOver a).window = s.window ∧
      (s.takeOver a).areas = s.areas ∧ (s.takeOver a).lastLost = s.lastLost ∧ (s.takeOver a).signOn = s.signOn ∧
      (s.takeOver a).clock = s.clock ∧ (s.takeOver a).handover = s.handover ∧ (s.takeOver a).bus = s.bus ∧
      (s.takeOver a).peers = s.peers ∧ (s.takeOver a).transfer = s.transfer ∧ (s.takeOver a).second = s.second ∧
      (s.takeOver a).freeCount = s.freeCount ∧ (s.takeOver a).pending = s.pending := by
  unfold State.takeOver
  try dsimp only
  repeat' split
  all_goals simp

@[simp] theorem State.graceRunOut_frame (s : State) (a : Nat) :
    (s.graceRunOut a).node = s.node ∧ (s.graceRunOut a).picture = s.picture ∧
      (s.graceRunOut a).window = s.window ∧ (s.graceRunOut a).lastLost = s.lastLost ∧
      (s.graceRunOut a).signOn = s.signOn ∧ (s.graceRunOut a).clock = s.clock ∧
      (s.graceRunOut a).handover = s.handover ∧ (s.graceRunOut a).bus = s.bus ∧
      (s.graceRunOut a).peers = s.peers ∧ (s.graceRunOut a).transfer = s.transfer ∧
      (s.graceRunOut a).second = s.second ∧ (s.graceRunOut a).freeCount = s.freeCount ∧
      (s.graceRunOut a).pending = s.pending := by
  unfold State.graceRunOut
  try dsimp only
  repeat' split
  all_goals simp

/-! ### Lines, presence build, serving side -/

@[simp] theorem State.setLine_frame (s : State) (n : LineName) (l : Line) :
    (s.setLine n l).node = s.node ∧ (s.setLine n l).picture = s.picture ∧ (s.setLine n l).window = s.window ∧
      (s.setLine n l).areas = s.areas ∧ (s.setLine n l).lastLost = s.lastLost ∧
      (s.setLine n l).signOn = s.signOn ∧ (s.setLine n l).clock = s.clock ∧
      (s.setLine n l).handover = s.handover ∧ (s.setLine n l).tx = s.tx ∧ (s.setLine n l).peers = s.peers ∧
      (s.setLine n l).transfer = s.transfer ∧ (s.setLine n l).port = s.port ∧
      (s.setLine n l).second = s.second ∧ (s.setLine n l).freeCount = s.freeCount ∧
      (s.setLine n l).pending = s.pending := by
  unfold State.setLine
  try dsimp only
  repeat' split
  all_goals simp

@[simp] theorem State.setLineState_frame (s : State) (n : LineName) (x : LineState) :
    (s.setLineState n x).node = s.node ∧ (s.setLineState n x).picture = s.picture ∧
      (s.setLineState n x).window = s.window ∧ (s.setLineState n x).areas = s.areas ∧
      (s.setLineState n x).lastLost = s.lastLost ∧ (s.setLineState n x).signOn = s.signOn ∧
      (s.setLineState n x).clock = s.clock ∧ (s.setLineState n x).handover = s.handover ∧
      (s.setLineState n x).tx = s.tx ∧ (s.setLineState n x).peers = s.peers ∧
      (s.setLineState n x).transfer = s.transfer ∧ (s.setLineState n x).second = s.second ∧
      (s.setLineState n x).freeCount = s.freeCount ∧ (s.setLineState n x).pending = s.pending := by
  unfold State.setLineState
  try dsimp only
  all_goals simp

@[simp] theorem State.silenceLine_frame (s : State) (n : LineName) :
    (s.silenceLine n).node = s.node ∧ (s.silenceLine n).picture = s.picture ∧
      (s.silenceLine n).window = s.window ∧ (s.silenceLine n).areas = s.areas ∧
      (s.silenceLine n).lastLost = s.lastLost ∧ (s.silenceLine n).signOn = s.signOn ∧
      (s.silenceLine n).clock = s.clock ∧ (s.silenceLine n).handover = s.handover ∧
      (s.silenceLine n).tx = s.tx ∧ (s.silenceLine n).peers = s.peers ∧
      (s.silenceLine n).transfer = s.transfer ∧ (s.silenceLine n).second = s.second ∧
      (s.silenceLine n).freeCount = s.freeCount ∧ (s.silenceLine n).pending = s.pending := by
  unfold State.silenceLine
  try dsimp only
  repeat' split
  all_goals simp

@[simp] theorem State.markLine_frame (s : State) (n : LineName) :
    (s.markLine n).picture = s.picture ∧ (s.markLine n).window = s.window ∧ (s.markLine n).areas = s.areas ∧
      (s.markLine n).lastLost = s.lastLost ∧ (s.markLine n).signOn = s.signOn ∧ (s.markLine n).clock = s.clock ∧
      (s.markLine n).handover = s.handover ∧ (s.markLine n).peers = s.peers ∧
      (s.markLine n).transfer = s.transfer ∧ (s.markLine n).second = s.second ∧
      (s.markLine n).freeCount = s.freeCount ∧ (s.markLine n).pending = s.pending := by
  unfold State.markLine
  try dsimp only
  all_goals simp

@[simp] theorem State.goodCopyOn_frame (s : State) (n : LineName) :
    (s.goodCopyOn n).node = s.node ∧ (s.goodCopyOn n).picture = s.picture ∧ (s.goodCopyOn n).window = s.window ∧
      (s.goodCopyOn n).areas = s.areas ∧ (s.goodCopyOn n).lastLost = s.lastLost ∧
      (s.goodCopyOn n).signOn = s.signOn ∧ (s.goodCopyOn n).clock = s.clock ∧
      (s.goodCopyOn n).handover = s.handover ∧ (s.goodCopyOn n).tx = s.tx ∧ (s.goodCopyOn n).peers = s.peers ∧
      (s.goodCopyOn n).transfer = s.transfer ∧ (s.goodCopyOn n).second = s.second ∧
      (s.goodCopyOn n).freeCount = s.freeCount ∧ (s.goodCopyOn n).pending = s.pending := by
  unfold State.goodCopyOn
  try dsimp only
  repeat' split
  all_goals simp

@[simp] theorem State.recoverLine_frame (s : State) (n : LineName) :
    (s.recoverLine n).node = s.node ∧ (s.recoverLine n).picture = s.picture ∧
      (s.recoverLine n).window = s.window ∧ (s.recoverLine n).areas = s.areas ∧
      (s.recoverLine n).lastLost = s.lastLost ∧ (s.recoverLine n).signOn = s.signOn ∧
      (s.recoverLine n).clock = s.clock ∧ (s.recoverLine n).handover = s.handover ∧
      (s.recoverLine n).tx = s.tx ∧ (s.recoverLine n).peers = s.peers ∧
      (s.recoverLine n).transfer = s.transfer ∧ (s.recoverLine n).second = s.second ∧
      (s.recoverLine n).freeCount = s.freeCount ∧ (s.recoverLine n).pending = s.pending := by
  unfold State.recoverLine
  try dsimp only
  repeat' split
  all_goals simp

@[simp] theorem State.buildPresence_frame (s : State) :
    (s.buildPresence).picture = s.picture ∧ (s.buildPresence).window = s.window ∧
      (s.buildPresence).areas = s.areas ∧ (s.buildPresence).lastLost = s.lastLost ∧
      (s.buildPresence).signOn = s.signOn ∧ (s.buildPresence).clock = s.clock ∧
      (s.buildPresence).handover = s.handover ∧ (s.buildPresence).bus = s.bus ∧
      (s.buildPresence).peers = s.peers ∧ (s.buildPresence).transfer = s.transfer ∧
      (s.buildPresence).port = s.port ∧ (s.buildPresence).second = s.second ∧
      (s.buildPresence).freeCount = s.freeCount ∧ (s.buildPresence).pending = s.pending := by
  unfold State.buildPresence
  try dsimp only
  repeat' split
  all_goals simp

@[simp] theorem State.applyPictureRequest_frame (s : State) (t : Station) :
    (s.applyPictureRequest t).node = s.node ∧ (s.applyPictureRequest t).picture = s.picture ∧
      (s.applyPictureRequest t).window = s.window ∧ (s.applyPictureRequest t).areas = s.areas ∧
      (s.applyPictureRequest t).lastLost = s.lastLost ∧ (s.applyPictureRequest t).signOn = s.signOn ∧
      (s.applyPictureRequest t).clock = s.clock ∧ (s.applyPictureRequest t).handover = s.handover ∧
      (s.applyPictureRequest t).bus = s.bus ∧ (s.applyPictureRequest t).tx = s.tx ∧
      (s.applyPictureRequest t).peers = s.peers ∧ (s.applyPictureRequest t).port = s.port ∧
      (s.applyPictureRequest t).second = s.second ∧ (s.applyPictureRequest t).freeCount = s.freeCount ∧
      (s.applyPictureRequest t).pending = s.pending := by
  unfold State.applyPictureRequest
  try dsimp only
  repeat' split
  all_goals simp

@[simp] theorem State.endStream_frame (s : State) :
    (s.endStream).node = s.node ∧ (s.endStream).picture = s.picture ∧ (s.endStream).window = s.window ∧
      (s.endStream).areas = s.areas ∧ (s.endStream).lastLost = s.lastLost ∧ (s.endStream).signOn = s.signOn ∧
      (s.endStream).clock = s.clock ∧ (s.endStream).handover = s.handover ∧ (s.endStream).bus = s.bus ∧
      (s.endStream).peers = s.peers ∧ (s.endStream).port = s.port ∧ (s.endStream).second = s.second ∧
      (s.endStream).freeCount = s.freeCount ∧ (s.endStream).pending = s.pending := by
  unfold State.endStream
  try dsimp only
  repeat' split
  all_goals simp

@[simp] theorem State.dropRequester_frame (s : State) (t : Station) :
    (s.dropRequester t).node = s.node ∧ (s.dropRequester t).picture = s.picture ∧
      (s.dropRequester t).window = s.window ∧ (s.dropRequester t).areas = s.areas ∧
      (s.dropRequester t).lastLost = s.lastLost ∧ (s.dropRequester t).signOn = s.signOn ∧
      (s.dropRequester t).clock = s.clock ∧ (s.dropRequester t).handover = s.handover ∧
      (s.dropRequester t).bus = s.bus ∧ (s.dropRequester t).peers = s.peers ∧
      (s.dropRequester t).port = s.port ∧ (s.dropRequester t).second = s.second ∧
      (s.dropRequester t).freeCount = s.freeCount ∧ (s.dropRequester t).pending = s.pending := by
  unfold State.dropRequester
  try dsimp only
  repeat' split
  all_goals simp

@[simp] theorem State.buildChange_frame (s : State) :
    (s.buildChange).node = s.node ∧ (s.buildChange).picture = s.picture ∧ (s.buildChange).window = s.window ∧
      (s.buildChange).areas = s.areas ∧ (s.buildChange).lastLost = s.lastLost ∧
      (s.buildChange).signOn = s.signOn ∧ (s.buildChange).clock = s.clock ∧
      (s.buildChange).handover = s.handover ∧ (s.buildChange).bus = s.bus ∧ (s.buildChange).peers = s.peers ∧
      (s.buildChange).transfer = s.transfer ∧ (s.buildChange).port = s.port ∧
      (s.buildChange).second = s.second ∧ (s.buildChange).freeCount = s.freeCount ∧
      (s.buildChange).pending = s.pending := by
  unfold State.buildChange
  try dsimp only
  repeat' split
  all_goals simp

@[simp] theorem State.buildPicture_frame (s : State) :
    (s.buildPicture).node = s.node ∧ (s.buildPicture).picture = s.picture ∧ (s.buildPicture).window = s.window ∧
      (s.buildPicture).areas = s.areas ∧ (s.buildPicture).lastLost = s.lastLost ∧
      (s.buildPicture).signOn = s.signOn ∧ (s.buildPicture).clock = s.clock ∧
      (s.buildPicture).handover = s.handover ∧ (s.buildPicture).bus = s.bus ∧ (s.buildPicture).peers = s.peers ∧
      (s.buildPicture).port = s.port ∧ (s.buildPicture).second = s.second ∧
      (s.buildPicture).freeCount = s.freeCount ∧ (s.buildPicture).pending = s.pending := by
  unfold State.buildPicture
  try dsimp only
  repeat' split
  all_goals simp

@[simp] theorem State.mapHead_frame (s : State) (f : TxFrame → TxFrame) (c : TxClass) :
    (s.mapHead f c).node = s.node ∧ (s.mapHead f c).picture = s.picture ∧ (s.mapHead f c).window = s.window ∧
      (s.mapHead f c).areas = s.areas ∧ (s.mapHead f c).lastLost = s.lastLost ∧
      (s.mapHead f c).signOn = s.signOn ∧ (s.mapHead f c).clock = s.clock ∧
      (s.mapHead f c).handover = s.handover ∧ (s.mapHead f c).bus = s.bus ∧ (s.mapHead f c).peers = s.peers ∧
      (s.mapHead f c).transfer = s.transfer ∧ (s.mapHead f c).port = s.port ∧
      (s.mapHead f c).second = s.second ∧ (s.mapHead f c).freeCount = s.freeCount ∧
      (s.mapHead f c).pending = s.pending := by
  unfold State.mapHead
  try dsimp only
  repeat' split
  all_goals simp

@[simp] theorem State.buildFor_frame (s : State) (c : TxClass) :
    (s.buildFor c).node = s.node ∧ (s.buildFor c).picture = s.picture ∧ (s.buildFor c).window = s.window ∧
      (s.buildFor c).areas = s.areas ∧ (s.buildFor c).lastLost = s.lastLost ∧ (s.buildFor c).signOn = s.signOn ∧
      (s.buildFor c).clock = s.clock ∧ (s.buildFor c).handover = s.handover ∧ (s.buildFor c).bus = s.bus ∧
      (s.buildFor c).peers = s.peers ∧ (s.buildFor c).port = s.port ∧ (s.buildFor c).second = s.second ∧
      (s.buildFor c).freeCount = s.freeCount ∧ (s.buildFor c).pending = s.pending := by
  unfold State.buildFor
  try dsimp only
  repeat' split
  all_goals simp

@[simp] theorem State.startAttempt_frame (s : State) (c : TxClass) :
    (s.startAttempt c).node = s.node ∧ (s.startAttempt c).picture = s.picture ∧
      (s.startAttempt c).window = s.window ∧ (s.startAttempt c).areas = s.areas ∧
      (s.startAttempt c).lastLost = s.lastLost ∧ (s.startAttempt c).signOn = s.signOn ∧
      (s.startAttempt c).clock = s.clock ∧ (s.startAttempt c).handover = s.handover ∧
      (s.startAttempt c).peers = s.peers ∧ (s.startAttempt c).port = s.port ∧
      (s.startAttempt c).second = s.second ∧ (s.startAttempt c).freeCount = s.freeCount ∧
      (s.startAttempt c).pending = s.pending := by
  unfold State.startAttempt
  try dsimp only
  all_goals simp

/-! ### Requesting side -/

@[simp] theorem State.startRefresh_frame (s : State) :
    (s.startRefresh).node = s.node ∧ (s.startRefresh).picture = s.picture ∧ (s.startRefresh).window = s.window ∧
      (s.startRefresh).areas = s.areas ∧ (s.startRefresh).lastLost = s.lastLost ∧
      (s.startRefresh).signOn = s.signOn ∧ (s.startRefresh).clock = s.clock ∧
      (s.startRefresh).handover = s.handover ∧ (s.startRefresh).bus = s.bus ∧ (s.startRefresh).peers = s.peers ∧
      (s.startRefresh).second = s.second ∧ (s.startRefresh).freeCount = s.freeCount ∧
      (s.startRefresh).pending = s.pending := by
  unfold State.startRefresh
  try dsimp only
  repeat' split
  all_goals simp

@[simp] theorem State.endRefresh_frame (s : State) :
    (s.endRefresh).node = s.node ∧ (s.endRefresh).picture = s.picture ∧ (s.endRefresh).window = s.window ∧
      (s.endRefresh).areas = s.areas ∧ (s.endRefresh).lastLost = s.lastLost ∧ (s.endRefresh).signOn = s.signOn ∧
      (s.endRefresh).clock = s.clock ∧ (s.endRefresh).handover = s.handover ∧ (s.endRefresh).bus = s.bus ∧
      (s.endRefresh).tx = s.tx ∧ (s.endRefresh).peers = s.peers ∧ (s.endRefresh).port = s.port ∧
      (s.endRefresh).second = s.second ∧ (s.endRefresh).freeCount = s.freeCount ∧
      (s.endRefresh).pending = s.pending := by
  unfold State.endRefresh
  try dsimp only
  all_goals simp

@[simp] theorem State.applyPending_frame (s : State) (e : PendingEvent) :
    (s.applyPending e).node = s.node ∧ (s.applyPending e).areas = s.areas ∧
      (s.applyPending e).lastLost = s.lastLost ∧ (s.applyPending e).signOn = s.signOn ∧
      (s.applyPending e).clock = s.clock ∧ (s.applyPending e).handover = s.handover ∧
      (s.applyPending e).bus = s.bus ∧ (s.applyPending e).tx = s.tx ∧ (s.applyPending e).peers = s.peers ∧
      (s.applyPending e).transfer = s.transfer ∧ (s.applyPending e).port = s.port ∧
      (s.applyPending e).second = s.second ∧ (s.applyPending e).freeCount = s.freeCount ∧
      (s.applyPending e).pending = s.pending := by
  unfold State.applyPending
  try dsimp only
  repeat' split
  all_goals simp

@[simp] theorem State.matchPending_frame (s : State) (id : AlarmId) :
    (s.matchPending id).node = s.node ∧ (s.matchPending id).areas = s.areas ∧
      (s.matchPending id).lastLost = s.lastLost ∧ (s.matchPending id).signOn = s.signOn ∧
      (s.matchPending id).clock = s.clock ∧ (s.matchPending id).handover = s.handover ∧
      (s.matchPending id).bus = s.bus ∧ (s.matchPending id).tx = s.tx ∧ (s.matchPending id).peers = s.peers ∧
      (s.matchPending id).port = s.port ∧ (s.matchPending id).second = s.second ∧
      (s.matchPending id).freeCount = s.freeCount ∧ (s.matchPending id).pending = s.pending := by
  unfold State.matchPending
  refine ⟨(foldl_keeps State.node _ (by simp) _ _).trans (by simp),
    (foldl_keeps State.areas _ (by simp) _ _).trans (by simp),
    (foldl_keeps State.lastLost _ (by simp) _ _).trans (by simp),
    (foldl_keeps State.signOn _ (by simp) _ _).trans (by simp),
    (foldl_keeps State.clock _ (by simp) _ _).trans (by simp),
    (foldl_keeps State.handover _ (by simp) _ _).trans (by simp),
    (foldl_keeps State.bus _ (by simp) _ _).trans (by simp),
    (foldl_keeps State.tx _ (by simp) _ _).trans (by simp),
    (foldl_keeps State.peers _ (by simp) _ _).trans (by simp),
    (foldl_keeps State.port _ (by simp) _ _).trans (by simp),
    (foldl_keeps State.second _ (by simp) _ _).trans (by simp),
    (foldl_keeps State.freeCount _ (by simp) _ _).trans (by simp),
    (foldl_keeps State.pending _ (by simp) _ _).trans (by simp)⟩

@[simp] theorem State.insertPicture_frame (s : State) (r : PictureRecord) :
    (s.insertPicture r).areas = s.areas ∧ (s.insertPicture r).lastLost = s.lastLost ∧
      (s.insertPicture r).signOn = s.signOn ∧ (s.insertPicture r).clock = s.clock ∧
      (s.insertPicture r).handover = s.handover ∧ (s.insertPicture r).bus = s.bus ∧
      (s.insertPicture r).peers = s.peers ∧ (s.insertPicture r).second = s.second ∧
      (s.insertPicture r).freeCount = s.freeCount ∧ (s.insertPicture r).pending = s.pending := by
  unfold State.insertPicture
  dsimp only
  repeat' split
  all_goals first
    | (simp; done)
    | (rename_i h; simp [State.insert_frame _ _ _ h])

@[simp] theorem State.mergeRecord_frame (s : State) (r : PictureRecord) :
    (s.mergeRecord r).areas = s.areas ∧ (s.mergeRecord r).lastLost = s.lastLost ∧
      (s.mergeRecord r).signOn = s.signOn ∧ (s.mergeRecord r).clock = s.clock ∧
      (s.mergeRecord r).handover = s.handover ∧ (s.mergeRecord r).bus = s.bus ∧
      (s.mergeRecord r).peers = s.peers ∧ (s.mergeRecord r).second = s.second ∧
      (s.mergeRecord r).freeCount = s.freeCount ∧ (s.mergeRecord r).pending = s.pending := by
  unfold State.mergeRecord
  try dsimp only
  repeat' split
  all_goals simp

@[simp] theorem State.mergeAll_frame (s : State) (rs : List PictureRecord) :
    (s.mergeAll rs).areas = s.areas ∧ (s.mergeAll rs).lastLost = s.lastLost ∧
      (s.mergeAll rs).signOn = s.signOn ∧ (s.mergeAll rs).clock = s.clock ∧
      (s.mergeAll rs).handover = s.handover ∧ (s.mergeAll rs).bus = s.bus ∧ (s.mergeAll rs).peers = s.peers ∧
      (s.mergeAll rs).second = s.second ∧ (s.mergeAll rs).freeCount = s.freeCount ∧
      (s.mergeAll rs).pending = s.pending := by
  unfold State.mergeAll
  refine ⟨foldl_keeps State.areas _ (by simp) _ s, foldl_keeps State.lastLost _ (by simp) _ s,
    foldl_keeps State.signOn _ (by simp) _ s, foldl_keeps State.clock _ (by simp) _ s,
    foldl_keeps State.handover _ (by simp) _ s, foldl_keeps State.bus _ (by simp) _ s,
    foldl_keeps State.peers _ (by simp) _ s, foldl_keeps State.second _ (by simp) _ s,
    foldl_keeps State.freeCount _ (by simp) _ s, foldl_keeps State.pending _ (by simp) _ s⟩

@[simp] theorem State.takePicture_frame (s : State) (t : Station) (rs : List PictureRecord) (x : Refresh) (n : Nat) :
    (s.takePicture t rs x n).areas = s.areas ∧ (s.takePicture t rs x n).lastLost = s.lastLost ∧
      (s.takePicture t rs x n).signOn = s.signOn ∧ (s.takePicture t rs x n).clock = s.clock ∧
      (s.takePicture t rs x n).handover = s.handover ∧ (s.takePicture t rs x n).bus = s.bus ∧
      (s.takePicture t rs x n).peers = s.peers ∧ (s.takePicture t rs x n).second = s.second ∧
      (s.takePicture t rs x n).freeCount = s.freeCount ∧ (s.takePicture t rs x n).pending = s.pending := by
  unfold State.takePicture
  try dsimp only
  all_goals simp

@[simp] theorem State.applyPicture_frame (s : State) (t : Station) (m : StationSet) (i : Byte) (rs : List PictureRecord) :
    (s.applyPicture t m i rs).areas = s.areas ∧ (s.applyPicture t m i rs).lastLost = s.lastLost ∧
      (s.applyPicture t m i rs).signOn = s.signOn ∧ (s.applyPicture t m i rs).clock = s.clock ∧
      (s.applyPicture t m i rs).handover = s.handover ∧ (s.applyPicture t m i rs).bus = s.bus ∧
      (s.applyPicture t m i rs).peers = s.peers ∧ (s.applyPicture t m i rs).second = s.second ∧
      (s.applyPicture t m i rs).freeCount = s.freeCount ∧ (s.applyPicture t m i rs).pending = s.pending := by
  unfold State.applyPicture
  try dsimp only
  repeat' split
  all_goals simp

@[simp] theorem State.completeRefresh_frame (s : State) (c : Half) (n : Nat) :
    (s.completeRefresh c n).node = s.node ∧ (s.completeRefresh c n).picture = s.picture ∧
      (s.completeRefresh c n).window = s.window ∧ (s.completeRefresh c n).areas = s.areas ∧
      (s.completeRefresh c n).lastLost = s.lastLost ∧ (s.completeRefresh c n).signOn = s.signOn ∧
      (s.completeRefresh c n).clock = s.clock ∧ (s.completeRefresh c n).handover = s.handover ∧
      (s.completeRefresh c n).bus = s.bus ∧ (s.completeRefresh c n).tx = s.tx ∧
      (s.completeRefresh c n).peers = s.peers ∧ (s.completeRefresh c n).second = s.second ∧
      (s.completeRefresh c n).freeCount = s.freeCount ∧ (s.completeRefresh c n).pending = s.pending := by
  unfold State.completeRefresh
  try dsimp only
  all_goals simp

@[simp] theorem State.applyPictureEnd_frame (s : State) (t : Station) (m : StationSet) (c : Half) :
    (s.applyPictureEnd t m c).node = s.node ∧ (s.applyPictureEnd t m c).picture = s.picture ∧
      (s.applyPictureEnd t m c).window = s.window ∧ (s.applyPictureEnd t m c).areas = s.areas ∧
      (s.applyPictureEnd t m c).lastLost = s.lastLost ∧ (s.applyPictureEnd t m c).signOn = s.signOn ∧
      (s.applyPictureEnd t m c).clock = s.clock ∧ (s.applyPictureEnd t m c).handover = s.handover ∧
      (s.applyPictureEnd t m c).bus = s.bus ∧ (s.applyPictureEnd t m c).tx = s.tx ∧
      (s.applyPictureEnd t m c).peers = s.peers ∧ (s.applyPictureEnd t m c).second = s.second ∧
      (s.applyPictureEnd t m c).freeCount = s.freeCount ∧ (s.applyPictureEnd t m c).pending = s.pending := by
  unfold State.applyPictureEnd
  try dsimp only
  repeat' split
  all_goals simp

@[simp] theorem State.refreshFailed_frame (s : State) (x : Refresh) :
    (s.refreshFailed x).node = s.node ∧ (s.refreshFailed x).picture = s.picture ∧
      (s.refreshFailed x).window = s.window ∧ (s.refreshFailed x).areas = s.areas ∧
      (s.refreshFailed x).lastLost = s.lastLost ∧ (s.refreshFailed x).signOn = s.signOn ∧
      (s.refreshFailed x).clock = s.clock ∧ (s.refreshFailed x).handover = s.handover ∧
      (s.refreshFailed x).bus = s.bus ∧ (s.refreshFailed x).peers = s.peers ∧
      (s.refreshFailed x).second = s.second ∧ (s.refreshFailed x).freeCount = s.freeCount ∧
      (s.refreshFailed x).pending = s.pending := by
  unfold State.refreshFailed
  try dsimp only
  repeat' split
  all_goals simp

@[simp] theorem State.refreshWaitTest_frame (s : State) :
    (s.refreshWaitTest).node = s.node ∧ (s.refreshWaitTest).picture = s.picture ∧
      (s.refreshWaitTest).window = s.window ∧ (s.refreshWaitTest).areas = s.areas ∧
      (s.refreshWaitTest).lastLost = s.lastLost ∧ (s.refreshWaitTest).signOn = s.signOn ∧
      (s.refreshWaitTest).clock = s.clock ∧ (s.refreshWaitTest).handover = s.handover ∧
      (s.refreshWaitTest).bus = s.bus ∧ (s.refreshWaitTest).peers = s.peers ∧
      (s.refreshWaitTest).second = s.second ∧ (s.refreshWaitTest).freeCount = s.freeCount ∧
      (s.refreshWaitTest).pending = s.pending := by
  unfold State.refreshWaitTest
  try dsimp only
  repeat' split
  all_goals simp

@[simp] theorem State.refreshStallTest_frame (s : State) :
    (s.refreshStallTest).node = s.node ∧ (s.refreshStallTest).picture = s.picture ∧
      (s.refreshStallTest).window = s.window ∧ (s.refreshStallTest).areas = s.areas ∧
      (s.refreshStallTest).lastLost = s.lastLost ∧ (s.refreshStallTest).signOn = s.signOn ∧
      (s.refreshStallTest).clock = s.clock ∧ (s.refreshStallTest).handover = s.handover ∧
      (s.refreshStallTest).bus = s.bus ∧ (s.refreshStallTest).peers = s.peers ∧
      (s.refreshStallTest).second = s.second ∧ (s.refreshStallTest).freeCount = s.freeCount ∧
      (s.refreshStallTest).pending = s.pending := by
  unfold State.refreshStallTest
  try dsimp only
  repeat' split
  all_goals simp

@[simp] theorem State.repeatRequest_frame (s : State) :
    (s.repeatRequest).node = s.node ∧ (s.repeatRequest).picture = s.picture ∧
      (s.repeatRequest).window = s.window ∧ (s.repeatRequest).areas = s.areas ∧
      (s.repeatRequest).lastLost = s.lastLost ∧ (s.repeatRequest).signOn = s.signOn ∧
      (s.repeatRequest).clock = s.clock ∧ (s.repeatRequest).handover = s.handover ∧
      (s.repeatRequest).bus = s.bus ∧ (s.repeatRequest).peers = s.peers ∧ (s.repeatRequest).port = s.port ∧
      (s.repeatRequest).second = s.second ∧ (s.repeatRequest).freeCount = s.freeCount ∧
      (s.repeatRequest).pending = s.pending := by
  unfold State.repeatRequest
  try dsimp only
  repeat' split
  all_goals simp

/-! ### Peer table -/

@[simp] theorem State.setPeer_frame (s : State) (t : Station) (r : PeerRecord) :
    (s.setPeer t r).node = s.node ∧ (s.setPeer t r).picture = s.picture ∧ (s.setPeer t r).window = s.window ∧
      (s.setPeer t r).areas = s.areas ∧ (s.setPeer t r).lastLost = s.lastLost ∧
      (s.setPeer t r).signOn = s.signOn ∧ (s.setPeer t r).clock = s.clock ∧
      (s.setPeer t r).handover = s.handover ∧ (s.setPeer t r).bus = s.bus ∧ (s.setPeer t r).tx = s.tx ∧
      (s.setPeer t r).transfer = s.transfer ∧ (s.setPeer t r).port = s.port ∧
      (s.setPeer t r).second = s.second ∧ (s.setPeer t r).freeCount = s.freeCount ∧
      (s.setPeer t r).pending = s.pending := by
  unfold State.setPeer
  try dsimp only
  repeat' split
  all_goals simp

@[simp] theorem State.track_frame (s : State) (t : Station) :
    (s.track t).node = s.node ∧ (s.track t).picture = s.picture ∧ (s.track t).window = s.window ∧
      (s.track t).areas = s.areas ∧ (s.track t).lastLost = s.lastLost ∧ (s.track t).signOn = s.signOn ∧
      (s.track t).clock = s.clock ∧ (s.track t).handover = s.handover ∧ (s.track t).bus = s.bus ∧
      (s.track t).tx = s.tx ∧ (s.track t).transfer = s.transfer ∧ (s.track t).second = s.second ∧
      (s.track t).freeCount = s.freeCount ∧ (s.track t).pending = s.pending := by
  unfold State.track
  try dsimp only
  repeat' split
  all_goals simp

@[simp] theorem State.forgetSeq_frame (s : State) (t : Station) :
    (s.forgetSeq t).node = s.node ∧ (s.forgetSeq t).picture = s.picture ∧ (s.forgetSeq t).window = s.window ∧
      (s.forgetSeq t).areas = s.areas ∧ (s.forgetSeq t).lastLost = s.lastLost ∧
      (s.forgetSeq t).signOn = s.signOn ∧ (s.forgetSeq t).clock = s.clock ∧
      (s.forgetSeq t).handover = s.handover ∧ (s.forgetSeq t).tx = s.tx ∧ (s.forgetSeq t).peers = s.peers ∧
      (s.forgetSeq t).transfer = s.transfer ∧ (s.forgetSeq t).port = s.port ∧
      (s.forgetSeq t).second = s.second ∧ (s.forgetSeq t).freeCount = s.freeCount ∧
      (s.forgetSeq t).pending = s.pending := by
  unfold State.forgetSeq
  try dsimp only
  repeat' split
  all_goals simp

@[simp] theorem State.losePeer_frame (s : State) (t : Station) :
    (s.losePeer t).node = s.node ∧ (s.losePeer t).lastLost = s.lastLost ∧ (s.losePeer t).signOn = s.signOn ∧
      (s.losePeer t).clock = s.clock ∧ (s.losePeer t).second = s.second ∧
      (s.losePeer t).freeCount = s.freeCount ∧ (s.losePeer t).pending = s.pending := by
  unfold State.losePeer
  try dsimp only
  repeat' split
  all_goals simp

@[simp] theorem State.takePresence_frame (s : State) (t : Station) (p : PresenceBody) (x : Bool) (r : PeerRecord) :
    (s.takePresence t p x r).node = s.node ∧ (s.takePresence t p x r).lastLost = s.lastLost ∧
      (s.takePresence t p x r).signOn = s.signOn ∧ (s.takePresence t p x r).clock = s.clock ∧
      (s.takePresence t p x r).bus = s.bus ∧ (s.takePresence t p x r).transfer = s.transfer ∧
      (s.takePresence t p x r).second = s.second ∧ (s.takePresence t p x r).freeCount = s.freeCount ∧
      (s.takePresence t p x r).pending = s.pending := by
  unfold State.takePresence
  try dsimp only
  repeat' split
  all_goals simp

@[simp] theorem State.applyPresence_frame (s : State) (t : Station) (p : PresenceBody) (r : Option PeerRecord) :
    (s.applyPresence t p r).node = s.node ∧ (s.applyPresence t p r).signOn = s.signOn ∧
      (s.applyPresence t p r).clock = s.clock ∧ (s.applyPresence t p r).bus = s.bus ∧
      (s.applyPresence t p r).transfer = s.transfer ∧ (s.applyPresence t p r).second = s.second ∧
      (s.applyPresence t p r).freeCount = s.freeCount ∧ (s.applyPresence t p r).pending = s.pending := by
  unfold State.applyPresence
  try dsimp only
  repeat' split
  all_goals simp

@[simp] theorem State.duplicateSeen_frame (s : State) :
    (s.duplicateSeen).picture = s.picture ∧ (s.duplicateSeen).window = s.window ∧
      (s.duplicateSeen).areas = s.areas ∧ (s.duplicateSeen).lastLost = s.lastLost ∧
      (s.duplicateSeen).signOn = s.signOn ∧ (s.duplicateSeen).clock = s.clock ∧
      (s.duplicateSeen).handover = s.handover ∧ (s.duplicateSeen).bus = s.bus ∧
      (s.duplicateSeen).peers = s.peers ∧ (s.duplicateSeen).transfer = s.transfer ∧
      (s.duplicateSeen).second = s.second ∧ (s.duplicateSeen).freeCount = s.freeCount ∧
      (s.duplicateSeen).pending = s.pending := by
  unfold State.duplicateSeen
  try dsimp only
  repeat' split
  all_goals simp

@[simp] theorem State.goDark_frame (s : State) :
    (s.goDark).picture = s.picture ∧ (s.goDark).window = s.window ∧ (s.goDark).areas = s.areas ∧
      (s.goDark).lastLost = s.lastLost ∧ (s.goDark).signOn = s.signOn ∧ (s.goDark).clock = s.clock ∧
      (s.goDark).bus = s.bus ∧ (s.goDark).peers = s.peers ∧ (s.goDark).transfer = s.transfer ∧
      (s.goDark).second = s.second ∧ (s.goDark).freeCount = s.freeCount ∧ (s.goDark).pending = s.pending := by
  unfold State.goDark
  try dsimp only
  repeat' split
  all_goals simp

@[simp] theorem State.endListen_frame (s : State) :
    (s.endListen).picture = s.picture ∧ (s.endListen).window = s.window ∧ (s.endListen).areas = s.areas ∧
      (s.endListen).lastLost = s.lastLost ∧ (s.endListen).signOn = s.signOn ∧ (s.endListen).clock = s.clock ∧
      (s.endListen).handover = s.handover ∧ (s.endListen).bus = s.bus ∧ (s.endListen).peers = s.peers ∧
      (s.endListen).second = s.second ∧ (s.endListen).freeCount = s.freeCount ∧
      (s.endListen).pending = s.pending := by
  unfold State.endListen
  try dsimp only
  repeat' split
  all_goals simp

/-! ### Bus interface -/

@[simp] theorem State.applyFrame_frame (s : State) (t : Station) (r : Option PeerRecord) (f : Frame) :
    (s.applyFrame t r f).signOn = s.signOn ∧ (s.applyFrame t r f).clock = s.clock ∧
      (s.applyFrame t r f).bus = s.bus ∧ (s.applyFrame t r f).second = s.second ∧
      (s.applyFrame t r f).freeCount = s.freeCount ∧ (s.applyFrame t r f).pending = s.pending := by
  unfold State.applyFrame
  try dsimp only
  repeat' split
  all_goals simp

@[simp] theorem State.lineDelivers_frame (s : State) (n : LineName) (c : Copy) :
    (s.lineDelivers n c).picture = s.picture ∧ (s.lineDelivers n c).window = s.window ∧
      (s.lineDelivers n c).areas = s.areas ∧ (s.lineDelivers n c).lastLost = s.lastLost ∧
      (s.lineDelivers n c).signOn = s.signOn ∧ (s.lineDelivers n c).clock = s.clock ∧
      (s.lineDelivers n c).handover = s.handover ∧ (s.lineDelivers n c).peers = s.peers ∧
      (s.lineDelivers n c).transfer = s.transfer ∧ (s.lineDelivers n c).second = s.second ∧
      (s.lineDelivers n c).freeCount = s.freeCount ∧ (s.lineDelivers n c).pending = s.pending := by
  unfold State.lineDelivers
  try dsimp only
  repeat' split
  all_goals simp

@[simp] theorem State.noteSeq_frame (s : State) (t : Station) (n : Byte) :
    (s.noteSeq t n).node = s.node ∧ (s.noteSeq t n).picture = s.picture ∧ (s.noteSeq t n).window = s.window ∧
      (s.noteSeq t n).areas = s.areas ∧ (s.noteSeq t n).lastLost = s.lastLost ∧
      (s.noteSeq t n).signOn = s.signOn ∧ (s.noteSeq t n).clock = s.clock ∧
      (s.noteSeq t n).handover = s.handover ∧ (s.noteSeq t n).tx = s.tx ∧ (s.noteSeq t n).peers = s.peers ∧
      (s.noteSeq t n).transfer = s.transfer ∧ (s.noteSeq t n).port = s.port ∧
      (s.noteSeq t n).second = s.second ∧ (s.noteSeq t n).freeCount = s.freeCount ∧
      (s.noteSeq t n).pending = s.pending := by
  unfold State.noteSeq
  try dsimp only
  repeat' split
  all_goals simp

@[simp] theorem State.accepted_frame (s : State) (rx : Rx) (f : Option Frame) :
    (s.accepted rx f).signOn = s.signOn ∧ (s.accepted rx f).clock = s.clock ∧ (s.accepted rx f).bus = s.bus ∧
      (s.accepted rx f).second = s.second ∧ (s.accepted rx f).freeCount = s.freeCount ∧
      (s.accepted rx f).pending = s.pending := by
  unfold State.accepted
  try dsimp only
  repeat' split
  all_goals simp

@[simp] theorem State.receive_frame (s : State) (rx : Rx) (k : Bool) (f : Option Frame) :
    (s.receive rx k f).signOn = s.signOn ∧ (s.receive rx k f).clock = s.clock ∧
      (s.receive rx k f).second = s.second ∧ (s.receive rx k f).freeCount = s.freeCount ∧
      (s.receive rx k f).pending = s.pending := by
  unfold State.receive
  try dsimp only
  repeat' split
  all_goals simp

@[simp] theorem State.access_frame (s : State) (n : Nat) :
    (s.access n).node = s.node ∧ (s.access n).picture = s.picture ∧ (s.access n).window = s.window ∧
      (s.access n).areas = s.areas ∧ (s.access n).lastLost = s.lastLost ∧ (s.access n).signOn = s.signOn ∧
      (s.access n).clock = s.clock ∧ (s.access n).handover = s.handover ∧ (s.access n).peers = s.peers ∧
      (s.access n).port = s.port ∧ (s.access n).second = s.second ∧ (s.access n).freeCount = s.freeCount ∧
      (s.access n).pending = s.pending := by
  unfold State.access
  try dsimp only
  repeat' split
  all_goals simp

@[simp] theorem State.echoFail_frame (s : State) (n : LineName) :
    (s.echoFail n).picture = s.picture ∧ (s.echoFail n).window = s.window ∧ (s.echoFail n).areas = s.areas ∧
      (s.echoFail n).lastLost = s.lastLost ∧ (s.echoFail n).signOn = s.signOn ∧ (s.echoFail n).clock = s.clock ∧
      (s.echoFail n).handover = s.handover ∧ (s.echoFail n).peers = s.peers ∧
      (s.echoFail n).transfer = s.transfer ∧ (s.echoFail n).second = s.second ∧
      (s.echoFail n).freeCount = s.freeCount ∧ (s.echoFail n).pending = s.pending := by
  unfold State.echoFail
  try dsimp only
  repeat' split
  all_goals simp

@[simp] theorem State.attemptFailed_frame (s : State) (x : Sending) :
    (s.attemptFailed x).node = s.node ∧ (s.attemptFailed x).picture = s.picture ∧
      (s.attemptFailed x).window = s.window ∧ (s.attemptFailed x).areas = s.areas ∧
      (s.attemptFailed x).lastLost = s.lastLost ∧ (s.attemptFailed x).signOn = s.signOn ∧
      (s.attemptFailed x).clock = s.clock ∧ (s.attemptFailed x).handover = s.handover ∧
      (s.attemptFailed x).peers = s.peers ∧ (s.attemptFailed x).transfer = s.transfer ∧
      (s.attemptFailed x).second = s.second ∧ (s.attemptFailed x).freeCount = s.freeCount ∧
      (s.attemptFailed x).pending = s.pending := by
  unfold State.attemptFailed
  try dsimp only
  repeat' split
  all_goals simp

@[simp] theorem State.clearReports_frame (s : State) (p : PresenceTx) :
    (s.clearReports p).picture = s.picture ∧ (s.clearReports p).window = s.window ∧
      (s.clearReports p).areas = s.areas ∧ (s.clearReports p).lastLost = s.lastLost ∧
      (s.clearReports p).signOn = s.signOn ∧ (s.clearReports p).clock = s.clock ∧
      (s.clearReports p).handover = s.handover ∧ (s.clearReports p).bus = s.bus ∧ (s.clearReports p).tx = s.tx ∧
      (s.clearReports p).peers = s.peers ∧ (s.clearReports p).transfer = s.transfer ∧
      (s.clearReports p).port = s.port ∧ (s.clearReports p).second = s.second ∧
      (s.clearReports p).freeCount = s.freeCount ∧ (s.clearReports p).pending = s.pending := by
  unfold State.clearReports
  try dsimp only
  repeat' split
  all_goals simp

@[simp] theorem State.freePlace_frame (s : State) (c : TxClass) :
    (s.freePlace c).picture = s.picture ∧ (s.freePlace c).window = s.window ∧ (s.freePlace c).areas = s.areas ∧
      (s.freePlace c).lastLost = s.lastLost ∧ (s.freePlace c).signOn = s.signOn ∧
      (s.freePlace c).clock = s.clock ∧ (s.freePlace c).handover = s.handover ∧ (s.freePlace c).bus = s.bus ∧
      (s.freePlace c).peers = s.peers ∧ (s.freePlace c).transfer = s.transfer ∧ (s.freePlace c).port = s.port ∧
      (s.freePlace c).second = s.second ∧ (s.freePlace c).freeCount = s.freeCount ∧
      (s.freePlace c).pending = s.pending := by
  unfold State.freePlace
  try dsimp only
  repeat' split
  all_goals simp

@[simp] theorem State.streamSent_frame (s : State) :
    (s.streamSent).node = s.node ∧ (s.streamSent).picture = s.picture ∧ (s.streamSent).window = s.window ∧
      (s.streamSent).areas = s.areas ∧ (s.streamSent).lastLost = s.lastLost ∧ (s.streamSent).signOn = s.signOn ∧
      (s.streamSent).clock = s.clock ∧ (s.streamSent).handover = s.handover ∧ (s.streamSent).bus = s.bus ∧
      (s.streamSent).peers = s.peers ∧ (s.streamSent).port = s.port ∧ (s.streamSent).second = s.second ∧
      (s.streamSent).freeCount = s.freeCount ∧ (s.streamSent).pending = s.pending := by
  unfold State.streamSent
  try dsimp only
  repeat' split
  all_goals simp

@[simp] theorem State.attemptSent_frame (s : State) (x : Sending) :
    (s.attemptSent x).signOn = s.signOn ∧ (s.attemptSent x).clock = s.clock ∧
      (s.attemptSent x).second = s.second ∧ (s.attemptSent x).freeCount = s.freeCount ∧
      (s.attemptSent x).pending = s.pending := by
  unfold State.attemptSent
  try dsimp only
  repeat' split
  all_goals simp

@[simp] theorem State.endAttempt_frame (s : State) :
    (s.endAttempt).signOn = s.signOn ∧ (s.endAttempt).clock = s.clock ∧ (s.endAttempt).second = s.second ∧
      (s.endAttempt).freeCount = s.freeCount ∧ (s.endAttempt).pending = s.pending := by
  unfold State.endAttempt
  try dsimp only
  repeat' split
  all_goals simp

/-! ### Clock, calendar and second event -/

@[simp] theorem State.recompute_frame (s : State) :
    (s.recompute).node = s.node ∧ (s.recompute).picture = s.picture ∧ (s.recompute).window = s.window ∧
      (s.recompute).areas = s.areas ∧ (s.recompute).lastLost = s.lastLost ∧ (s.recompute).signOn = s.signOn ∧
      (s.recompute).handover = s.handover ∧ (s.recompute).bus = s.bus ∧ (s.recompute).tx = s.tx ∧
      (s.recompute).peers = s.peers ∧ (s.recompute).transfer = s.transfer ∧ (s.recompute).port = s.port ∧
      (s.recompute).second = s.second ∧ (s.recompute).freeCount = s.freeCount ∧
      (s.recompute).pending = s.pending := by
  unfold State.recompute
  try dsimp only
  all_goals simp

@[simp] theorem State.reachDue_frame (s : State) :
    (s.reachDue).node = s.node ∧ (s.reachDue).picture = s.picture ∧ (s.reachDue).window = s.window ∧
      (s.reachDue).areas = s.areas ∧ (s.reachDue).lastLost = s.lastLost ∧ (s.reachDue).signOn = s.signOn ∧
      (s.reachDue).handover = s.handover ∧ (s.reachDue).bus = s.bus ∧ (s.reachDue).tx = s.tx ∧
      (s.reachDue).peers = s.peers ∧ (s.reachDue).transfer = s.transfer ∧ (s.reachDue).second = s.second ∧
      (s.reachDue).freeCount = s.freeCount ∧ (s.reachDue).pending = s.pending := by
  unfold State.reachDue
  try dsimp only
  all_goals simp

@[simp] theorem State.reachStart_frame (s : State) :
    (s.reachStart).node = s.node ∧ (s.reachStart).picture = s.picture ∧ (s.reachStart).window = s.window ∧
      (s.reachStart).areas = s.areas ∧ (s.reachStart).lastLost = s.lastLost ∧ (s.reachStart).signOn = s.signOn ∧
      (s.reachStart).bus = s.bus ∧ (s.reachStart).tx = s.tx ∧ (s.reachStart).peers = s.peers ∧
      (s.reachStart).transfer = s.transfer ∧ (s.reachStart).port = s.port ∧ (s.reachStart).second = s.second ∧
      (s.reachStart).freeCount = s.freeCount ∧ (s.reachStart).pending = s.pending := by
  unfold State.reachStart
  try dsimp only
  all_goals simp

@[simp] theorem State.testOverdue_frame (s : State) :
    (s.testOverdue).node = s.node ∧ (s.testOverdue).picture = s.picture ∧ (s.testOverdue).window = s.window ∧
      (s.testOverdue).areas = s.areas ∧ (s.testOverdue).lastLost = s.lastLost ∧
      (s.testOverdue).signOn = s.signOn ∧ (s.testOverdue).handover = s.handover ∧ (s.testOverdue).bus = s.bus ∧
      (s.testOverdue).tx = s.tx ∧ (s.testOverdue).peers = s.peers ∧ (s.testOverdue).transfer = s.transfer ∧
      (s.testOverdue).second = s.second ∧ (s.testOverdue).freeCount = s.freeCount ∧
      (s.testOverdue).pending = s.pending := by
  unfold State.testOverdue
  try dsimp only
  repeat' split
  all_goals simp

@[simp] theorem State.dueWork_frame (s : State) :
    (s.dueWork).node = s.node ∧ (s.dueWork).picture = s.picture ∧ (s.dueWork).window = s.window ∧
      (s.dueWork).areas = s.areas ∧ (s.dueWork).lastLost = s.lastLost ∧ (s.dueWork).signOn = s.signOn ∧
      (s.dueWork).handover = s.handover ∧ (s.dueWork).bus = s.bus ∧ (s.dueWork).tx = s.tx ∧
      (s.dueWork).peers = s.peers ∧ (s.dueWork).transfer = s.transfer ∧ (s.dueWork).freeCount = s.freeCount ∧
      (s.dueWork).pending = s.pending := by
  unfold State.dueWork
  try dsimp only
  repeat' split
  all_goals simp

@[simp] theorem State.startWork_frame (s : State) :
    (s.startWork).node = s.node ∧ (s.startWork).picture = s.picture ∧ (s.startWork).window = s.window ∧
      (s.startWork).areas = s.areas ∧ (s.startWork).lastLost = s.lastLost ∧ (s.startWork).signOn = s.signOn ∧
      (s.startWork).bus = s.bus ∧ (s.startWork).tx = s.tx ∧ (s.startWork).peers = s.peers ∧
      (s.startWork).transfer = s.transfer ∧ (s.startWork).freeCount = s.freeCount ∧
      (s.startWork).pending = s.pending := by
  unfold State.startWork
  try dsimp only
  repeat' split
  all_goals simp

@[simp] theorem State.overdueWork_frame (s : State) :
    (s.overdueWork).node = s.node ∧ (s.overdueWork).picture = s.picture ∧ (s.overdueWork).window = s.window ∧
      (s.overdueWork).areas = s.areas ∧ (s.overdueWork).lastLost = s.lastLost ∧
      (s.overdueWork).signOn = s.signOn ∧ (s.overdueWork).bus = s.bus ∧ (s.overdueWork).tx = s.tx ∧
      (s.overdueWork).peers = s.peers ∧ (s.overdueWork).transfer = s.transfer ∧
      (s.overdueWork).freeCount = s.freeCount ∧ (s.overdueWork).pending = s.pending := by
  unfold State.overdueWork
  try dsimp only
  repeat' split
  all_goals simp

@[simp] theorem State.scheduleWork_frame (s : State) :
    (s.scheduleWork).node = s.node ∧ (s.scheduleWork).picture = s.picture ∧ (s.scheduleWork).window = s.window ∧
      (s.scheduleWork).areas = s.areas ∧ (s.scheduleWork).lastLost = s.lastLost ∧
      (s.scheduleWork).signOn = s.signOn ∧ (s.scheduleWork).clock = s.clock ∧ (s.scheduleWork).bus = s.bus ∧
      (s.scheduleWork).tx = s.tx ∧ (s.scheduleWork).peers = s.peers ∧ (s.scheduleWork).transfer = s.transfer ∧
      (s.scheduleWork).port = s.port ∧ (s.scheduleWork).freeCount = s.freeCount ∧
      (s.scheduleWork).pending = s.pending := by
  unfold State.scheduleWork
  try dsimp only
  repeat' split
  all_goals simp

@[simp] theorem State.finishCalendar_frame (s : State) :
    (s.finishCalendar).node = s.node ∧ (s.finishCalendar).picture = s.picture ∧
      (s.finishCalendar).window = s.window ∧ (s.finishCalendar).areas = s.areas ∧
      (s.finishCalendar).lastLost = s.lastLost ∧ (s.finishCalendar).signOn = s.signOn ∧
      (s.finishCalendar).bus = s.bus ∧ (s.finishCalendar).tx = s.tx ∧ (s.finishCalendar).peers = s.peers ∧
      (s.finishCalendar).transfer = s.transfer ∧ (s.finishCalendar).freeCount = s.freeCount ∧
      (s.finishCalendar).pending = s.pending := by
  unfold State.finishCalendar
  try dsimp only
  all_goals simp

@[simp] theorem State.forwardStep_frame (s : State) (a b : Nat) :
    (s.forwardStep a b).node = s.node ∧ (s.forwardStep a b).picture = s.picture ∧
      (s.forwardStep a b).window = s.window ∧ (s.forwardStep a b).areas = s.areas ∧
      (s.forwardStep a b).lastLost = s.lastLost ∧ (s.forwardStep a b).signOn = s.signOn ∧
      (s.forwardStep a b).bus = s.bus ∧ (s.forwardStep a b).tx = s.tx ∧ (s.forwardStep a b).peers = s.peers ∧
      (s.forwardStep a b).transfer = s.transfer ∧ (s.forwardStep a b).second = s.second ∧
      (s.forwardStep a b).freeCount = s.freeCount ∧ (s.forwardStep a b).pending = s.pending := by
  unfold State.forwardStep
  try dsimp only
  repeat' split
  all_goals simp

@[simp] theorem State.backwardStep_frame (s : State) (a : Nat) :
    (s.backwardStep a).node = s.node ∧ (s.backwardStep a).picture = s.picture ∧
      (s.backwardStep a).window = s.window ∧ (s.backwardStep a).areas = s.areas ∧
      (s.backwardStep a).lastLost = s.lastLost ∧ (s.backwardStep a).signOn = s.signOn ∧
      (s.backwardStep a).handover = s.handover ∧ (s.backwardStep a).bus = s.bus ∧ (s.backwardStep a).tx = s.tx ∧
      (s.backwardStep a).peers = s.peers ∧ (s.backwardStep a).transfer = s.transfer ∧
      (s.backwardStep a).port = s.port ∧ (s.backwardStep a).second = s.second ∧
      (s.backwardStep a).freeCount = s.freeCount ∧ (s.backwardStep a).pending = s.pending := by
  unfold State.backwardStep
  try dsimp only
  all_goals simp

@[simp] theorem State.stepClock_frame (s : State) (a : Nat) :
    (s.stepClock a).node = s.node ∧ (s.stepClock a).picture = s.picture ∧ (s.stepClock a).window = s.window ∧
      (s.stepClock a).areas = s.areas ∧ (s.stepClock a).lastLost = s.lastLost ∧
      (s.stepClock a).signOn = s.signOn ∧ (s.stepClock a).bus = s.bus ∧ (s.stepClock a).tx = s.tx ∧
      (s.stepClock a).peers = s.peers ∧ (s.stepClock a).transfer = s.transfer ∧
      (s.stepClock a).freeCount = s.freeCount ∧ (s.stepClock a).pending = s.pending := by
  unfold State.stepClock
  try dsimp only
  repeat' split
  all_goals simp

@[simp] theorem State.shelfWork_frame (s : State) :
    (s.shelfWork).node = s.node ∧ (s.shelfWork).areas = s.areas ∧ (s.shelfWork).lastLost = s.lastLost ∧
      (s.shelfWork).signOn = s.signOn ∧ (s.shelfWork).clock = s.clock ∧ (s.shelfWork).handover = s.handover ∧
      (s.shelfWork).bus = s.bus ∧ (s.shelfWork).tx = s.tx ∧ (s.shelfWork).peers = s.peers ∧
      (s.shelfWork).transfer = s.transfer ∧ (s.shelfWork).port = s.port ∧ (s.shelfWork).pending = s.pending := by
  unfold State.shelfWork
  try dsimp only
  repeat' split
  all_goals simp

@[simp] theorem State.deadlineWork_frame (s : State) :
    (s.deadlineWork).node = s.node ∧ (s.deadlineWork).window = s.window ∧ (s.deadlineWork).areas = s.areas ∧
      (s.deadlineWork).lastLost = s.lastLost ∧ (s.deadlineWork).signOn = s.signOn ∧
      (s.deadlineWork).clock = s.clock ∧ (s.deadlineWork).handover = s.handover ∧ (s.deadlineWork).bus = s.bus ∧
      (s.deadlineWork).tx = s.tx ∧ (s.deadlineWork).peers = s.peers ∧ (s.deadlineWork).transfer = s.transfer ∧
      (s.deadlineWork).pending = s.pending := by
  unfold State.deadlineWork
  try dsimp only
  repeat' split
  all_goals simp

@[simp] theorem State.repeatWork_frame (s : State) :
    (s.repeatWork).node = s.node ∧ (s.repeatWork).picture = s.picture ∧ (s.repeatWork).window = s.window ∧
      (s.repeatWork).areas = s.areas ∧ (s.repeatWork).lastLost = s.lastLost ∧ (s.repeatWork).signOn = s.signOn ∧
      (s.repeatWork).clock = s.clock ∧ (s.repeatWork).handover = s.handover ∧ (s.repeatWork).bus = s.bus ∧
      (s.repeatWork).peers = s.peers ∧ (s.repeatWork).port = s.port ∧ (s.repeatWork).freeCount = s.freeCount ∧
      (s.repeatWork).pending = s.pending := by
  unfold State.repeatWork
  try dsimp only
  repeat' split
  all_goals simp

@[simp] theorem State.lineWork_frame (s : State) :
    (s.lineWork).node = s.node ∧ (s.lineWork).picture = s.picture ∧ (s.lineWork).window = s.window ∧
      (s.lineWork).areas = s.areas ∧ (s.lineWork).lastLost = s.lastLost ∧ (s.lineWork).signOn = s.signOn ∧
      (s.lineWork).clock = s.clock ∧ (s.lineWork).handover = s.handover ∧ (s.lineWork).tx = s.tx ∧
      (s.lineWork).peers = s.peers ∧ (s.lineWork).transfer = s.transfer ∧ (s.lineWork).second = s.second ∧
      (s.lineWork).freeCount = s.freeCount ∧ (s.lineWork).pending = s.pending := by
  unfold State.lineWork
  try dsimp only
  all_goals simp

@[simp] theorem State.peerWork_frame (s : State) :
    (s.peerWork).node = s.node ∧ (s.peerWork).lastLost = s.lastLost ∧ (s.peerWork).signOn = s.signOn ∧
      (s.peerWork).clock = s.clock ∧ (s.peerWork).second = s.second ∧ (s.peerWork).freeCount = s.freeCount ∧
      (s.peerWork).pending = s.pending := by
  unfold State.peerWork
  refine ⟨foldl_keeps State.node _ (by simp) _ s, foldl_keeps State.lastLost _ (by simp) _ s,
    foldl_keeps State.signOn _ (by simp) _ s, foldl_keeps State.clock _ (by simp) _ s,
    foldl_keeps State.second _ (by simp) _ s, foldl_keeps State.freeCount _ (by simp) _ s,
    foldl_keeps State.pending _ (by simp) _ s⟩

@[simp] theorem State.graceWork_frame (s : State) :
    (s.graceWork).node = s.node ∧ (s.graceWork).picture = s.picture ∧ (s.graceWork).window = s.window ∧
      (s.graceWork).lastLost = s.lastLost ∧ (s.graceWork).signOn = s.signOn ∧ (s.graceWork).clock = s.clock ∧
      (s.graceWork).handover = s.handover ∧ (s.graceWork).bus = s.bus ∧ (s.graceWork).peers = s.peers ∧
      (s.graceWork).transfer = s.transfer ∧ (s.graceWork).second = s.second ∧
      (s.graceWork).freeCount = s.freeCount ∧ (s.graceWork).pending = s.pending := by
  unfold State.graceWork
  refine ⟨foldl_keeps State.node _ (by simp) _ s, foldl_keeps State.picture _ (by simp) _ s,
    foldl_keeps State.window _ (by simp) _ s, foldl_keeps State.lastLost _ (by simp) _ s,
    foldl_keeps State.signOn _ (by simp) _ s, foldl_keeps State.clock _ (by simp) _ s,
    foldl_keeps State.handover _ (by simp) _ s, foldl_keeps State.bus _ (by simp) _ s,
    foldl_keeps State.peers _ (by simp) _ s, foldl_keeps State.transfer _ (by simp) _ s,
    foldl_keeps State.second _ (by simp) _ s, foldl_keeps State.freeCount _ (by simp) _ s,
    foldl_keeps State.pending _ (by simp) _ s⟩

@[simp] theorem State.rebadgeWork_frame (s : State) :
    (s.rebadgeWork).node = s.node ∧ (s.rebadgeWork).picture = s.picture ∧ (s.rebadgeWork).window = s.window ∧
      (s.rebadgeWork).areas = s.areas ∧ (s.rebadgeWork).lastLost = s.lastLost ∧ (s.rebadgeWork).signOn = s.signOn ∧
      (s.rebadgeWork).clock = s.clock ∧ (s.rebadgeWork).bus = s.bus ∧ (s.rebadgeWork).peers = s.peers ∧
      (s.rebadgeWork).transfer = s.transfer ∧ (s.rebadgeWork).port = s.port ∧ (s.rebadgeWork).second = s.second ∧
      (s.rebadgeWork).freeCount = s.freeCount ∧ (s.rebadgeWork).pending = s.pending := by
  unfold State.rebadgeWork
  simp

@[simp] theorem State.offerWork_frame (s : State) :
    (s.offerWork).node = s.node ∧ (s.offerWork).picture = s.picture ∧ (s.offerWork).window = s.window ∧
      (s.offerWork).areas = s.areas ∧ (s.offerWork).lastLost = s.lastLost ∧ (s.offerWork).signOn = s.signOn ∧
      (s.offerWork).clock = s.clock ∧ (s.offerWork).bus = s.bus ∧ (s.offerWork).peers = s.peers ∧
      (s.offerWork).transfer = s.transfer ∧ (s.offerWork).second = s.second ∧ (s.offerWork).pending = s.pending := by
  unfold State.offerWork
  try dsimp only
  all_goals simp

@[simp] theorem State.refreshWork_frame (s : State) :
    (s.refreshWork).node = s.node ∧ (s.refreshWork).picture = s.picture ∧ (s.refreshWork).window = s.window ∧
      (s.refreshWork).areas = s.areas ∧ (s.refreshWork).lastLost = s.lastLost ∧
      (s.refreshWork).signOn = s.signOn ∧ (s.refreshWork).clock = s.clock ∧
      (s.refreshWork).handover = s.handover ∧ (s.refreshWork).bus = s.bus ∧ (s.refreshWork).peers = s.peers ∧
      (s.refreshWork).freeCount = s.freeCount ∧ (s.refreshWork).pending = s.pending := by
  unfold State.refreshWork
  try dsimp only
  all_goals simp

@[simp] theorem State.markInstants_frame (s : State) :
    (s.markInstants).node = s.node ∧ (s.markInstants).picture = s.picture ∧ (s.markInstants).window = s.window ∧
      (s.markInstants).areas = s.areas ∧ (s.markInstants).lastLost = s.lastLost ∧
      (s.markInstants).signOn = s.signOn ∧ (s.markInstants).handover = s.handover ∧
      (s.markInstants).bus = s.bus ∧ (s.markInstants).tx = s.tx ∧ (s.markInstants).peers = s.peers ∧
      (s.markInstants).transfer = s.transfer ∧ (s.markInstants).port = s.port ∧
      (s.markInstants).freeCount = s.freeCount ∧ (s.markInstants).pending = s.pending := by
  unfold State.markInstants
  try dsimp only
  repeat' split
  all_goals simp

@[simp] theorem State.markTests_frame (s : State) :
    (s.markTests).node = s.node ∧ (s.markTests).picture = s.picture ∧ (s.markTests).window = s.window ∧
      (s.markTests).areas = s.areas ∧ (s.markTests).lastLost = s.lastLost ∧ (s.markTests).signOn = s.signOn ∧
      (s.markTests).clock = s.clock ∧ (s.markTests).handover = s.handover ∧ (s.markTests).bus = s.bus ∧
      (s.markTests).tx = s.tx ∧ (s.markTests).peers = s.peers ∧ (s.markTests).transfer = s.transfer ∧
      (s.markTests).port = s.port ∧ (s.markTests).freeCount = s.freeCount ∧ (s.markTests).pending = s.pending := by
  unfold State.markTests
  try dsimp only
  all_goals simp

@[simp] theorem State.presenceWork_frame (s : State) :
    (s.presenceWork).picture = s.picture ∧ (s.presenceWork).window = s.window ∧
      (s.presenceWork).areas = s.areas ∧ (s.presenceWork).lastLost = s.lastLost ∧
      (s.presenceWork).signOn = s.signOn ∧ (s.presenceWork).clock = s.clock ∧ (s.presenceWork).bus = s.bus ∧
      (s.presenceWork).peers = s.peers ∧ (s.presenceWork).transfer = s.transfer ∧
      (s.presenceWork).second = s.second ∧ (s.presenceWork).pending = s.pending := by
  unfold State.presenceWork
  try dsimp only
  repeat' split
  all_goals simp

@[simp] theorem State.beginSecond_frame (s : State) :
    (s.beginSecond).picture = s.picture ∧ (s.beginSecond).window = s.window ∧
      (s.beginSecond).lastLost = s.lastLost ∧ (s.beginSecond).signOn = s.signOn ∧
      (s.beginSecond).transfer = s.transfer ∧ (s.beginSecond).pending = s.pending := by
  unfold State.beginSecond
  try dsimp only
  all_goals simp

@[simp] theorem State.finishSecond_frame (s : State) :
    (s.finishSecond).lastLost = s.lastLost ∧ (s.finishSecond).signOn = s.signOn ∧
      (s.finishSecond).pending = s.pending := by
  unfold State.finishSecond
  try dsimp only
  all_goals simp

@[simp] theorem State.secondEvent_frame (s : State) :
    (s.secondEvent).lastLost = s.lastLost ∧ (s.secondEvent).signOn = s.signOn ∧
      (s.secondEvent).pending = s.pending := by
  unfold State.secondEvent
  try dsimp only
  all_goals simp

end Sys2Proof.Machine
end

