-- ==== Sys2Proof/Laws/Lists.lean ====
section
/-! SUPPORT. The alarm list: what placing, removing and changing a record do to its members, ids and length. -/

namespace Sys2Proof.Machine

@[simp] theorem mem_place {r x : AlarmRecord} {l : List AlarmRecord} : x ∈ place r l ↔ x = r ∨ x ∈ l := by
  induction l with
  | nil => simp [place]
  | cons y rest ih =>
    unfold place
    split
    · simp
    · simp only [List.mem_cons, ih]
      exact ⟨fun h => h.elim (fun h => .inr (.inl h)) (fun h => h.elim .inl (fun h => .inr (.inr h))),
        fun h => h.elim (fun h => .inr (.inl h)) (fun h => h.elim .inl (fun h => .inr (.inr h)))⟩

@[simp] theorem length_place (r : AlarmRecord) (l : List AlarmRecord) : (place r l).length = l.length + 1 := by
  induction l with
  | nil => rfl
  | cons y rest ih => unfold place; split <;> simp [ih]

@[simp] theorem mem_dropRecord {id : AlarmId} {x : AlarmRecord} {l : List AlarmRecord} :
    x ∈ dropRecord id l ↔ x ∈ l ∧ x.id ≠ id := by
  simp [dropRecord]

theorem length_dropRecord (id : AlarmId) (l : List AlarmRecord) : (dropRecord id l).length ≤ l.length :=
  List.length_filter_le _ _

/-- A change that keeps the id keeps the ids of the list. -/
theorem map_id_changeRecord (id : AlarmId) (f : AlarmRecord → AlarmRecord) (h : ∀ r, (f r).id = r.id)
    (l : List AlarmRecord) : (changeRecord id f l).map AlarmRecord.id = l.map AlarmRecord.id := by
  simp only [changeRecord, List.map_map]
  refine List.map_congr_left fun r _ => ?_
  simp only [Function.comp]
  split <;> simp [h]

@[simp] theorem length_changeRecord (id : AlarmId) (f : AlarmRecord → AlarmRecord) (l : List AlarmRecord) :
    (changeRecord id f l).length = l.length := by
  simp [changeRecord]

/-- A record found is in the list and has the id. -/
theorem findRecord_some {id : AlarmId} {l : List AlarmRecord} {r : AlarmRecord} (h : findRecord id l = some r) :
    r ∈ l ∧ r.id = id :=
  ⟨List.mem_of_find?_eq_some h, by simpa using List.find?_some h⟩

/-- No record has an id that is not found. -/
theorem findRecord_none {id : AlarmId} {l : List AlarmRecord} : findRecord id l = none ↔ ∀ r ∈ l, r.id ≠ id := by
  simp [findRecord]

/-- The record that eviction removes is an ACK record of the list (R3). -/
theorem evictee_some {l : List AlarmRecord} {e : AlarmRecord} (h : evictee l = some e) :
    e ∈ l ∧ e.handling.isAck = true := by
  induction l generalizing e with
  | nil => cases h
  | cons r rest ih =>
    unfold evictee at h
    split at h
    · split at h
      · cases h
        exact ⟨List.mem_cons_self, ‹_›⟩
      · cases h
    · rename_i e' he
      split at h
      · rename_i hc
        cases h
        simp only [Bool.and_eq_true] at hc
        exact ⟨List.mem_cons_self, hc.1⟩
      · cases h
        exact ⟨List.mem_cons_of_mem _ (ih he).1, (ih he).2⟩

/-- Putting a list in place gives that list. -/
@[simp] theorem State.setList_list (s : State) (l : List AlarmRecord) : (s.setList l).picture.list = l := rfl

@[simp] theorem State.setList_arrivals (s : State) (l : List AlarmRecord) :
    (s.setList l).picture.arrivals = s.picture.arrivals := rfl

@[simp] theorem State.setList_lastStale (s : State) (l : List AlarmRecord) :
    (s.setList l).picture.lastStale = s.picture.lastStale := rfl

@[simp] theorem State.soundFor_list (s : State) (r : AlarmRecord) (f : Bool) :
    (s.soundFor r f).picture.list = s.picture.list := by
  unfold State.soundFor
  split <;> rfl

/-- An insertion that finds room holds the new record and nothing that was not there (R3). -/
theorem State.insert_list {s t : State} {r : AlarmRecord} (h : s.insert r = some t) :
    { r with arrivalSeq := s.picture.arrivals } ∈ t.picture.list ∧
      ∀ x ∈ t.picture.list, x = { r with arrivalSeq := s.picture.arrivals } ∨ x ∈ s.picture.list := by
  unfold State.insert at h
  dsimp only at h
  split at h
  · cases h
    simp
  · split at h
    · cases h
    · cases h
      refine ⟨by simp, fun x hx => ?_⟩
      simp only [State.setList_list, mem_place, mem_dropRecord] at hx
      exact hx.imp id And.left

/-- A record placed is found, and no other id is found anew. -/
theorem findRecord_place (id : AlarmId) (r : AlarmRecord) (l : List AlarmRecord) (h : r.id = id → findRecord id l = none) :
    findRecord id (place r l) = if r.id = id then some r else findRecord id l := by
  induction l with
  | nil => by_cases e : r.id = id <;> simp [place, findRecord, e]
  | cons x rest ih =>
    have ih := ih (fun e => by
      have := h e
      simp only [findRecord_none, List.mem_cons, forall_eq_or_imp] at this ⊢
      exact this.2)
    unfold place
    by_cases e : r.id = id
    · have := h e
      simp only [findRecord_none, List.mem_cons, forall_eq_or_imp] at this
      simp only [e, if_true] at ih ⊢
      split
      · simp [findRecord, e]
      · simpa [findRecord, List.find?_cons, this.1] using ih
    · simp only [e, if_false] at ih ⊢
      split
      · simp [findRecord, List.find?_cons, e]
      · simp only [findRecord, List.find?_cons] at ih ⊢
        rw [ih]

/-- A record dropped is not found, and every other one is found as before. -/
theorem findRecord_dropRecord (id other : AlarmId) (l : List AlarmRecord) :
    findRecord other (dropRecord id l) = if other = id then none else findRecord other l := by
  split
  · next h => subst h; rw [findRecord_none]; intro r hr; exact (mem_dropRecord.mp hr).2
  · next h =>
    unfold findRecord dropRecord
    rw [List.find?_filter]
    congr 1
    funext r
    by_cases e : r.id = other <;> simp [e, h]

/-- A record changed where it stands is found changed, and every other one as before. -/
theorem findRecord_changeRecord (id other : AlarmId) (f : AlarmRecord → AlarmRecord) (hf : ∀ r, (f r).id = r.id)
    (l : List AlarmRecord) :
    findRecord other (changeRecord id f l) =
      if other = id then (findRecord other l).map f else findRecord other l := by
  induction l with
  | nil => simp [findRecord, changeRecord]
  | cons x rest ih =>
    simp only [findRecord, changeRecord, List.map_cons, List.find?_cons] at ih ⊢
    rw [ih]
    by_cases e : x.id = id
    · by_cases o : other = id
      · simp [e, o, hf]
      · have : (id == other) = false := by simpa using fun z => o z.symm
        simp [e, o, hf, this]
    · by_cases o : other = id
      · have : (x.id == id) = false := by simpa using e
        simp [o, this]
      · simp [e, o]
/-- The mask of a test has the areas 0 to 31 that satisfy it. -/
theorem getLsbD_areaSetOf (p : Nat → Bool) (a : Nat) : (areaSetOf p).getLsbD a = (decide (a < 32) && p a) := by
  have key : ∀ (l : List Nat) (m : AreaSet), (l.foldl (fun m a => m ||| BitVec.twoPow 32 a) m).getLsbD a =
      (m.getLsbD a || (decide (a < 32) && decide (a ∈ l))) := by
    intro l
    induction l with
    | nil => simp
    | cons x rest ih =>
      intro m
      rw [List.foldl_cons, ih, BitVec.getLsbD_or, BitVec.getLsbD_twoPow, Bool.or_assoc]
      congr 1
      rw [Bool.eq_iff_iff]
      simp only [Bool.or_eq_true, Bool.and_eq_true, decide_eq_true_eq, List.mem_cons]
      by_cases h : a ∈ rest <;> simp [h] <;> omega
  unfold areaSetOf
  rw [key]
  by_cases h : a < 32 <;> simp [h, List.mem_filter]

end Sys2Proof.Machine
end

