-- ==== Sys2Proof/Laws/PerInstr.lean ====
section
/-! SUPPORT. Statements about every command as syntax, one lemma for each constructor. -/

namespace Sys2Proof.Laws

open Sys2Proof.Machine

/-- A request fits the port: its code is neither 00h nor FFh, which name no request, and its body is at most 62 bytes
long (R172, 13.4). -/
def RequestShape.Statement (i : Instr) : Prop :=
  ∀ own code body, requestBytes own i = some (code, body) → code ≠ 0x00 ∧ code ≠ 0xFF ∧ body.length ≤ 62

theorem RequestShape.powerOnReset : RequestShape.Statement (.powerOnReset) := by
  intro own code body h
  cases h

theorem RequestShape.resetN : RequestShape.Statement (.resetN) := by
  intro own code body h
  cases h

theorem RequestShape.partStart : RequestShape.Statement (.partStart) := by
  intro own code body h
  cases h

theorem RequestShape.discardedTransaction (cause : DiscardCause) :
    RequestShape.Statement (.discardedTransaction cause) := by
  intro own code body h
  cases h

theorem RequestShape.busyPeriodEnd : RequestShape.Statement (.busyPeriodEnd) := by
  intro own code body h
  cases h

theorem RequestShape.unknownRequest (code : Byte) : RequestShape.Statement (.unknownRequest code) := by
  intro own code body h
  cases h

theorem RequestShape.nop : RequestShape.Statement (.nop) := by
  intro own code body h
  cases h
  exact ⟨by decide, by decide, Nat.le_of_ble_eq_true rfl⟩

theorem RequestShape.readStatus : RequestShape.Statement (.readStatus) := by
  intro own code body h
  cases h
  exact ⟨by decide, by decide, Nat.le_of_ble_eq_true rfl⟩

theorem RequestShape.readAttention : RequestShape.Statement (.readAttention) := by
  intro own code body h
  cases h
  exact ⟨by decide, by decide, Nat.le_of_ble_eq_true rfl⟩

theorem RequestShape.readPeer (station : Byte) : RequestShape.Statement (.readPeer station) := by
  intro own code body h
  cases h
  exact ⟨by decide, by decide, Nat.le_of_ble_eq_true rfl⟩

theorem RequestShape.readArea (area : Byte) : RequestShape.Statement (.readArea area) := by
  intro own code body h
  cases h
  exact ⟨by decide, by decide, Nat.le_of_ble_eq_true rfl⟩

theorem RequestShape.readAlarm (area : Byte) (point : Half) : RequestShape.Statement (.readAlarm area point) := by
  intro own code body h
  cases h
  exact ⟨by decide, by decide, Nat.le_of_ble_eq_true rfl⟩

theorem RequestShape.readList (start : Half) : RequestShape.Statement (.readList start) := by
  intro own code body h
  cases h
  exact ⟨by decide, by decide, Nat.le_of_ble_eq_true rfl⟩

theorem RequestShape.readWindow : RequestShape.Statement (.readWindow) := by
  intro own code body h
  cases h
  exact ⟨by decide, by decide, Nat.le_of_ble_eq_true rfl⟩

theorem RequestShape.readHandover : RequestShape.Statement (.readHandover) := by
  intro own code body h
  cases h
  exact ⟨by decide, by decide, Nat.le_of_ble_eq_true rfl⟩

theorem RequestShape.setTrim (trim : Byte) : RequestShape.Statement (.setTrim trim) := by
  intro own code body h
  cases h
  exact ⟨by decide, by decide, Nat.le_of_ble_eq_true rfl⟩

theorem RequestShape.restart : RequestShape.Statement (.restart) := by
  intro own code body h
  cases h
  exact ⟨by decide, by decide, Nat.le_of_ble_eq_true rfl⟩

theorem RequestShape.setStation (number : Byte) (gap : Byte) : RequestShape.Statement (.setStation number gap) := by
  intro own code body h
  cases h
  exact ⟨by decide, by decide, Nat.le_of_ble_eq_true rfl⟩

theorem RequestShape.setArea (area : Byte) (configured : Byte) (settings : Option AreaSettings) :
    RequestShape.Statement (.setArea area configured settings) := by
  intro own code body h
  cases settings <;> (cases h; exact ⟨by decide, by decide, Nat.le_of_ble_eq_true rfl⟩)

theorem RequestShape.setShiftPattern (perDay : Byte) (firstStart : Half) (lead : Byte) (grace : Byte) :
    RequestShape.Statement (.setShiftPattern perDay firstStart lead grace) := by
  intro own code body h
  cases h
  exact ⟨by decide, by decide, Nat.le_of_ble_eq_true rfl⟩

theorem RequestShape.setClock (millTime : Quad) : RequestShape.Statement (.setClock millTime) := by
  intro own code body h
  cases h
  exact ⟨by decide, by decide, Nat.le_of_ble_eq_true rfl⟩

theorem RequestShape.join : RequestShape.Statement (.join) := by
  intro own code body h
  cases h
  exact ⟨by decide, by decide, Nat.le_of_ble_eq_true rfl⟩

theorem RequestShape.signOn (badge : Badge) (rank : Byte) (qualified : AreaSet) :
    RequestShape.Statement (.signOn badge rank qualified) := by
  intro own code body h
  cases h
  exact ⟨by decide, by decide, Nat.le_of_ble_eq_true rfl⟩

theorem RequestShape.signOnRelief (badge : Badge) (rank : Byte) (qualified : AreaSet) :
    RequestShape.Statement (.signOnRelief badge rank qualified) := by
  intro own code body h
  cases h
  exact ⟨by decide, by decide, Nat.le_of_ble_eq_true rfl⟩

theorem RequestShape.signOffActive : RequestShape.Statement (.signOffActive) := by
  intro own code body h
  cases h
  exact ⟨by decide, by decide, Nat.le_of_ble_eq_true rfl⟩

theorem RequestShape.signOffRelief (slot : Byte) : RequestShape.Statement (.signOffRelief slot) := by
  intro own code body h
  cases h
  exact ⟨by decide, by decide, Nat.le_of_ble_eq_true rfl⟩

theorem RequestShape.setActingRank (slot : Byte) (rank : Byte) :
    RequestShape.Statement (.setActingRank slot rank) := by
  intro own code body h
  cases h
  exact ⟨by decide, by decide, Nat.le_of_ble_eq_true rfl⟩

theorem RequestShape.postRaise (area : Byte) (point : Half) (priority : Byte) :
    RequestShape.Statement (.postRaise area point priority) := by
  intro own code body h
  cases h
  exact ⟨by decide, by decide, Nat.le_of_ble_eq_true rfl⟩

theorem RequestShape.postClear (area : Byte) (point : Half) : RequestShape.Statement (.postClear area point) := by
  intro own code body h
  cases h
  exact ⟨by decide, by decide, Nat.le_of_ble_eq_true rfl⟩

theorem RequestShape.acknowledge (area : Byte) (point : Half) (occurrence : Byte) :
    RequestShape.Statement (.acknowledge area point occurrence) := by
  intro own code body h
  cases h
  exact ⟨by decide, by decide, Nat.le_of_ble_eq_true rfl⟩

theorem RequestShape.acknowledgeArea (area : Byte) : RequestShape.Statement (.acknowledgeArea area) := by
  intro own code body h
  cases h
  exact ⟨by decide, by decide, Nat.le_of_ble_eq_true rfl⟩

theorem RequestShape.acknowledgeAtCursor : RequestShape.Statement (.acknowledgeAtCursor) := by
  intro own code body h
  cases h
  exact ⟨by decide, by decide, Nat.le_of_ble_eq_true rfl⟩

theorem RequestShape.shelve (area : Byte) (point : Half) (minutes : Half) :
    RequestShape.Statement (.shelve area point minutes) := by
  intro own code body h
  cases h
  exact ⟨by decide, by decide, Nat.le_of_ble_eq_true rfl⟩

theorem RequestShape.unshelve (area : Byte) (point : Half) : RequestShape.Statement (.unshelve area point) := by
  intro own code body h
  cases h
  exact ⟨by decide, by decide, Nat.le_of_ble_eq_true rfl⟩

theorem RequestShape.silenceHorn : RequestShape.Statement (.silenceHorn) := by
  intro own code body h
  cases h
  exact ⟨by decide, by decide, Nat.le_of_ble_eq_true rfl⟩

theorem RequestShape.placeCursor (row : Byte) : RequestShape.Statement (.placeCursor row) := by
  intro own code body h
  cases h
  exact ⟨by decide, by decide, Nat.le_of_ble_eq_true rfl⟩

theorem RequestShape.scroll (offset : Half) : RequestShape.Statement (.scroll offset) := by
  intro own code body h
  cases h
  exact ⟨by decide, by decide, Nat.le_of_ble_eq_true rfl⟩

theorem RequestShape.setScope (scope : Byte) : RequestShape.Statement (.setScope scope) := by
  intro own code body h
  cases h
  exact ⟨by decide, by decide, Nat.le_of_ble_eq_true rfl⟩

theorem RequestShape.setFocus (area : Byte) : RequestShape.Statement (.setFocus area) := by
  intro own code body h
  cases h
  exact ⟨by decide, by decide, Nat.le_of_ble_eq_true rfl⟩

theorem RequestShape.setEntryMode (direction : Byte) (follow : Byte) :
    RequestShape.Statement (.setEntryMode direction follow) := by
  intro own code body h
  cases h
  exact ⟨by decide, by decide, Nat.le_of_ble_eq_true rfl⟩

theorem RequestShape.claimArea (area : Byte) : RequestShape.Statement (.claimArea area) := by
  intro own code body h
  cases h
  exact ⟨by decide, by decide, Nat.le_of_ble_eq_true rfl⟩

theorem RequestShape.takeArea (area : Byte) : RequestShape.Statement (.takeArea area) := by
  intro own code body h
  cases h
  exact ⟨by decide, by decide, Nat.le_of_ble_eq_true rfl⟩

theorem RequestShape.offerHandover (target : Byte) (areas : AreaSet) :
    RequestShape.Statement (.offerHandover target areas) := by
  intro own code body h
  cases h
  exact ⟨by decide, by decide, Nat.le_of_ble_eq_true rfl⟩

theorem RequestShape.offerSeatChange (areas : AreaSet) : RequestShape.Statement (.offerSeatChange areas) := by
  intro own code body h
  cases h
  exact ⟨by decide, by decide, Nat.le_of_ble_eq_true rfl⟩

theorem RequestShape.acceptHandover (number : Byte) : RequestShape.Statement (.acceptHandover number) := by
  intro own code body h
  cases h
  exact ⟨by decide, by decide, Nat.le_of_ble_eq_true rfl⟩

theorem RequestShape.declineHandover (number : Byte) : RequestShape.Statement (.declineHandover number) := by
  intro own code body h
  cases h
  exact ⟨by decide, by decide, Nat.le_of_ble_eq_true rfl⟩

theorem RequestShape.withdrawOffer : RequestShape.Statement (.withdrawOffer) := by
  intro own code body h
  cases h
  exact ⟨by decide, by decide, Nat.le_of_ble_eq_true rfl⟩

theorem RequestShape.scheduleOffer (target : Byte) (areas : AreaSet) (fireTime : Quad) :
    RequestShape.Statement (.scheduleOffer target areas fireTime) := by
  intro own code body h
  cases h
  exact ⟨by decide, by decide, Nat.le_of_ble_eq_true rfl⟩

theorem RequestShape.cancelSchedule : RequestShape.Statement (.cancelSchedule) := by
  intro own code body h
  cases h
  exact ⟨by decide, by decide, Nat.le_of_ble_eq_true rfl⟩

theorem RequestShape.secondEvent : RequestShape.Statement (.secondEvent) := by
  intro own code body h
  cases h

theorem RequestShape.shelfExpiry : RequestShape.Statement (.shelfExpiry) := by
  intro own code body h
  cases h

theorem RequestShape.responseDeadline : RequestShape.Statement (.responseDeadline) := by
  intro own code body h
  cases h

theorem RequestShape.orphanGraceRunOut (area : Byte) : RequestShape.Statement (.orphanGraceRunOut area) := by
  intro own code body h
  cases h

theorem RequestShape.peerLost (station : Byte) : RequestShape.Statement (.peerLost station) := by
  intro own code body h
  cases h

theorem RequestShape.consoleDark : RequestShape.Statement (.consoleDark) := by
  intro own code body h
  cases h

theorem RequestShape.listenEnd : RequestShape.Statement (.listenEnd) := by
  intro own code body h
  cases h

theorem RequestShape.lineRecovery (line : LineName) : RequestShape.Statement (.lineRecovery line) := by
  intro own code body h
  cases h

theorem RequestShape.lineSilent (line : LineName) : RequestShape.Statement (.lineSilent line) := by
  intro own code body h
  cases h

theorem RequestShape.dueInstant : RequestShape.Statement (.dueInstant) := by
  intro own code body h
  cases h

theorem RequestShape.shiftStart : RequestShape.Statement (.shiftStart) := by
  intro own code body h
  cases h

theorem RequestShape.overdueInstant : RequestShape.Statement (.overdueInstant) := by
  intro own code body h
  cases h

theorem RequestShape.scheduleReached : RequestShape.Statement (.scheduleReached) := by
  intro own code body h
  cases h

theorem RequestShape.scheduledOfferFire : RequestShape.Statement (.scheduledOfferFire) := by
  intro own code body h
  cases h

theorem RequestShape.offerTimeout : RequestShape.Statement (.offerTimeout) := by
  intro own code body h
  cases h

theorem RequestShape.decisionWindow : RequestShape.Statement (.decisionWindow) := by
  intro own code body h
  cases h

theorem RequestShape.commitWait : RequestShape.Statement (.commitWait) := by
  intro own code body h
  cases h

theorem RequestShape.refreshWaitFailure : RequestShape.Statement (.refreshWaitFailure) := by
  intro own code body h
  cases h

theorem RequestShape.refreshStallFailure : RequestShape.Statement (.refreshStallFailure) := by
  intro own code body h
  cases h

theorem RequestShape.pictureRequestRepeat : RequestShape.Statement (.pictureRequestRepeat) := by
  intro own code body h
  cases h

theorem RequestShape.rebadgeClaimBuild : RequestShape.Statement (.rebadgeClaimBuild) := by
  intro own code body h
  cases h

theorem RequestShape.accessStart (slot : BitVec 7) : RequestShape.Statement (.accessStart slot) := by
  intro own code body h
  cases h

theorem RequestShape.echoCheckFailure (line : LineName) : RequestShape.Statement (.echoCheckFailure line) := by
  intro own code body h
  cases h

theorem RequestShape.attemptEnd : RequestShape.Statement (.attemptEnd) := by
  intro own code body h
  cases h

theorem RequestShape.malformedFrame (rx : Rx) (kind : Byte) (body : List Byte) :
    RequestShape.Statement (.malformedFrame rx kind body) := by
  intro own code body h
  cases h

theorem RequestShape.duplicateFrame (seq : Byte) (copyA : Copy) (copyB : Copy) :
    RequestShape.Statement (.duplicateFrame seq copyA copyB) := by
  intro own code body h
  cases h

theorem RequestShape.presence (rx : Rx) (body : PresenceBody) : RequestShape.Statement (.presence rx body) := by
  intro own code body h
  cases h

theorem RequestShape.alarmChange (rx : Rx) (entries : List ChangeEntry) :
    RequestShape.Statement (.alarmChange rx entries) := by
  intro own code body h
  cases h

theorem RequestShape.ackFrame (rx : Rx) (badge : Badge) (entries : List AckEntry) :
    RequestShape.Statement (.ackFrame rx badge entries) := by
  intro own code body h
  cases h

theorem RequestShape.shelveFrame (rx : Rx) (id : AlarmId) (minutes : Half) (badge : Badge) :
    RequestShape.Statement (.shelveFrame rx id minutes badge) := by
  intro own code body h
  cases h

theorem RequestShape.unshelveFrame (rx : Rx) (id : AlarmId) : RequestShape.Statement (.unshelveFrame rx id) := by
  intro own code body h
  cases h

theorem RequestShape.claimFrame (rx : Rx) (reason : Byte) (area : Byte) (serial : Half) (badge : Badge) :
    RequestShape.Statement (.claimFrame rx reason area serial badge) := by
  intro own code body h
  cases h

theorem RequestShape.takeFrame (rx : Rx) (area : Byte) (serial : Half) (badge : Badge) :
    RequestShape.Statement (.takeFrame rx area serial badge) := by
  intro own code body h
  cases h

theorem RequestShape.offerFrame (rx : Rx) (number : Byte) (target : Station) (badge : Badge) (areas : AreaSet) (summaries : List OfferSummary) :
    RequestShape.Statement (.offerFrame rx number target badge areas summaries) := by
  intro own code body h
  cases h

theorem RequestShape.answerFrame (rx : Rx) (origin : Station) (number : Byte) (decision : Byte) (reason : Byte) (badge : Badge) :
    RequestShape.Statement (.answerFrame rx origin number decision reason badge) := by
  intro own code body h
  cases h

theorem RequestShape.commitFrame (rx : Rx) (number : Byte) (incoming : Station) (badge : Badge) (entries : List CommitEntry) :
    RequestShape.Statement (.commitFrame rx number incoming badge entries) := by
  intro own code body h
  cases h

theorem RequestShape.withdrawFrame (rx : Rx) (number : Byte) (target : Station) :
    RequestShape.Statement (.withdrawFrame rx number target) := by
  intro own code body h
  cases h

theorem RequestShape.pictureRequest (rx : Rx) : RequestShape.Statement (.pictureRequest rx) := by
  intro own code body h
  cases h

theorem RequestShape.picture (rx : Rx) (active : StationSet) (index : Byte) (records : List PictureRecord) :
    RequestShape.Statement (.picture rx active index records) := by
  intro own code body h
  cases h

theorem RequestShape.pictureEnd (rx : Rx) (active : StationSet) (count : Half) :
    RequestShape.Statement (.pictureEnd rx active count) := by
  intro own code body h
  cases h

theorem RequestShape.annunciatorHalfSecond (which : Annunciator) :
    RequestShape.Statement (.annunciatorHalfSecond which) := by
  intro own code body h
  cases h

end Sys2Proof.Laws
end

