-- ==== Sys2Proof/Laws/Requests.lean ====
section
/-! SUPPORT. The console request and its table of checks: what each can answer, said once. -/

namespace Sys2Proof.Machine

@[simp] theorem firstFail_nil : firstFail [] = none := rfl

@[simp] theorem firstFail_pass (c : ResultCode) (rest : List (Bool × ResultCode)) :
    firstFail ((false, c) :: rest) = firstFail rest := rfl

@[simp] theorem firstFail_fail (c : ResultCode) (rest : List (Bool × ResultCode)) :
    firstFail ((true, c) :: rest) = some c := rfl

/-- A table of checks passes exactly when none of them holds. -/
theorem firstFail_none_iff (l : List (Bool × ResultCode)) : firstFail l = none ↔ ∀ x ∈ l, x.1 = false := by
  induction l with
  | nil => simp
  | cons x rest ih =>
    obtain ⟨b, c⟩ := x
    cases b <;> simp [ih]

/-- The code that a table answers is the code of one of its checks that hold. -/
theorem firstFail_some {l : List (Bool × ResultCode)} {c : ResultCode} (h : firstFail l = some c) : (true, c) ∈ l := by
  induction l with
  | nil => cases h
  | cons x rest ih =>
    obtain ⟨b, d⟩ := x
    cases b with
    | true => simp only [firstFail_fail, Option.some.injEq] at h; simp [h]
    | false => exact List.mem_cons_of_mem _ (ih (by simpa using h))

/-- Checks that pass let the effect run. -/
theorem checked_pass {l : List (Bool × ResultCode)} (effect : State → Reply) (s : State) (h : firstFail l = none) :
    checked l effect s = effect s := by
  simp [checked, h]

/-- The first check that holds refuses the request, and the state is as it was. -/
theorem checked_refuse {l : List (Bool × ResultCode)} {c : ResultCode} (effect : State → Reply) (s : State)
    (h : firstFail l = some c) : checked l effect s = .refuse s c := by
  simp [checked, h]

/-- A request that goes through its checks is refused with the state as it was, or runs its effect. -/
theorem checked_cases (l : List (Bool × ResultCode)) (effect : State → Reply) (s : State) :
    (∃ c, (true, c) ∈ l ∧ checked l effect s = .refuse s c) ∨
      ((∀ x ∈ l, x.1 = false) ∧ checked l effect s = effect s) := by
  cases h : firstFail l with
  | none => exact .inr ⟨(firstFail_none_iff l).mp h, checked_pass effect s h⟩
  | some c => exact .inl ⟨c, firstFail_some h, checked_refuse effect s h⟩

@[simp] theorem Reply.ok_state (s : State) (b : AnswerBody) : (Reply.ok s b).state = s := rfl
@[simp] theorem Reply.ok_result (s : State) (b : AnswerBody) : (Reply.ok s b).result = .ok := rfl
@[simp] theorem Reply.ok_body (s : State) (b : AnswerBody) : (Reply.ok s b).body = b := rfl
@[simp] theorem Reply.refuse_state (s : State) (c : ResultCode) : (Reply.refuse s c).state = s := rfl
@[simp] theorem Reply.refuse_result (s : State) (c : ResultCode) : (Reply.refuse s c).result = c := rfl
@[simp] theorem Reply.refuse_body (s : State) (c : ResultCode) : (Reply.refuse s c).body = .empty := rfl

/-- The port accepts a request: a check-in, the rule, the answer. -/
theorem request_open (code : Byte) (rule : State → Reply) (s : State) (h : s.portOpen = true) :
    request code rule s =
      (rule s.checkIn).state.answer code (rule s.checkIn).result (rule s.checkIn).body := by
  simp [request, h]

/-- The port discards a request. -/
theorem request_closed (code : Byte) (rule : State → Reply) (s : State) (h : s.portOpen = false) :
    request code rule s = s := by
  simp [request, h]

/-- A check-in leaves every test that does not read the dark flag as it was. -/
@[simp] theorem State.checkIn_now (s : State) : s.checkIn.now = s.now := rfl
@[simp] theorem State.checkIn_isActive (s : State) : s.checkIn.isActive = s.isActive := rfl
@[simp] theorem State.checkIn_inactive (s : State) : s.checkIn.inactive = s.inactive := rfl
@[simp] theorem State.checkIn_isOwn (s : State) : s.checkIn.isOwn = s.isOwn := rfl
@[simp] theorem State.checkIn_own (s : State) : s.checkIn.own = s.own := rfl
@[simp] theorem State.checkIn_area (s : State) : s.checkIn.area = s.area := rfl
@[simp] theorem State.checkIn_holds (s : State) : s.checkIn.holds = s.holds := rfl
@[simp] theorem State.checkIn_seated (s : State) : s.checkIn.seated = s.seated := rfl
@[simp] theorem State.checkIn_hasRoom (s : State) : s.checkIn.hasRoom = s.hasRoom := rfl
@[simp] theorem State.checkIn_permitted (s : State) : s.checkIn.permitted = s.permitted := rfl
@[simp] theorem State.checkIn_qualified (s : State) : s.checkIn.qualified = s.qualified := rfl
@[simp] theorem State.checkIn_scoped (s : State) : s.checkIn.scoped = s.scoped := rfl
@[simp] theorem State.checkIn_inFlight (s : State) : s.checkIn.inFlight = s.inFlight := rfl
@[simp] theorem State.checkIn_nextSerial (s : State) : s.checkIn.nextSerial = s.nextSerial := rfl
@[simp] theorem State.checkIn_activeBadge (s : State) : s.checkIn.activeBadge = s.activeBadge := rfl
@[simp] theorem State.checkIn_heldSet (s : State) : s.checkIn.heldSet = s.heldSet := rfl

end Sys2Proof.Machine
end

