-- ==== Sys2Proof/Tests/Slice0.lean ====
section
/-! SUPPORT. Tests: the ill-formed terms that WellFormed refuses, worked examples of the manual, and for every statement
of Obligations.lean a concrete state and operands that meet its hypotheses (`test_meets_…`). -/

namespace Sys2Proof.Tests

open Sys2Proof Sys2Proof.Machine Sys2Proof.Claims

/-! ### WellFormed refuses -/

/-- A transmission from station 2, good on both lines. -/
def rx2 : Rx := ⟨2, 9, .good, .good⟩

theorem test_refuses_settings_shape : (Instr.setArea 0 1 none).wellFormed = false := by decide
theorem test_refuses_slot_shape : (Instr.signOffRelief 0x00).wellFormed = false := by decide
theorem test_refuses_area_of_grace : (Instr.orphanGraceRunOut 32).wellFormed = false := by decide
theorem test_refuses_station_of_loss : (Instr.peerLost 17).wellFormed = false ∧ (Instr.peerLost 0).wellFormed = false := by
  decide
theorem test_refuses_access_slot : (Instr.accessStart 0).wellFormed = false ∧ (Instr.accessStart 65).wellFormed = false := by
  decide
theorem test_refuses_malformed_that_fits : (Instr.malformedFrame rx2 0x0C []).wellFormed = false := by decide
theorem test_refuses_duplicate_without_copy : (Instr.duplicateFrame 1 .bad .absent).wellFormed = false := by decide
theorem test_refuses_sender : (Instr.pictureRequest { rx2 with sender := 0 }).wellFormed = false := by decide
theorem test_refuses_no_good_copy : (Instr.pictureRequest { rx2 with copyA := .bad, copyB := .absent }).wellFormed = false := by
  decide
theorem test_refuses_row_body : (Instr.ackFrame rx2 7 []).wellFormed = false := by decide

/-! ### Worked examples of the manual -/

set_option maxRecDepth 8000 in
/-- 9.1: the CRC of the nine characters 123456789. -/
theorem test_crc : crc16 [0x31, 0x32, 0x33, 0x34, 0x35, 0x36, 0x37, 0x38, 0x39] = 0x29B1 := by decide

/-- 13.4: the request bodies of NOP, SIGN ON (badge 20415, rank 1, areas 7 and 8) and OFFER HANDOVER to this station. -/
theorem test_requests_decode :
    requestCommand (some 3) 0x01 [] = .nop ∧
      requestCommand (some 3) 0x20 [0x00, 0x4F, 0xBF, 0x01, 0x00, 0x00, 0x01, 0x80] = .signOn 20415 1 0x00000180 ∧
      requestCommand (some 3) 0x60 [0x03, 0x00, 0x00, 0x00, 0x00] = .offerSeatChange 0 := by decide

/-- 13.3: an UNSHELVE of 7/012C hex, one byte short, and a kind that does not exist. -/
theorem test_frames_decode :
    decodeFrame 0x05 [0x07, 0x01, 0x2C] = some (.unshelve ⟨7, 300⟩) ∧
      decodeFrame 0x05 [0x07, 0x01] = none ∧ decodeFrame 0x0F [] = none := by decide

/-- R54's table of clamps. -/
theorem test_flood_clamps :
    [(2560, 1024), (100, 50), (100, 300), (3000, 3000), (65535, 70)].map
        (fun x => (clampFloodOn x.1, clampFloodOff x.1 x.2)) =
      [(2560, 1024), (256, 50), (256, 255), (3000, 2999), (65535, 70)] := by decide

/-- The area of 4.10: flood-on 2560, flood-off 1024. -/
def boiler (load : Nat) (flood : Bool) : Area :=
  { config := some ⟨3, none, 3, 2, 2, 1, 2560, 1024, 1⟩, hold := .unheld, serial := 0, load := load, flood := flood }

set_option maxRecDepth 8000 in
/-- 4.10: three URGENT raises flood the area; second events 4001 to 4003; the flood ends from 1035 at 4079. -/
theorem test_flood_sequence :
    (((boiler 0 false).addLoad .urgent).addLoad .urgent).addLoad .urgent = boiler 3072 true ∧
      (boiler 3072 true).decay = boiler 3024 true ∧ (boiler 3024 true).decay = boiler 2976 true ∧
      (boiler 2976 true).decay = boiler 2929 true ∧ (boiler 1035 true).decay = boiler 1018 false := by decide

set_option maxRecDepth 8000 in
/-- 4.11: saturation. -/
theorem test_saturation :
    (boiler 65000 true).addLoad .urgent = boiler 65535 true ∧ (boiler 65535 true).decay = boiler 64511 true := by decide

/-- 7.8: two shifts a day from 06:00, lead 20 min, grace 30 min. -/
def evening : ShiftPattern := ⟨2, 360, 20, 30⟩

theorem test_shift_numbers :
    evening.shiftOf 763365600 = 17671 ∧ evening.shiftOf 763408799 = 17671 ∧ evening.shiftOf 763408800 = 17672 ∧
      evening.shiftOf 763452000 = 17673 := by decide

theorem test_evening_instants :
    evening.isDue 763407600 = true ∧ evening.isStart 763408800 = true ∧ evening.isOverdue 763410600 = true ∧
      evening.inLead 763407599 = false ∧ evening.inLead 763407600 = true ∧ evening.inLead 763408800 = false := by decide

/-! ### A station at work -/

def config (feed : Byte) (standby : Option Byte) : AreaConfig := ⟨feed, standby, 3, 2, 2, 1, 2560, 1024, 1⟩

/-- Badge 7, rank 0, qualified for areas 0 to 4. -/
def operator : Operator := ⟨7, 0, 0x1F, none, 900, 1⟩

/-- Badge 6, rank 2, qualified for areas 0 to 4. -/
def reliefOp : Operator := ⟨6, 2, 0x1F, none, 950, 1⟩

def peer2 : PeerRecord :=
  { state := .present, silence := 1, info := none, mark := .no, digestMatch := .notCompared, millDiff := none,
    trouble := none }

def alarm (h : Handling) : AlarmRecord := ⟨⟨0, 5⟩, .high, false, h, 2, 0, 990, 0, false, 1⟩

def areas : List Area :=
  [⟨some (config 1 none), .held 1 7, 4, 100, false⟩, ⟨some (config 2 (some 1)), .unheld, 0, 0, false⟩,
    ⟨some (config 2 (some 1)), .orphaned 2 9 980 .running, 3, 0, false⟩, ⟨some (config 2 none), .held 2 8, 5, 0, false⟩]
    ++ List.replicate 28 .initial

/-- Station 1, ACTIVE: it holds area 0, stands by for areas 1 and 2, and knows station 2. -/
def base : State :=
  { State.reset with
    node := { Node.initial with mode := .active, number := some 1, lastCheckIn := 998 }
    port := { started := true, busy := false, answer := .initial, counter := 0, attention := 0 }
    areas := areas
    signOn := { active := some operator, relief := none }
    clock := { Clock.initial with now := 1000 }
    picture := { list := [alarm .unack], arrivals := 1, lastStale := none, horn := .sounding .oneHz 0
                 lamp := .flashing true }
    peers := (List.replicate 16 none).set 1 (some peer2) }

/-- `base` in another station state. -/
def inMode (m : Mode) : State := { base with node := { base.node with mode := m } }

/-- `base` with one record in its list. -/
def withAlarm (h : Handling) (cleared : Bool) : State :=
  { base with picture := { base.picture with list := [{ alarm h with cleared := cleared }] } }

/-- `base` with area 0 fed by station 2 and two records in its list, the first ACK and the top position at the second. -/
def twoRecords : State :=
  { base with
    areas := base.areas.set 0 ⟨some (config 2 none), .held 1 7, 4, 100, false⟩
    picture := { base.picture with list := [alarm (.ack 1 7), { alarm .unack with id := ⟨0, 6⟩, priority := .low }] }
    window := { base.window with top := 1 } }

/-- `base` without any area held here. -/
def noneHeld : State := { base with areas := List.replicate 32 .initial }

/-- `base` with its relief seated. -/
def withRelief : State := { base with signOn := { active := some operator, relief := some reliefOp } }

/-- `base` with an urgent queue of `n` frames. -/
def urgentOf (n : Nat) : State :=
  { base with tx := { base.tx with urgent := List.replicate n ⟨.unshelve ⟨0, 1⟩, none⟩ } }

def outOffer : OutOffer := ⟨1, 2, 1, 800⟩
def inOffer : InOffer := ⟨2, 4, 1, [⟨false, 0, 0, 0⟩], 8, 800⟩
def seatIn : InOffer := ⟨1, 5, 1, [⟨false, 0, 0, 0⟩], 7, 800⟩

def withOut (o : Outgoing) : State := { base with handover := { base.handover with outgoing := o } }
def withIn (o : Incoming) : State := { base with handover := { base.handover with incoming := o } }
def withScheduled (o : Scheduled) : State := { base with handover := { base.handover with scheduled := o } }

/-- A removal above the top position at the last record shifts the row and pulls the top back to the same record; either
sets the window-changed indicator (R41, R50). -/
theorem test_removal_above_the_top :
    ∃ t, exec (.alarmChange rx2 [⟨2, ⟨0, 5⟩, 0, 0⟩]) twoRecords = .next t ∧
      t.picture.list.length = 1 ∧ t.window.top = 0 ∧ t.view = twoRecords.view ∧ t.window.changed = true :=
  ⟨_, rfl, by decide⟩

/-- 2.5, the acknowledge race: the ACK at the record's occurrence acknowledges it; the re-raise goes on to UNACK. -/
theorem test_ack_frame :
    ∃ t, exec (.ackFrame rx2 6 [⟨⟨0, 5⟩, 2⟩]) base = .next t ∧
      t.picture.list = [alarm (.ack 2 6)] ∧ t.picture.horn = .quiet ∧ t.picture.lamp = .steady :=
  ⟨_, rfl, by decide⟩

/-- An exchange on the port: NOP is answered under the next number, and a second request in the busy period is
discarded (R173, R175). -/
theorem test_exchange :
    ∃ t, exec .nop base = .next t ∧ t.port.answer = ⟨.ok, 1, 0x01, .empty⟩ ∧ exec .readStatus t = .next t :=
  ⟨_, rfl, by decide, rfl⟩

/-- A held-area claim from a peer at a higher serial (R88, R90): the area is lost, and the route of its alarm with it. -/
theorem test_claim_lost :
    ∃ t, exec (.claimFrame rx2 1 0 5 8) base = .next t ∧ (t.area 0).hold = .held 2 8 ∧ t.lastLost = some 0 ∧
      t.flagSet .claimLost = true :=
  ⟨_, rfl, by decide⟩

/-- A whole sending: the post joins the change queue, the access builds the frame, and its end applies it (R11, R13,
R137, R138). -/
theorem test_post_is_sent :
    ∃ s t u, exec (.postRaise 0 6 4) { base with tx := .initial } = .next s ∧ exec (.accessStart 17) s = .next t ∧
      exec .attemptEnd t = .next u ∧ u.picture.list.map AlarmRecord.id = [⟨0, 5⟩, ⟨0, 6⟩] ∧ u.tx.changeFrame = none ∧
      u.bus.seq = 1 :=
  ⟨_, _, _, rfl, rfl, rfl, by decide⟩

/-! ### The statements on the whole machine: what meets their hypotheses -/

/-- `base` is sound. -/
theorem test_base_sound : base.Sound where
  list := { capacity := by decide, ids := by decide, order := by decide, records := by decide }
  loads := by
    intro r hr
    simp only [base, areas, List.cons_append, List.nil_append, List.mem_cons, List.mem_replicate] at hr
    rcases hr with rfl | rfl | rfl | rfl | ⟨-, rfl⟩
    iterate 4 decide
    exact ⟨by decide, rfl, rfl⟩
  queues := { urgent := by decide, change := by decide, waiting := by decide, fails := by decide }
  clock := { mill := by decide, phase := by decide, trim := by decide, perDay := by decide, first := by decide
             lead := by decide, grace := by decide }
  calendar := { shift := by decide, lead := by decide, start := by decide, due := by decide, pair := by decide }
  window := { row := by decide, top := by decide }
  port := { number := by decide, busy := by decide }
  peers := { places := by decide, own := by rintro n ⟨⟩; decide
             silence := by
               intro r hr p hp
               subst hp
               rcases List.mem_or_eq_of_mem_set hr with h | h
               · simp at h
               · cases h; decide
             lost := by
               intro r hr p hp
               subst hp
               rcases List.mem_or_eq_of_mem_set hr with h | h
               · simp at h
               · cases h; decide }
  station := { areas := by decide, sending := by decide, list := by decide, peers := by intro h; cases h
               holds := by decide, loads := by decide }
  output := { flashing := ⟨fun _ => by decide, fun _ => ⟨true, rfl⟩⟩
              steady := ⟨fun h => (by cases h), fun h => absurd h.1 (by decide)⟩
              quiet := fun h => absurd h (by decide)
              pattern := by rintro p half ⟨⟩; decide }
  handover := { rebadge := by intro a h; simp [base, State.reset, Handover.initial] at h
                offered := by rintro o ⟨⟩
                committing := by rintro o ⟨⟩
                inactive := by intro h; exact absurd rfl h }

/-- A next state is answered. -/
abbrev Next (c : Instr) (s : State) : Prop := ∃ t, exec c s = .next t

theorem test_meets_StepRunsTheFrontCommand :
    ({ base with pending := [.nop] }).pending = .nop :: [] ∧ base.pending = [] := by decide

/-- For the statements StepKeepsList, StepKeepsLoads, StepKeepsQueuesAndWindow, StepKeepsCalendar,
StepKeepsAnnunciator, StepKeepsOffers and StepKeepsStation. -/
theorem test_meets_StepKeeps : ∃ s t, s.Sound ∧ step s = .next t := ⟨base, _, test_base_sound, rfl⟩

theorem test_meets_ConfigurationIsLocked :
    Next .secondEvent base ∧ base.node.mode ≠ .config ∧ Instr.secondEvent ≠ .powerOnReset ∧ Instr.secondEvent ≠ .resetN :=
  ⟨⟨_, rfl⟩, by decide⟩

theorem test_meets_FlagsStayLatched :
    Next .nop (base.latch .busFault) ∧ (base.latch .busFault).flagSet .busFault = true ∧ Instr.nop ≠ .readAttention ∧
      Instr.nop ≠ .restart ∧ Instr.nop ≠ .powerOnReset ∧ Instr.nop ≠ .resetN :=
  ⟨⟨_, rfl⟩, by decide⟩

theorem test_meets_ClaimSerialNeverFalls :
    Next (.claimFrame rx2 1 0 5 8) base ∧ Instr.claimFrame rx2 1 0 5 8 ≠ .restart ∧
      Instr.claimFrame rx2 1 0 5 8 ≠ .powerOnReset ∧ Instr.claimFrame rx2 1 0 5 8 ≠ .resetN :=
  ⟨⟨_, rfl⟩, by decide⟩

theorem test_meets_StationSecondsMoveByOne : Next .secondEvent base ∧ Next .restart base ∧ Next .nop base :=
  ⟨⟨_, rfl⟩, ⟨_, rfl⟩, ⟨_, rfl⟩⟩

theorem test_meets_OnlyAnActiveStationSends :
    base.bus.sending = none ∧ ∃ t, exec (.accessStart 1) (urgentOf 1) = .next t ∧ t.bus.sending ≠ none :=
  ⟨by decide, _, rfl, by decide⟩

theorem test_meets_RefusalsChangeNothing :
    isRequest .join = true ∧ Open base ∧ (∃ t, exec .join base = .next t ∧ t.port.answer.result = .badState) ∧
      isRequest .acknowledgeAtCursor = true ∧
      ∃ t, exec .acknowledgeAtCursor { base with window := { base.window with snapshot := some ⟨⟨0, 9⟩, 1⟩ } } = .next t ∧
        t.port.answer.result = .gone :=
  ⟨by decide, by decide, ⟨_, rfl, by decide⟩, by decide, _, rfl, by decide⟩

theorem test_meets_EveryQueueRunsOut : Next .nop base := ⟨_, rfl⟩

theorem test_meets_FrameBodiesReadBack :
    frameFits (.alarmChange (List.replicate 8 ⟨1, ⟨0, 5⟩, 2, 0⟩)) = true ∧
      frameFits (.commit 1 2 8 (List.replicate 32 ⟨0, 5⟩)) = true ∧
      frameFits (.presence { base.presenceBody with claims := List.replicate 17 ⟨0, 5, some 7⟩ }) = true := by decide

theorem test_meets_SentFrameIsReceived :
    frameFits (.unshelve ⟨0, 5⟩) = true ∧ stationOk 16 = true ∧ (some 1 : Option Station) ≠ some 16 ∧
      0 < ([0x53] : List Byte).length := by decide

/-- 9.1: a byte is a start bit, its bits from the least significant, and a stop bit. -/
theorem test_byte_on_the_line : lineBits [0x53] = [false, true, true, false, false, true, false, true, false, true] := by
  decide

theorem test_meets_RequestsReadBack :
    Instr.nop.wellFormed = true ∧ requestBytes 1 .nop = some (0x01, []) ∧ (Instr.offerHandover 1 0).wellFormed = true ∧
      requestBytes 1 (.offerHandover 1 0) = some (0x60, [1, 0, 0, 0, 0]) := by decide

theorem test_meets_HardResetsEmptyTheStation : ∃ c : Instr, c = .powerOnReset ∨ c = .resetN := ⟨_, .inl rfl⟩

theorem test_meets_RestartKeepsTheConfiguration : Open base ∧ Open (inMode .config) := by decide

/-- `base` whose answer is not read yet, and `base` before the part's start. -/
def busy : State := { base with port := { base.port with busy := true } }
def unstarted : State := { base with port := { base.port with started := false } }

theorem test_meets_PortAndCadenceEvents :
    isRequest .nop = true ∧ ¬Open unstarted ∧ ¬Open busy ∧ base.picture.horn = .sounding .oneHz 0 ∧
      base.picture.lamp = .flashing true ∧ State.reset.picture.horn = .quiet ∧ State.reset.picture.lamp = .off := by
  decide

/-- 12.2: filler goes out while the port is busy, and MISO is released with CS_N high (R172, R174). -/
theorem test_miso : busy.statusByte = 0x83 ∧ busy.misoPin false false 0 = some true ∧
    busy.misoPin false false 1 = some false ∧ busy.misoPin false false 8 = some true ∧ busy.misoPin false true 8 = none ∧
    busy.misoPin true false 8 = none := by decide

/-- 12.2 and 13.4: the answer to a NOP, numbered 42, in a transaction of seven bytes. -/
theorem test_shifted_out (s : State) (h : s = { base with port := { base.port with answer := ⟨.ok, 42, 1, .empty⟩ } }) :
    Open s ∧ s.shiftedOut 7 = [s.statusByte, 0, 42, 1, 0, 0xFF, 0xFF] := by
  subst h
  decide

/-- `base` with claims in flight, in this order. -/
def claiming : State :=
  { base with tx := { base.tx with urgent := [⟨.claim 1 3 8 7, none⟩, ⟨.take 1 5 7, none⟩, ⟨.claim 2 1 6 7, none⟩] } }

theorem test_meets_ReadsChangeNothing_items :
    (Open (withOut (.committing outOffer)) ∧ (withOut (.committing outOffer)).handover.outgoing = .committing outOffer) ∧
      (Open (withOut (.offered outOffer)) ∧ (withOut (.offered outOffer)).handover.outgoing = .offered outOffer) ∧
      (Open (withIn (.presented inOffer)) ∧ (withIn (.presented inOffer)).handover.incoming = .presented inOffer) ∧
      (Open (withIn (.answered inOffer 990)) ∧
        (withIn (.answered inOffer 990)).handover.incoming = .answered inOffer 990) ∧
      (Open base ∧ base.handover.outgoing = .idle ∧ base.handover.incoming = .idle ∧ base.tx.urgent = []) ∧
      (Open claiming ∧
        claiming.tx.urgent = [⟨.claim 1 3 8 7, none⟩] ++ ⟨.take 1 5 7, none⟩ :: [⟨.claim 2 1 6 7, none⟩]) := by decide

theorem test_meets_ReadsChangeNothing :
    Open base ∧ ¬(1 ≤ (0 : Byte).toNat ∧ (0 : Byte).toNat ≤ 16) ∧ ¬(1 ≤ (17 : Byte).toNat ∧ (17 : Byte).toNat ≤ 16) ∧
      (1 ≤ (16 : Byte).toNat ∧ (16 : Byte).toNat ≤ 16) ∧ base.peer 16 = none ∧
      (1 ≤ (2 : Byte).toNat ∧ (2 : Byte).toNat ≤ 16) ∧ base.peer 2 = some peer2 ∧ 32 ≤ (32 : Byte).toNat ∧
      (31 : Byte).toNat < 32 := by decide

theorem test_meets_RecordsAreRead :
    Open base ∧ (0 : Byte).toNat < 32 ∧ (5 : Half).toNat < 4096 ∧
      (base.picture.list = [] ++ alarm .unack :: [] ∧ (alarm .unack).id = ⟨0, 5⟩) ∧
      32 ≤ (32 : Byte).toNat ∧ 4096 ≤ (4096 : Half).toNat ∧
      ((1000 : Sec) - 900).toNat < 2147483648 ∧
      (2147483648 ≤ ((1000 : Sec) - 1100).toNat ∧ ((1100 : Sec) - 1000).toNat < 65536) ∧
      (4095 : Half).toNat < 4096 ∧ findRecord ⟨0, 4095⟩ base.picture.list = none ∧ 255 < (256 : Half).toNat ∧
      (255 : Half).toNat ≤ 255 := by decide

/-- 13.4, an alarm record: badge 1/2/3 at station 4, priority 2 in bits 2..0, ACK as 1 in bits 5..4. The last two bytes are
the model's choice: log entry 47. -/
theorem test_alarm_bytes :
    alarmBytes 1000 3 { alarm (.ack 4 0x010203) with id := ⟨7, 0x012C⟩, raiseTime := 0x05060708 } =
      [3, 7, 0x01, 0x2C, 0x12, 2, 5, 6, 7, 8, 0, 0, 0, 10, 1, 4, 1, 2, 3, 0, 0, 0, 0, 0, 0] := by decide

theorem test_meets_ReadsThatClear : Open base := by decide

/-- `base` in CONFIG. -/
def setup : State := inMode .config

theorem test_meets_TrimAndStationAreStored :
    (Open base ∧ base.node.mode ≠ .config) ∧ (Open setup ∧ setup.node.mode = .config) ∧
      ¬(1 ≤ (17 : Byte).toNat ∧ (17 : Byte).toNat ≤ 16 ∧ (0 : Byte).toNat ≤ 3) ∧
      ¬(1 ≤ (1 : Byte).toNat ∧ (1 : Byte).toNat ≤ 16 ∧ (4 : Byte).toNat ≤ 3) ∧
      (1 ≤ (16 : Byte).toNat ∧ (16 : Byte).toNat ≤ 16 ∧ (3 : Byte).toNat ≤ 3) := by decide

/-- Settings that every clamp of R54 and R85 touches. -/
def settings : AreaSettings := ⟨16, 0, 3, 3, 3, 3, 100, 300, 17⟩

theorem test_meets_SetAreaStoresTheConfiguration :
    (Open base ∧ base.node.mode ≠ .config) ∧ (Open setup ∧ setup.node.mode = .config) ∧ 32 ≤ (32 : Byte).toNat ∧
      (2 : Byte) ≠ 0x00 ∧ (2 : Byte) ≠ 0x01 ∧ (31 : Byte).toNat < 32 ∧ settingsValid settings = true ∧
      settingsValid { settings with feed := 17 } = false := by decide

theorem test_meets_SetShiftPatternRecomputes :
    (Open base ∧ base.node.mode ≠ .config) ∧
      ¬(1 ≤ (5 : Byte).toNat ∧ (5 : Byte).toNat ≤ 4 ∧ (0 : Half).toNat ≤ 1439) ∧
      ¬(1 ≤ (1 : Byte).toNat ∧ (1 : Byte).toNat ≤ 4 ∧ (1440 : Half).toNat ≤ 1439) ∧
      (1 ≤ (4 : Byte).toNat ∧ (4 : Byte).toNat ≤ 4 ∧ (1439 : Half).toNat ≤ 1439) ∧
      (Open setup ∧ setup.node.mode = .config ∧ setup.second.due = false ∧ setup.second.start = false ∧
        setup.second.overdue = false ∧ setup.second.schedule = false) := by decide

/-- `base` with no operator, and with an operator of rank 3 qualified for no area. -/
def noOperator : State := { base with signOn := ⟨none, none⟩ }
def novice : Operator := { operator with rank := 3, qualified := 0 }
def withNovice : State := { base with signOn := ⟨some novice, none⟩ }

/-- `base` one second before the due instant of 7.8, with an offer ARMED. -/
def evening7 (f : FireTime) : State :=
  { withScheduled (.armed ⟨2, 1, f⟩) with
    clock := { base.clock with millTime := 763407599, pattern := evening, shift := 17671 } }

theorem test_meets_SetClockSteps :
    (Open (inMode .mute) ∧ (inMode .mute).node.mode = .mute) ∧ 3155759999 < (3155760000 : Quad).toNat ∧
      (3155759999 : Quad).toNat ≤ 3155759999 ∧ (Open noOperator ∧ Active noOperator ∧ noOperator.signOn.active = none) ∧
      (Open withNovice ∧ Active withNovice ∧ withNovice.signOn.active = some novice ∧ novice.stepOne ≠ 0) ∧
      (Open base ∧ Active base ∧ base.signOn.active = some operator ∧ operator.stepOne = 0 ∧ base.second.due = false ∧
        base.second.start = false ∧ base.second.overdue = false ∧ base.second.schedule = false ∧
        (0 : Quad).toNat = base.clock.millTime) ∧
      (0 : Quad).toNat < (evening7 .nextShiftStart).clock.millTime := by decide

/-- A step over the due, start and overdue instants of 7.8: the hypotheses of the forward clauses together. -/
theorem test_meets_SetClockSteps_forward (f : FireTime) (v : Quad) (hv : v = 763410600) (s : State) (hs : s = evening7 f) :
    Open s ∧ Active s ∧ s.signOn.active = some operator ∧ operator.stepOne = 0 ∧ v.toNat ≤ 3155759999 ∧
      s.second.due = false ∧ s.second.start = false ∧ s.second.overdue = false ∧ s.second.schedule = false ∧
      s.clock.millTime < v.toNat ∧ s.handover.scheduled = .armed ⟨2, 1, f⟩ ∧
      Crosses s.clock.pattern.isDue s.clock.millTime v.toNat ∧ Crosses s.clock.pattern.isStart s.clock.millTime v.toNat ∧
      Crosses s.clock.pattern.isOverdue s.clock.millTime v.toNat := by
  subst hv hs
  have h0 : (763410600 : Quad).toNat = 763410600 := by decide
  have hd : evening.isDue 763407600 = true ∧ evening.isStart 763408800 = true ∧ evening.isOverdue 763410600 = true := by
    decide
  have hm : (evening7 f).clock.millTime = 763407599 := rfl
  rw [h0, hm]
  exact ⟨⟨rfl, rfl⟩, rfl, rfl, rfl, by omega, rfl, rfl, rfl, rfl, by omega, rfl,
    ⟨_, by omega, by omega, hd.1⟩, ⟨_, by omega, by omega, hd.2.1⟩,
    ⟨_, by omega, by omega, hd.2.2⟩⟩

theorem test_meets_JoinStartsTheListen :
    (Open base ∧ base.node.mode ≠ .config ∧ base.node.mode ≠ .ready) ∧
      (Open { base with node := Node.initial } ∧ ({ base with node := Node.initial } : State).node.mode = .config ∧
        ({ base with node := Node.initial } : State).node.number = none) ∧
      (∀ a, a < 32 → (noneHeld.area a).config = none) ∧
      (Open setup ∧ setup.node.mode = .config ∧ (setup.area 0).config ≠ none ∧ setup.node.number = some 1) ∧
      (Open (inMode .ready) ∧ (inMode .ready).node.mode = .ready ∧ ((inMode .ready).area 0).config ≠ none ∧
        (inMode .ready).node.number = some 1) := by decide

/-! ### The statements on requests: what meets their hypotheses -/

/-- The port is open and the station ACTIVE. -/
abbrev Works (s : State) : Prop := Open s ∧ Active s

theorem test_meets_PermissionCheckFollowsTheRanks :
    (operator.qualified.getLsbD 0 = true ∧ base.holds 0 = true ∧ operator.rank = 0) ∧
      (reliefOp.qualified.getLsbD 1 = true ∧ base.holds 1 = false ∧ reliefOp.rank ≠ 0) ∧
      reliefOp.qualified.getLsbD 5 = false ∧ (base.area 0).config = some (config 1 none) ∧ (base.area 5).config = none := by
  decide

/-- `base` whose peer shows badge 8 in its active slot, with and without an operator here. -/
def peerSeats8 (o : SignOn) : State :=
  { base with
    signOn := o
    peers := (List.replicate 16 none).set 1 (some { peer2 with info := some ⟨false, false, true, 8, 1, 0, 0, 0, []⟩ }) }

theorem test_meets_SignOnSeatsTheOperator :
    (Open (inMode .ready) ∧ ¬Active (inMode .ready)) ∧ (Works base ∧ 3 < (4 : Byte).toNat) ∧ (3 : Byte).toNat ≤ 3 ∧
      (8 : Badge) ≠ 0 ∧ (Works base ∧ base.signOn.active ≠ none) ∧ (Works withRelief ∧ withRelief.signOn.relief ≠ none) ∧
      (Works (peerSeats8 ⟨none, none⟩) ∧ (peerSeats8 ⟨none, none⟩).signOn.active = none ∧
        (peerSeats8 ⟨none, none⟩).badgeTaken 8 = true) ∧
      (Works (peerSeats8 base.signOn) ∧ (peerSeats8 base.signOn).signOn.active ≠ none ∧
        (peerSeats8 base.signOn).signOn.relief = none ∧ (peerSeats8 base.signOn).badgeTaken 8 = true) ∧
      (Works noOperator ∧ noOperator.badgeTaken 8 = false ∧ noOperator.signOn.active = none) ∧
      (Works base ∧ base.badgeTaken 8 = false ∧ base.signOn.active ≠ none ∧ base.signOn.relief = none) := by decide

/-- `base` holding no area, with a claim queued, an ANSWERED incoming offer or an OFFERED outgoing one. -/
def unheldWith (u : List TxFrame) (i : Incoming) (o : Outgoing) : State :=
  { noneHeld with
    tx := { noneHeld.tx with urgent := u }
    handover := { noneHeld.handover with incoming := i, outgoing := o } }

theorem test_meets_SignOffAndActingRank :
    (Open (inMode .mute) ∧ ¬Active (inMode .mute)) ∧ (Works noOperator ∧ noOperator.signOn.active = none) ∧
      (Works base ∧ base.signOn.active ≠ none ∧ base.holds 0 = true) ∧
      (Works (unheldWith [⟨.take 1 1 7, none⟩] .idle .idle) ∧
        (unheldWith [⟨.take 1 1 7, none⟩] .idle .idle).claimsQueued = true) ∧
      (Works (unheldWith [] (.answered inOffer 990) .idle) ∧
        (unheldWith [] (.answered inOffer 990) .idle).handover.incoming = .answered inOffer 990) ∧
      (Works (unheldWith [] .idle (.offered outOffer)) ∧
        (∀ a, a < 32 → (unheldWith [] .idle (.offered outOffer)).holds a = false) ∧
        (unheldWith [] .idle (.offered outOffer)).claimsQueued = false ∧
        (unheldWith [] .idle (.offered outOffer)).handover.incoming = .idle ∧
        (unheldWith [] .idle (.offered outOffer)).handover.outgoing ≠ .idle) ∧
      (Works noneHeld ∧ noneHeld.signOn.active ≠ none ∧ (∀ a, a < 32 → noneHeld.holds a = false) ∧
        noneHeld.claimsQueued = false ∧ noneHeld.handover.outgoing = .idle ∧ noneHeld.handover.incoming = .idle) ∧
      (2 : Byte) ≠ 0x01 ∧ (Works base ∧ base.signOn.relief = none) ∧
      (Works withRelief ∧ withRelief.signOn.relief = some reliefOp ∧ withRelief.handover.outgoing = .idle) ∧
      1 < (2 : Byte).toNat ∧ 3 < (4 : Byte).toNat ∧ (4 : Byte) ≠ 0xFF ∧ (3 : Byte).toNat ≤ 3 := by decide

/-- The notices of R125, and the acting ranks. -/
theorem test_meets_SignOffAndActingRank_notices :
    (∀ n, n = 0 ∨ n = 8 → ∀ s, s = unheldWith (List.replicate n ⟨.unshelve ⟨0, 1⟩, none⟩) (.presented inOffer) .idle →
        Works s ∧ s.signOn.active ≠ none ∧ (∀ a, a < 32 → s.holds a = false) ∧ s.claimsQueued = false ∧
          s.handover.outgoing = .idle ∧ s.handover.incoming = .presented inOffer ∧
          s.node.number ≠ some inOffer.origin ∧ s.tx.urgent.length = n) ∧
      (∀ s, s = { withRelief with handover := (withOut (.offered outOffer)).handover } →
        Works s ∧ s.signOn.relief ≠ none ∧ s.handover.outgoing = .offered outOffer ∧
          s.node.number ≠ some outOffer.target) ∧
      (∀ s, s = { withRelief with handover := (withOut (.offered ⟨5, 1, 1, 800⟩)).handover } →
        Works s ∧ s.signOn.relief ≠ none ∧ s.handover.outgoing = .offered ⟨5, 1, 1, 800⟩ ∧ s.node.number = some 1) ∧
      (Works withRelief ∧ withRelief.signOn.active = some operator ∧ withRelief.signOn.relief = some reliefOp) := by
  refine ⟨?_, ?_, ?_, by decide⟩
  · rintro n (rfl | rfl) s rfl <;> decide
  · rintro s rfl; decide
  · rintro s rfl; decide

/-- `base` with a change queue of `n` entries. -/
def changesOf (n : Nat) : State :=
  { base with tx := { base.tx with change := List.replicate n ⟨1, ⟨0, 5⟩, 1, 0⟩ } }

theorem test_meets_PostsJoinTheChangeQueue :
    (∀ k, (base.area 3).config = some k → base.node.number ≠ some k.feed) ∧
      (Open (inMode .ready) ∧ ¬Active (inMode .ready)) ∧ (Works base ∧ 32 ≤ (32 : Byte).toNat ∧ 4096 ≤ (4096 : Half).toNat) ∧
      (0 : Byte).toNat = 0 ∧ 4 < (5 : Byte).toNat ∧ (0 : Byte).toNat < 32 ∧ (4095 : Half).toNat < 4096 ∧
      1 ≤ (4 : Byte).toNat ∧ (4 : Byte).toNat ≤ 4 ∧
      (Works (changesOf 32) ∧ ((changesOf 32).area 0).config = some (config 1 none) ∧
        (changesOf 32).node.number = some (config 1 none).feed ∧ 32 ≤ (changesOf 32).tx.change.length) ∧
      (Works (changesOf 31) ∧ ((changesOf 31).area 0).config = some (config 1 none) ∧
        (changesOf 31).node.number = some (config 1 none).feed ∧ (changesOf 31).tx.change.length < 32) :=
  ⟨by rintro k ⟨⟩; decide, by decide⟩

/-- `base` with one record in its list and `n` frames in its urgent queue. -/
def withAlarmAnd (h : Handling) (n : Nat) : State :=
  { withAlarm h false with tx := { base.tx with urgent := List.replicate n ⟨.unshelve ⟨0, 1⟩, none⟩ } }

/-- `base` whose one shelf of area 0 is taken by another record. -/
def shelfTaken : State :=
  { base with picture := { base.picture with list := [alarm .unack, { alarm (.shelved 1100 1 7) with id := ⟨0, 6⟩ }] } }

theorem test_meets_AlarmRequestsQueueAFrame :
    (Open (inMode .ready) ∧ ¬Active (inMode .ready)) ∧ (0 : Byte).toNat < 32 ∧ (5 : Half).toNat < 4096 ∧ (2 : Byte) ≠ 0 ∧
      (Works (withAlarmAnd (.ack 1 7) 0) ∧ (withAlarmAnd (.ack 1 7) 0).signOn.active = some operator ∧
        findRecord ⟨0, 5⟩ (withAlarmAnd (.ack 1 7) 0).picture.list = some (alarm (.ack 1 7))) ∧
      (Works withNovice ∧ findRecord ⟨0, 5⟩ withNovice.picture.list = some (alarm .unack) ∧
        withNovice.permits novice .acknowledge 0 = false) ∧
      (Works (withAlarmAnd .unack 7) ∧ findRecord ⟨0, 5⟩ (withAlarmAnd .unack 7).picture.list = some (alarm .unack) ∧
        (withAlarmAnd .unack 7).permits operator .acknowledge 0 = true ∧ (withAlarmAnd .unack 7).tx.urgent.length < 8 ∧
        (withAlarmAnd .unack 7).permits operator .shelve 0 = true ∧
        shelvedCount 0 ⟨0, 5⟩ (withAlarmAnd .unack 7).picture.list < (withAlarmAnd .unack 7).shelveLimit 0) ∧
      (Works (withAlarmAnd (.shelved 1100 1 7) 7) ∧
        findRecord ⟨0, 5⟩ (withAlarmAnd (.shelved 1100 1 7) 7).picture.list = some (alarm (.shelved 1100 1 7)) ∧
        (withAlarmAnd (.shelved 1100 1 7) 7).permits operator .shelve 0 = true ∧
        (withAlarmAnd (.shelved 1100 1 7) 7).tx.urgent.length < 8) ∧
      (Works shelfTaken ∧ findRecord ⟨0, 5⟩ shelfTaken.picture.list = some (alarm .unack) ∧
        shelfTaken.permits operator .shelve 0 = true ∧
        shelfTaken.shelveLimit 0 ≤ shelvedCount 0 ⟨0, 5⟩ shelfTaken.picture.list) ∧
      (Works (withAlarmAnd .unack 8) ∧ (withAlarmAnd .unack 8).permits operator .shelve 0 = true ∧
        shelvedCount 0 ⟨0, 5⟩ (withAlarmAnd .unack 8).picture.list < (withAlarmAnd .unack 8).shelveLimit 0 ∧
        8 ≤ (withAlarmAnd .unack 8).tx.urgent.length) := by decide

/-- The refusals of R21. -/
theorem test_meets_AlarmRequestsQueueAFrame_refused :
    (Works base ∧ 32 ≤ (32 : Byte).toNat ∧ 4096 ≤ (4096 : Half).toNat) ∧
      (Works noOperator ∧ noOperator.signOn.active = none) ∧
      (Works base ∧ base.signOn.active ≠ none ∧ findRecord ⟨0, 9⟩ base.picture.list = none) ∧
      (Works (withAlarmAnd .unack 8) ∧ (withAlarmAnd .unack 8).signOn.active = some operator ∧
        findRecord ⟨0, 5⟩ (withAlarmAnd .unack 8).picture.list = some (alarm .unack) ∧
        (withAlarmAnd .unack 8).permits operator .acknowledge 0 = true ∧ 8 ≤ (withAlarmAnd .unack 8).tx.urgent.length) ∧
      (∀ s, s = { withNovice with picture := (withAlarm (.shelved 1100 1 7) false).picture } →
        Works s ∧ s.signOn.active = some novice ∧
          findRecord ⟨0, 5⟩ s.picture.list = some (alarm (.shelved 1100 1 7)) ∧ s.permits novice .shelve 0 = false) ∧
      (Works (withAlarmAnd (.shelved 1100 1 7) 8) ∧ (withAlarmAnd (.shelved 1100 1 7) 8).signOn.active = some operator ∧
        findRecord ⟨0, 5⟩ (withAlarmAnd (.shelved 1100 1 7) 8).picture.list = some (alarm (.shelved 1100 1 7)) ∧
        (withAlarmAnd (.shelved 1100 1 7) 8).permits operator .shelve 0 = true ∧
        8 ≤ (withAlarmAnd (.shelved 1100 1 7) 8).tx.urgent.length) :=
  ⟨by decide, by decide, by decide, by decide, by rintro s rfl; decide, by decide⟩

/-- `base` with focus area 0, in the scope that follows it or not. -/
def focused (c : Scope) : State := { base with window := { base.window with focus := some 0, scope := c } }

theorem test_meets_AcknowledgeAreaCoversTheArea :
    (Open (inMode .ready) ∧ ¬Active (inMode .ready)) ∧ (Works base ∧ 32 ≤ (32 : Byte).toNat ∧ (32 : Byte) ≠ 0xFF) ∧
      (Works base ∧ base.window.focus = none) ∧ (31 : Byte).toNat < 32 ∧
      (Works (focused .all) ∧ (focused .all).window.focus = some 0 ∧ (focused .all).signOn.active = some operator ∧
        (focused .all).permits operator .acknowledge 0 = true) ∧
      (Works noOperator ∧ (31 : Byte).toNat < 32 ∧ noOperator.signOn.active = none) ∧
      (Works { focused .all with signOn := ⟨none, none⟩ } ∧
        ({ focused .all with signOn := ⟨none, none⟩ } : State).window.focus ≠ none) ∧
      (Works withNovice ∧ withNovice.signOn.active = some novice ∧ withNovice.permits novice .acknowledge 0 = false) := by
  decide

theorem test_meets_SilenceHornSilencesTheHorn :
    (Open (inMode .mute) ∧ ¬Active (inMode .mute)) ∧ (Works base ∧ base.signOn.active ≠ none) ∧
      (Works noOperator ∧ noOperator.signOn.active = none) := by decide

theorem test_meets_WindowRequestsPlaceTheCursor :
    (Open (inMode .mute) ∧ ¬Active (inMode .mute)) ∧ Works base ∧ 7 < (8 : Byte).toNat ∧ (7 : Byte).toNat ≤ 7 ∧
      (0xFF00 : Half).toInt < -255 ∧ 255 < (256 : Half).toInt ∧ -255 ≤ (255 : Half).toInt ∧ (255 : Half).toInt ≤ 255 ∧
      3 < (4 : Byte).toNat ∧ 32 ≤ (32 : Byte).toNat ∧ (32 : Byte) ≠ 0xFF ∧ 1 < (2 : Byte).toNat ∧
      scopeOf 3 = some .shelved ∧ (31 : Byte).toNat < 32 ∧ base.window.scope ≠ .focus ∧
      (Works (focused .focus) ∧ (focused .focus).window.scope = .focus) ∧ (1 : Byte).toNat ≤ 1 ∧
      ((0 : Nat) : Int) = max 0 (min ((base.window.top : Int) + (255 : Half).toInt) ((base.scoped.length - 8 : Nat) : Int)) := by
  decide

/-- A station whose snapshot is of one id and occurrence, with its cursor and entry mode as given. -/
def snapped (s : State) (x : Snapshot) (d : Direction) (follow : Bool) (row : Nat) : State :=
  { s with window := { s.window with snapshot := some x, direction := d, follow := follow, row := row } }

theorem test_meets_AcknowledgeAtCursorActsOnTheSnapshot :
    (Open (inMode .mute) ∧ ¬Active (inMode .mute)) ∧ (Works noOperator ∧ noOperator.signOn.active = none) ∧
      (Works base ∧ base.signOn.active ≠ none ∧ base.window.snapshot = none) ∧
      (Works (snapped base ⟨⟨0, 9⟩, 1⟩ .down true 0) ∧ findRecord ⟨0, 9⟩ base.picture.list = none) ∧
      (Works (snapped base ⟨⟨0, 5⟩, 1⟩ .down true 0) ∧ findRecord ⟨0, 5⟩ base.picture.list = some (alarm .unack) ∧
        (alarm .unack).occurrence ≠ 1) ∧
      (Works (snapped withNovice ⟨⟨0, 5⟩, 2⟩ .down true 0) ∧ (alarm .unack).occurrence = 2 ∧
        findRecord ⟨0, 5⟩ withNovice.picture.list = some (alarm .unack) ∧
        (snapped withNovice ⟨⟨0, 5⟩, 2⟩ .down true 0).permits novice .acknowledge 0 = false) ∧
      (Works (snapped base ⟨⟨0, 5⟩, 2⟩ .down true 6) ∧ (snapped base ⟨⟨0, 5⟩, 2⟩ .down true 6).window.row < 7 ∧
        (snapped base ⟨⟨0, 5⟩, 2⟩ .down true 6).permits operator .acknowledge 0 = true ∧
        (snapped base ⟨⟨0, 5⟩, 2⟩ .down true 6).tx.urgent.length < 8) ∧
      (snapped base ⟨⟨0, 5⟩, 2⟩ .up true 7).window.row = 6 + 1 ∧ (snapped base ⟨⟨0, 5⟩, 2⟩ .up false 0).window.row = 0 ∧
      7 ≤ (snapped base ⟨⟨0, 5⟩, 2⟩ .down false 7).window.row ∧
      (Works (snapped (withAlarm (.ack 1 7) false) ⟨⟨0, 5⟩, 2⟩ .down true 0) ∧
        findRecord ⟨0, 5⟩ (withAlarm (.ack 1 7) false).picture.list = some (alarm (.ack 1 7)) ∧
        (alarm (.ack 1 7)).handling.isUnack = false) := by decide

/-- `base` with nine records in its list. -/
def nine : State :=
  { base with picture := { base.picture with
      list := (List.range 9).map fun i => { alarm .unack with id := ⟨0, BitVec.ofNat 16 (5 + i)⟩ } } }

/-- The view's edges with follow on, where it scrolls and where it cannot, and a full urgent queue (R49). -/
theorem test_meets_AcknowledgeAtCursorActsOnTheSnapshot_edges :
    (∀ s, s = snapped (urgentOf 8) ⟨⟨0, 5⟩, 2⟩ .down true 0 →
        Works s ∧ s.signOn.active = some operator ∧ s.window.snapshot = some ⟨⟨0, 5⟩, 2⟩ ∧
          findRecord ⟨0, 5⟩ s.picture.list = some (alarm .unack) ∧ (alarm .unack).occurrence = 2 ∧
          s.permits operator .acknowledge 0 = true ∧ 8 ≤ s.tx.urgent.length) ∧
      (∀ d row top s, (d = .down ∧ row = 7 ∧ top = 0) ∨ (d = .down ∧ row = 7 ∧ top = 1) ∨
          (d = .up ∧ row = 0 ∧ top = 1) ∨ (d = .up ∧ row = 0 ∧ top = 0) →
        s = atTop top (snapped nine ⟨⟨0, 5⟩, 2⟩ d true row) →
        Works s ∧ s.signOn.active = some operator ∧ s.window.snapshot = some ⟨⟨0, 5⟩, 2⟩ ∧
          findRecord ⟨0, 5⟩ s.picture.list = some (alarm .unack) ∧ s.permits operator .acknowledge 0 = true ∧
          s.tx.urgent.length < 8 ∧ s.window.direction = d ∧ s.window.follow = true ∧ s.window.row = row ∧
          s.window.top = top ∧ s.scoped.length - 8 = 1) := by
  refine ⟨by rintro s rfl; decide, ?_⟩
  rintro d row top s (⟨rfl, rfl, rfl⟩ | ⟨rfl, rfl, rfl⟩ | ⟨rfl, rfl, rfl⟩ | ⟨rfl, rfl, rfl⟩) rfl <;> decide

/-- `base` with one frame in its urgent queue. -/
def withUrgent (f : Frame) : State := { base with tx := { base.tx with urgent := [⟨f, none⟩] } }

/-- `base` with an operator of rank 3 qualified for every area. -/
def junior : Operator := { operator with rank := 3, qualified := 0xFFFFFFFF }
def withJunior : State := { base with signOn := ⟨some junior, none⟩ }

theorem test_meets_ClaimAndTakeQueueAClaim :
    (Open (inMode .mute) ∧ ¬Active (inMode .mute)) ∧
      (Works base ∧ 32 ≤ (32 : Byte).toNat ∧ (base.area 4).config = none ∧ base.signOn.active = some operator) ∧
      (Works noOperator ∧ (noOperator.area 1).config ≠ none ∧ noOperator.signOn.active = none) ∧
      ((base.area 0).config = some (config 1 none) ∧ (base.area 0).hold = .held 1 7 ∧ base.node.number = some 1) ∧
      ((base.area 3).config = some (config 2 none) ∧ (base.area 3).hold = .held 2 8 ∧ base.node.number ≠ some 2) ∧
      ((base.area 1).config = some (config 2 (some 1)) ∧ (base.area 1).hold = .unheld) ∧
      ((base.area 2).config = some (config 2 (some 1)) ∧ (base.area 2).hold = .orphaned 2 9 980 .running) := by
  decide

/-- BUSY, NOT_QUALIFIED, NOT_PERMITTED, QUEUE_FULL, and a claim built. -/
theorem test_meets_ClaimAndTakeQueueAClaim_checks :
    (Works (withUrgent (.claim 1 1 1 7)) ∧ (withUrgent (.claim 1 1 1 7)).inFlight 1 ≠ none ∧
        ((withUrgent (.claim 1 1 1 7)).area 1).hold = .unheld) ∧
      (Works (withUrgent (.take 2 4 7)) ∧ (withUrgent (.take 2 4 7)).inFlight 2 ≠ none ∧
        ((withUrgent (.take 2 4 7)).area 2).hold = .orphaned 2 9 980 .running) ∧
      (Works withNovice ∧ withNovice.inFlight 1 = none ∧ withNovice.inFlight 2 = none ∧
        novice.qualified.getLsbD 1 = false ∧ novice.qualified.getLsbD 2 = false) ∧
      (Works withJunior ∧ withJunior.inFlight 1 = none ∧ junior.qualified.getLsbD 1 = true ∧
        withJunior.permits junior .hold 1 = false ∧ withJunior.permits junior .take 2 = false) ∧
      (Works (urgentOf 8) ∧ (urgentOf 8).inFlight 1 = none ∧ (urgentOf 8).permits operator .hold 1 = true ∧
        (urgentOf 8).permits operator .take 2 = true ∧ 8 ≤ (urgentOf 8).tx.urgent.length) ∧
      (Works base ∧ base.inFlight 1 = none ∧ base.inFlight 2 = none ∧ base.tx.urgent.length < 8 ∧
        operator.qualified.getLsbD 1 = true ∧ operator.qualified.getLsbD 2 = true ∧
        base.permits operator .hold 1 = true ∧ base.permits operator .take 2 = true) := by decide

/-- `base` with area 0 in FLOOD. -/
def flooded0 : State := { base with areas := base.areas.set 0 { base.area 0 with flood := true } }

theorem test_meets_OffersAreMade :
    (Open (inMode .mute) ∧ ¬Active (inMode .mute)) ∧
      (1 ≤ (2 : Byte).toNat ∧ (2 : Byte).toNat ≤ 16 ∧ (1 : AreaSet) ≠ 0) ∧
      (Works (withOut (.offered outOffer)) ∧ (withOut (.offered outOffer)).handover.outgoing ≠ .idle) ∧
      (Works base ∧ base.node.number ≠ some 2 ∧ base.signOn.active = some operator ∧ base.handover.outgoing = .idle ∧
        (2 : AreaSet).getLsbD 1 = true ∧ base.holds 1 = false) ∧
      (Works flooded0 ∧ flooded0.handover.outgoing = .idle ∧ flooded0.holds 0 = true ∧ (flooded0.area 0).flood = true) ∧
      (Works base ∧ (∀ a, a < 32 → (1 : AreaSet).getLsbD a = true →
          base.holds a = true ∧ (base.area a).flood = false ∧ base.permits operator .hold a = true) ∧
        base.peerReady 2 = true ∧ base.tx.urgent.length < 8) ∧
      (Works base ∧ base.node.number = some 1 ∧ base.handover.outgoing = .idle ∧ base.handover.incoming = .idle ∧
        base.signOn.relief = none) ∧
      (Works withRelief ∧ withRelief.handover.outgoing = .idle ∧ withRelief.handover.incoming = .idle ∧
        withRelief.signOn.relief ≠ none ∧ ∀ a, a < 32 → withRelief.holds a = true → (withRelief.area a).flood = false) := by
  decide

/-- The refusals of R115 and R126. -/
theorem test_meets_OffersAreMade_refused :
    (Works base ∧ ¬(1 ≤ (17 : Byte).toNat ∧ (17 : Byte).toNat ≤ 16) ∧ base.node.number ≠ some 2) ∧
      (Works noOperator ∧ noOperator.node.number ≠ some 2 ∧ noOperator.node.number = some 1 ∧
        noOperator.signOn.active = none) ∧
      (Works base ∧ base.handover.outgoing = .idle ∧
        (∀ a, a < 32 → (1 : AreaSet).getLsbD a = true → base.holds a = true ∧ (base.area a).flood = false) ∧
        base.node.number ≠ some 3 ∧ base.peerReady 3 = false) ∧
      (Works withNovice ∧ withNovice.signOn.active = some novice ∧ withNovice.peerReady 2 = true ∧
        withNovice.handover.outgoing = .idle ∧ withNovice.holds 0 = true ∧ (withNovice.area 0).flood = false ∧
        withNovice.permits novice .hold 0 = false) ∧
      (Works (urgentOf 8) ∧ (urgentOf 8).handover.outgoing = .idle ∧ (urgentOf 8).peerReady 2 = true ∧
        (∀ a, a < 32 → (1 : AreaSet).getLsbD a = true → (urgentOf 8).holds a = true ∧
          ((urgentOf 8).area a).flood = false ∧ (urgentOf 8).permits operator .hold a = true) ∧
        8 ≤ (urgentOf 8).tx.urgent.length) ∧
      (Works (withOut (.offered outOffer)) ∧ (withOut (.offered outOffer)).node.number = some 1 ∧
        (withOut (.offered outOffer)).signOn.active ≠ none ∧ (withOut (.offered outOffer)).handover.outgoing ≠ .idle) ∧
      (Works (withIn (.presented inOffer)) ∧ (withIn (.presented inOffer)).handover.incoming ≠ .idle) ∧
      (∀ s, s = { flooded0 with signOn := withRelief.signOn } →
        Works s ∧ s.node.number = some 1 ∧ s.signOn.active = some operator ∧ s.handover.outgoing = .idle ∧
          s.handover.incoming = .idle ∧ s.signOn.relief ≠ none ∧ s.holds 0 = true ∧ (s.area 0).flood = true) :=
  ⟨by decide, by decide, by decide, by decide, by decide, by decide, by decide, by rintro s rfl; decide⟩

/-- `base` with an offer PRESENTED, an operator and `n` frames in the urgent queue. -/
def presentedTo (o : InOffer) (x : Operator) (n : Nat) : State :=
  { urgentOf n with
    signOn := ⟨some x, none⟩
    handover := { base.handover with incoming := .presented o } }

/-- `base` in a seat change, with a relief and `n` frames in the urgent queue; it holds area 0, or none. -/
def seatChange (r : Operator) (n : Nat) (l : List Area) : State :=
  { urgentOf n with
    areas := l
    signOn := ⟨some operator, some r⟩
    handover := { base.handover with outgoing := .offered ⟨5, 1, 1, 800⟩, incoming := .presented seatIn } }

theorem test_meets_OffersAreAccepted :
    (Open (inMode .mute) ∧ ¬Active (inMode .mute)) ∧ (Works base ∧ base.presented = none) ∧
      (Works (presentedTo inOffer operator 0) ∧ inOffer.number ≠ 5 ∧ inOffer.number = 4 ∧
        (presentedTo inOffer operator 0).handover.incoming = .presented inOffer ∧
        (presentedTo inOffer operator 0).node.number ≠ some inOffer.origin) ∧
      (Works (presentedTo inOffer novice 0) ∧ (presentedTo inOffer novice 0).signOn.active = some novice ∧
        inOffer.areas.getLsbD 0 = true ∧ novice.qualified.getLsbD 0 = false) ∧
      (Works (presentedTo { inOffer with areas := 8 } junior 0) ∧
        (∀ a, a < 32 → (8 : AreaSet).getLsbD a = true → junior.qualified.getLsbD a = true) ∧
        (8 : AreaSet).getLsbD 3 = true ∧ (presentedTo { inOffer with areas := 8 } junior 0).permits junior .hold 3 = false) ∧
      ((∀ a, a < 32 → inOffer.areas.getLsbD a = true →
          operator.qualified.getLsbD a = true ∧ (presentedTo inOffer operator 8).permits operator .hold a = true) ∧
        8 ≤ (presentedTo inOffer operator 8).tx.urgent.length) ∧
      ((∀ a, a < 32 → inOffer.areas.getLsbD a = true →
          operator.qualified.getLsbD a = true ∧ (presentedTo inOffer operator 7).permits operator .hold a = true) ∧
        (presentedTo inOffer operator 7).tx.urgent.length < 8) := by decide

/-- The seat change of one state: accepted with an area held and with none, and refused for the relief. -/
theorem test_meets_OffersAreAccepted_seatChange :
    (Works (seatChange operator 7 areas) ∧ (seatChange operator 7 areas).handover.incoming = .presented seatIn ∧
        seatIn.number = 5 ∧ (seatChange operator 7 areas).node.number = some seatIn.origin ∧
        (seatChange operator 7 areas).signOn.relief = some operator ∧ (seatChange operator 7 areas).holds 0 = true ∧
        (∀ a, a < 32 → (seatChange operator 7 areas).holds a = true →
          operator.qualified.getLsbD a = true ∧ (seatChange operator 7 areas).permits operator .hold a = true) ∧
        ((List.range 32).filter fun a => (seatChange operator 7 areas).holds a &&
          (seatChange operator 7 areas).inFlight a == none) = [0]) ∧
      (Works (seatChange reliefOp 7 noneHeld.areas) ∧
        (seatChange reliefOp 7 noneHeld.areas).handover.incoming = .presented seatIn ∧
        (seatChange reliefOp 7 noneHeld.areas).node.number = some seatIn.origin ∧
        (seatChange reliefOp 7 noneHeld.areas).signOn.relief = some reliefOp ∧
        (seatChange reliefOp 7 noneHeld.areas).heldSet = 0) ∧
      (Works (seatChange novice 0 areas) ∧ (seatChange novice 0 areas).holds 0 = true ∧ novice.qualified.getLsbD 0 = false) ∧
      (Works (seatChange junior 0 areas) ∧ (seatChange junior 0 areas).holds 0 = true ∧
        (∀ a, a < 32 → (seatChange junior 0 areas).holds a = true → junior.qualified.getLsbD a = true) ∧
        (seatChange junior 0 areas).permits junior .hold 0 = false) := by decide

theorem test_meets_OffersAreEndedAndScheduled :
    (Open (inMode .mute) ∧ ¬Active (inMode .mute)) ∧
      (Works (presentedTo inOffer operator 8) ∧ (presentedTo inOffer operator 8).handover.incoming = .presented inOffer ∧
        (presentedTo inOffer operator 8).node.number ≠ some inOffer.origin ∧
        8 ≤ (presentedTo inOffer operator 8).tx.urgent.length ∧ inOffer.number ≠ 5) ∧
      (Works (presentedTo inOffer operator 7) ∧ (presentedTo inOffer operator 7).handover.incoming = .presented inOffer ∧
        (presentedTo inOffer operator 7).tx.urgent.length < 8) ∧
      (Works (seatChange operator 0 areas) ∧ (seatChange operator 0 areas).handover.incoming = .presented seatIn ∧
        (seatChange operator 0 areas).node.number = some seatIn.origin ∧
        (seatChange operator 0 areas).handover.outgoing = .offered ⟨5, 1, 1, 800⟩) ∧
      (Works base ∧ base.handover.outgoing = .idle ∧ base.presented = none) ∧
      (Works (withOut (.committing outOffer)) ∧ (withOut (.committing outOffer)).handover.outgoing = .committing outOffer) ∧
      (Works (withOut (.offered outOffer)) ∧ (withOut (.offered outOffer)).handover.outgoing = .offered outOffer ∧
        (withOut (.offered outOffer)).node.number ≠ some outOffer.target ∧
        (withOut (.offered outOffer)).tx.urgent.length < 8) ∧
      (8 ≤ ({ withOut (.offered outOffer) with tx := (urgentOf 8).tx } : State).tx.urgent.length) ∧
      (1 ≤ (16 : Byte).toNat ∧ (16 : Byte).toNat ≤ 16 ∧ (3155759999 : Quad).toNat ≤ 3155759999 ∧ (1 : AreaSet) ≠ 0) ∧
      (Works base ∧ base.node.number = some 1 ∧ base.signOn.active ≠ none ∧ base.handover.scheduled = .empty) ∧
      (Works (withScheduled (.armed ⟨2, 1, .nextShiftStart⟩)) ∧
        (withScheduled (.armed ⟨2, 1, .nextShiftStart⟩)).handover.scheduled ≠ .empty) := by decide

theorem test_meets_OffersAreEndedAndScheduled_refused :
    Works base ∧ ¬(1 ≤ (17 : Byte).toNat ∧ (17 : Byte).toNat ≤ 16) ∧ (3155760000 : Quad) ≠ 0xFFFFFFFF ∧
      3155759999 < (3155760000 : Quad).toNat ∧ base.node.number ≠ some 2 ∧
      (Works noOperator ∧ noOperator.node.number = some 1 ∧ noOperator.signOn.active = none) := by decide

/-! ### The statements on events: what meets their hypotheses -/

/-- `base` hears a transmission from station 2. -/
theorem test_base_hears : Hears base rx2 where
  receives := by decide
  copyA := rfl
  copyB := rfl
  low := by decide
  high := by decide
  other := by decide
  fresh := by decide
  lineA := by decide
  lineB := by decide
  known := ⟨peer2, by decide⟩

/-- `base` in which the second event's work stands as given. -/
def withSecond (w : SecondWork) : State := { base with second := w }

/-- `base` at a later second. -/
def laterBy (n : Nat) (s : State) : State := { s with clock := { s.clock with now := s.clock.now + BitVec.ofNat 32 n } }

theorem test_meets_SecondEventAdvancesTheClock :
    (base.area 5).config = none ∧ ((base.area 0).config = some (config 1 none) ∧ (base.area 0).flood = false) ∧
      ((flooded0.area 0).config = some (config 1 none) ∧ (flooded0.area 0).flood = true) ∧
      (base.peer 2 = some peer2 ∧ peer2.state = .present ∧ peer2.silence < 3) ∧ LineName.a ≠ LineName.b ∧ Active base := by
  decide

set_option maxRecDepth 40000 in
/-- What a second event finds left over at `base` (an orphan grace) and 2 s later leaves it ACTIVE, with a console that is
not due to be dark and one that is; right after reset nothing is left over. -/
theorem test_meets_SecondEventAdvancesTheClock_leftOver :
    (Active (leftOver base) ∧ (leftOver base).node.dark = false ∧
        (base.clock.now + 1 - (leftOver base).node.lastCheckIn).toNat < 5 ∧
        (leftOver base).node.lastCheckIn = base.node.lastCheckIn) ∧
      (Active (leftOver (laterBy 2 base)) ∧ (leftOver (laterBy 2 base)).node.dark = false ∧
        5 ≤ ((laterBy 2 base).clock.now + 1 - (leftOver (laterBy 2 base)).node.lastCheckIn).toNat) ∧
      ¬Active (leftOver State.reset) ∧ leftOver State.reset = State.reset := by decide

theorem test_meets_SecondEventAdvancesTheClock_done : ∀ c ∈ workRows, ran State.reset c = State.reset := by decide

set_option maxRecDepth 20000 in
/-- What a presence of R152 leaves out: with 24 areas held under another badge, 17 claims of 6 bytes fit and the list goes on
at area 17. -/
theorem test_claim_list_is_cut :
    ∃ t, exec .secondEvent { base with areas := List.replicate 24 ⟨some (config 1 none), .held 1 9, 4, 0, false⟩ } = .next t ∧
      t.node.listStart = 17 ∧ (∃ x p, t.tx.presence = some x ∧ x.tx.frame = .presence p ∧ p.claims.length = 17) :=
  ⟨_, rfl, by decide, _, _, rfl, rfl, by decide⟩

/-- `base` at a later second with the shelf and deadline tests owed, and one record in its list. -/
def tested (n : Nat) (h : Handling) (p : Priority) : State :=
  { laterBy n base with
    picture := { base.picture with list := [{ alarm h with priority := p }] }
    second := { SecondWork.none with shelf := true, deadline := true } }

/-- The list of `tested` is sound. -/
theorem test_tested_list (n : Nat) (h : Handling) (p : Priority) :
    ListSound (tested n h p).picture.list where
  capacity := by simp [tested, Config.listCapacity]
  ids := by simp [tested]
  order := by simp [tested]
  records := by
    simp only [tested, List.mem_singleton]
    rintro r rfl
    exact ⟨by simp [alarm], by simp [alarm]⟩

theorem test_meets_ShelvesAndDeadlinesRunOut :
    (base.second.shelf = false ∧ base.second.deadline = false) ∧
      ((tested 0 (.shelved 1000 1 7) .high).second.shelf = true ∧
        ((tested 0 (.shelved 1000 1 7) .high).clock.now - 1000).toNat < 2147483648 ∧
        2147483648 ≤ ((tested 0 (.shelved 1001 1 7) .high).clock.now - 1001).toNat) ∧
      ((tested 0 .unack .urgent).second.deadline = true ∧ (alarm .unack).escalated = false ∧
        60 ≤ ((tested 50 .unack .urgent).clock.now - (alarm .unack).arrivalSec).toNat ∧
        ((tested 49 .unack .urgent).clock.now - (alarm .unack).arrivalSec).toNat < 60) ∧
      (300 ≤ ((tested 290 .unack .high).clock.now - (alarm .unack).arrivalSec).toNat ∧
        ((tested 289 .unack .high).clock.now - (alarm .unack).arrivalSec).toNat < 300) ∧
      (900 ≤ ((tested 890 .unack .medium).clock.now - (alarm .unack).arrivalSec).toNat ∧
        ((tested 889 .unack .medium).clock.now - (alarm .unack).arrivalSec).toNat < 900 ∧
        ((tested 890 .unack .medium).area 0).flood = false ∧
        (tested 890 .unack .medium).second.floodEnded.getLsbD 0 = false) ∧
      (alarm (.ack 1 7)).handling ≠ .unack ∧ (flooded0.area 0).flood = true := by decide

/-- One shelf that has run out, and one that has not. -/
theorem test_meets_ShelvesAndDeadlinesRunOut_shelf :
    ((tested 0 (.shelved 1000 1 7) .high).picture.list =
        [] ++ { alarm (.shelved 1000 1 7) with priority := .high } :: [] ∧
      RunOut (tested 0 (.shelved 1000 1 7) .high) { alarm (.shelved 1000 1 7) with priority := .high }) ∧
      ∀ r ∈ (tested 0 (.shelved 1001 1 7) .high).picture.list, ¬RunOut (tested 0 (.shelved 1001 1 7) .high) r := by
  refine ⟨⟨rfl, 1000, 1, 7, rfl, by decide⟩, fun r hr => ?_⟩
  obtain rfl := List.mem_singleton.mp hr
  rintro ⟨e, n, b, ⟨⟩, h⟩
  exact absurd h (by decide)

/-- An escalation at a rank-0 station holding the area: latched, and the horn sounds (R37). -/
theorem test_escalation : ∃ t, exec .responseDeadline (tested 290 .unack .high) = .next t ∧
    findRecord ⟨0, 5⟩ t.picture.list = some { alarm .unack with escalated := true } ∧
    t.flagSet .escalation = true ∧ t.picture.horn = .sounding .oneHz 0 := ⟨_, rfl, by decide⟩

/-- A station of another number, and one whose operator has rank 2. -/
def otherStation (o : Operator) : State :=
  { base with node := { base.node with number := some 3 }, signOn := ⟨some o, none⟩ }

def reliefSeated : State := { base with signOn := ⟨some reliefOp, none⟩ }

theorem test_meets_OrphanGraceRunsOut :
    (∀ n b since, (base.area 0).hold = .orphaned n b since .running → (base.clock.now - since).toNat < 10) ∧
      ((base.area 2).hold = .orphaned 2 9 980 .running ∧ 10 ≤ (base.clock.now - 980).toNat) ∧
      ((laterBy (4294967296 - 10) base).clock.now - 980).toNat = 10 ∧
      ((laterBy (4294967296 - 11) base).clock.now - 980).toNat < 10 ∧
      ((withUrgent (.claim 1 2 4 7)).isStandby 2 = true ∧ (withUrgent (.claim 1 2 4 7)).inFlight 2 ≠ none) ∧
      (noOperator.isStandby 2 = true ∧ noOperator.inFlight 2 = none ∧ noOperator.signOn.active = none) ∧
      (base.isStandby 2 = true ∧ base.inFlight 2 = none ∧ Active base ∧ base.signOn.active = some operator ∧
        operator.qualified.getLsbD 2 = true ∧ base.permits operator .take 2 = true ∧ base.tx.urgent.length < 8) ∧
      (reliefSeated.isStandby 2 = true ∧ reliefSeated.inFlight 2 = none ∧ Active reliefSeated ∧
        reliefSeated.signOn.active = some reliefOp ∧ reliefSeated.permits reliefOp .take 2 = false) ∧
      ((otherStation operator).isStandby 2 = false ∧ (otherStation operator).signOn.active = some operator ∧
        operator.rank = 0) ∧
      ((otherStation reliefOp).isStandby 2 = false ∧ (otherStation reliefOp).signOn.active = some reliefOp ∧
        reliefOp.rank ≠ 0) :=
  ⟨by rintro n b t ⟨⟩, by decide⟩

/-- `base` whose peer has been silent for three second events, with offers to and from it. -/
def silent2 : State :=
  { base with
    peers := (List.replicate 16 none).set 1 (some { peer2 with silence := 3 })
    handover := { base.handover with outgoing := .offered outOffer, incoming := .presented inOffer } }

theorem test_meets_SilentPeersAreLost :
    (∀ r, base.peer 2 = some r → r.state = .lost ∨ r.silence ≠ 3) ∧ silent2.peer 2 = some { peer2 with silence := 3 } ∧
      ({ peer2 with silence := 3 } : PeerRecord).state = .present ∧ silent2.node.number ≠ some 2 ∧
      (silent2.area 3).hold = .held 2 8 ∧ silent2.handover.outgoing = .offered outOffer ∧ outOffer.target = 2 ∧
      silent2.handover.incoming = .presented inOffer ∧ inOffer.origin = 2 :=
  ⟨by rintro r ⟨⟩; decide, by decide⟩

/-- `silent2` with one pair of offers in place of its own. -/
def silentWith (o : Outgoing) (i : Incoming) : State :=
  { silent2 with handover := { base.handover with outgoing := o, incoming := i } }

theorem test_meets_SilentPeersAreLost_offers :
    (silentWith .idle (.answered inOffer 990)).peer 2 = some { peer2 with silence := 3 } ∧
      (silentWith .idle (.answered inOffer 990)).node.number ≠ some 2 ∧
      (silentWith .idle (.answered inOffer 990)).handover.incoming = .answered inOffer 990 ∧ inOffer.origin = 2 ∧
      (∀ o, (silentWith .idle (.answered inOffer 990)).handover.outgoing = .offered o → o.target ≠ 2) ∧
      (∀ o f, (silentWith (.offered outOffer) .idle).handover.incoming = .presented o ∨
        (silentWith (.offered outOffer) .idle).handover.incoming = .answered o f → o.origin ≠ 2) :=
  ⟨by decide, by decide, rfl, rfl, nofun, fun _ _ h => h.elim nofun nofun⟩

/-- `silent2` serving a stream, to the silent peer alone or to another one too. -/
def silentServing (active staged : StationSet) : State :=
  { silent2 with transfer := { base.transfer with serving := .streaming ⟨active, staged, [], 0, 0, 0⟩ } }

theorem test_meets_SilentPeersAreLost_stream :
    (silentServing 2 4).peer 2 = some { peer2 with silence := 3 } ∧
      (2 : StationSet) &&& ~~~BitVec.twoPow 16 ((2 : Byte).toNat - 1) = 0 ∧
      (6 : StationSet) &&& ~~~BitVec.twoPow 16 ((2 : Byte).toNat - 1) ≠ 0 ∧ silent2.transfer.serving = .idle ∧
      (silentServing 6 0).transfer.serving = .streaming ⟨6, 0, [], 0, 0, 0⟩ := by decide

/-- `base` 5 s after its last check-in, with its offers and `n` frames in the urgent queue. -/
def unchecked (o : Outgoing) (i : Incoming) (n : Nat) : State :=
  { laterBy 3 (urgentOf n) with handover := { base.handover with outgoing := o, incoming := i } }

theorem test_meets_ConsoleListenAndLines_dark :
    ((base.clock.now - base.node.lastCheckIn).toNat < 5) ∧
      ((unchecked (.offered ⟨5, 1, 1, 800⟩) (.presented seatIn) 0).node.dark = false ∧
        ((unchecked (.offered ⟨5, 1, 1, 800⟩) (.presented seatIn) 0).clock.now - base.node.lastCheckIn).toNat = 5 ∧
        (unchecked (.offered ⟨5, 1, 1, 800⟩) (.presented seatIn) 0).node.number = some 1) ∧
      ((unchecked .idle (.presented inOffer) 7).handover.outgoing = .idle ∧
        (unchecked .idle (.presented inOffer) 7).handover.incoming = .presented inOffer ∧
        (unchecked .idle (.presented inOffer) 7).node.number ≠ some inOffer.origin ∧
        (unchecked .idle (.presented inOffer) 7).tx.urgent.length < 8 ∧
        8 ≤ (unchecked .idle (.presented inOffer) 8).tx.urgent.length) ∧
      ((unchecked .idle .idle 0).handover.outgoing = .idle ∧ (unchecked .idle .idle 0).handover.incoming = .idle) ∧
      ((unchecked (.offered outOffer) .idle 0).handover.outgoing = .offered outOffer ∧
        (unchecked (.offered outOffer) .idle 0).node.number ≠ some outOffer.target ∧
        (unchecked (.offered outOffer) .idle 0).tx.urgent.length < 8) := by decide

/-- R123: an offer each way, and one ANSWERED, at 6, 7 and 8 frames in the urgent queue. -/
theorem test_meets_ConsoleListenAndLines_both (n : Nat) (hn : n = 6 ∨ n = 7 ∨ n = 8) (i : Incoming)
    (hi : i = .presented inOffer ∨ i = .answered inOffer 990) (s : State) (hs : s = unchecked (.offered outOffer) i n) :
    s.node.dark = false ∧ 5 ≤ (s.clock.now - s.node.lastCheckIn).toNat ∧
      s.handover.outgoing = .offered outOffer ∧ s.node.number ≠ some outOffer.target ∧ s.handover.incoming = i ∧
      s.node.number ≠ some inOffer.origin ∧ s.tx.urgent.length = n := by
  subst hs
  rcases hn with rfl | rfl | rfl <;> rcases hi with rfl | rfl <;> decide

/-- A listening station that has heard no peer, `n` seconds after its start. -/
def alone (n : Nat) : State :=
  { inMode .joining with
    clock := { base.clock with now := BitVec.ofNat 32 n }
    peers := List.replicate 16 none }

/-- `base` with a line in a state, about to go SILENT or not. -/
def withLineA (l : LineState) (due : Bool) : State := base.setLine .a ⟨l, 3, false, due⟩

theorem test_meets_ConsoleListenAndLines :
    (∀ n r, (alone 3).peer n = some r → r.state = .lost) ∧
      ((alone 3).node.mode = .joining ∧ 3 ≤ ((alone 3).clock.now - (alone 3).node.listenStart).toNat ∧
        (alone 3).bus.sending = none ∧ (alone 3).peers.length = 16) ∧
      ((alone 2).clock.now - (alone 2).node.listenStart).toNat < 3 ∧ base.node.mode ≠ .joining ∧
      ((inMode .joining).node.mode = .joining ∧
        3 ≤ ((inMode .joining).clock.now - (inMode .joining).node.listenStart).toNat ∧
        (inMode .joining).bus.sending = none ∧ (inMode .joining).peer 2 = some peer2 ∧ peer2.state = .present ∧
        (inMode .joining).tx.urgent.length < 8) ∧
      (((withLineA (.disturbed 940) false).line .a).state = .disturbed 940 ∧
        60 ≤ ((withLineA (.disturbed 940) false).clock.now - 940).toNat ∧
        ((withLineA (.disturbed 941) false).clock.now - 941).toNat < 60) ∧
      ((base.line .b).silentDue = false) ∧
      (((withLineA .good true).line .a).silentDue = true ∧ ((withLineA .good true).line .a).state ≠ .silent) := by
  refine ⟨?_, by decide⟩
  intro n r h
  unfold State.peer at h
  split at h
  · simp only [alone, List.getD_eq_getElem?_getD, List.getElem?_replicate] at h
    split at h <;> cases h
  · cases h

/-- Joining alone, the presence of the second build carries a valid picture (R149). -/
theorem test_alone_presence_is_valid :
    ∃ t x p, exec .listenEnd (alone 3) = .next t ∧ t.tx.presence = some x ∧ x.tx.frame = .presence p ∧
      p.pictureValid = true ∧ p.joinMark = true ∧ t.tx.nextPresence = none :=
  ⟨_, _, _, rfl, rfl, rfl, by decide⟩

/-- `base` with an offer that the last second event's work brings to fire, its console dark or not, and areas whose flood
the last decay ended. -/
def firing (t : Station) (m : AreaSet) (dark : Bool) (ended : AreaSet) (r : Option Operator) : State :=
  { base with
    handover := { base.handover with scheduled := .waiting ⟨t, m, .at 0⟩, fireBySecond := true }
    node := { base.node with dark := dark }
    signOn := ⟨some operator, r⟩
    second := { SecondWork.none with floodEnded := ended } }

theorem test_meets_InstantsAndScheduleAct :
    (base.second.due = false ∧ base.second.start = false ∧ base.second.overdue = false ∧ base.second.schedule = false) ∧
      (withSecond { SecondWork.none with due := true }).second.due = true ∧
      ((withSecond { SecondWork.none with start := true }).second.due = false ∧
        (withSecond { SecondWork.none with start := true }).second.start = true) ∧
      ((withSecond { SecondWork.none with overdue := true }).second.overdue = true ∧
        operator.shift < ({ withSecond { SecondWork.none with overdue := true } with
          clock := { base.clock with shift := 2 } } : State).clock.shift ∧
        (withSecond { SecondWork.none with overdue := true }).holds 0 = true ∧ base.clock.shift ≤ operator.shift) ∧
      ((withScheduled (.armed ⟨2, 1, .at 0⟩)).handover.scheduled = .armed ⟨2, 1, .at 0⟩ ∧ 0 ≤ base.clock.millTime) ∧
      (base.handover.scheduled = .empty ∧ (withOut (.offered outOffer)).handover.outgoing ≠ .idle) ∧
      ((firing 2 1 true 0 none).node.dark = true ∧ (firing 2 1 true 0 none).handover.outgoing = .idle) ∧
      ((firing 2 1 false 0 none).node.dark = false ∧
        offerFails (firing 2 1 false 0 none) (fun _ => false) 2 1 = none ∧
        (firing 2 1 false 0 none).node.number ≠ some 2) ∧
      offerFails (firing 2 2 false 0 none) (fun _ => false) 2 2 = some .notHeld ∧
      offerFails (firing 2 1 false 0 none) (fun a => a == 0) 2 1 = some .flooded ∧
      offerFails (firing 1 0 false 0 none) (fun _ => false) 1 0 = some .noRelief ∧
      (offerFails (firing 1 0 false 0 (some reliefOp)) (fun _ => false) 1 0 = none ∧
        (firing 1 0 false 0 (some reliefOp)).node.number = some 1) := by decide

/-- An area whose flood the last decay ended is in FLOOD or not for an offer that this second event's work brings to fire
(R62): it is refused FLOODED or made. -/
theorem test_flood_at_fire (s : State) (hs : s = firing 2 1 false 1 none) :
    s.floodAtFire 0 = Config.floodStillSeen s.freeCount ∧ s.offerRefusalIn (fun a => a = 0) 2 1 = some .flooded ∧
      s.offerRefusalIn (fun _ => false) 2 1 = none := by
  subst hs
  exact ⟨by simp [State.floodAtFire, State.fireOpen, State.inFlood, State.area, firing, base, areas], by decide, by decide⟩

/-- `base` with an offer WAITING behind an outgoing one, and a flood of area 0 that the last decay ended. -/
def waitingBehind : State :=
  { withOut (.offered outOffer) with
    handover := { (withOut (.offered outOffer)).handover with scheduled := .waiting ⟨2, 1, .at 0⟩ }
    second := { SecondWork.none with floodEnded := 1 } }

/-- The offer timeout is the second event's work and an ANSWER is not: the one leaves the flood at the firing open, the
other leaves it NORMAL (R62, R129). -/
theorem test_who_ends_the_offer :
    (∃ t, exec .offerTimeout waitingBehind = .next t ∧ t.dueToFire = true ∧ t.fireOpen = 1) ∧
      ∃ t, exec (.answerFrame rx2 1 1 2 1 0) waitingBehind = .next t ∧ t.dueToFire = true ∧ t.fireOpen = 0 :=
  ⟨⟨_, rfl, by decide⟩, _, rfl, by decide⟩

/-- A firing after an ANSWER finds NORMAL: the offer is made (R62, R129). -/
theorem test_fires_after_answer :
    ∃ t, exec .scheduledOfferFire { waitingBehind with handover := { waitingBehind.handover with outgoing := .idle } } =
        .next t ∧ t.handover.fireResult = some (.made 1) := ⟨_, rfl, by decide⟩

theorem test_meets_OfferTimersRunOut :
    ((withOut (.offered outOffer)).handover.outgoing = .offered outOffer ∧ 120 ≤ (base.clock.now - outOffer.start).toNat ∧
        (withOut (.offered outOffer)).node.number ≠ some outOffer.target ∧
        (withOut (.offered outOffer)).tx.urgent.length < 8 ∧
        8 ≤ ({ withOut (.offered outOffer) with tx := (urgentOf 8).tx } : State).tx.urgent.length) ∧
      (base.clock.now - 881).toNat < 120 ∧ (base.clock.now - 880).toNat = 120 ∧
      ((presentedTo inOffer operator 7).handover.incoming = .presented inOffer ∧
        110 ≤ ((presentedTo inOffer operator 7).clock.now - inOffer.start).toNat ∧
        (presentedTo inOffer operator 7).node.number ≠ some inOffer.origin ∧
        (presentedTo inOffer operator 7).tx.urgent.length < 8 ∧
        8 ≤ (presentedTo inOffer operator 8).tx.urgent.length) ∧
      ((withOut (.offered ⟨5, 1, 1, 800⟩)).handover.outgoing = .offered ⟨5, 1, 1, 800⟩ ∧
        120 ≤ (base.clock.now - 800).toNat ∧ (withOut (.offered ⟨5, 1, 1, 800⟩)).node.number = some 1) ∧
      ((seatChange operator 0 areas).handover.incoming = .presented seatIn ∧
        110 ≤ ((seatChange operator 0 areas).clock.now - seatIn.start).toNat ∧
        (seatChange operator 0 areas).node.number = some seatIn.origin) ∧
      (base.clock.now - 891).toNat < 110 ∧ (base.clock.now - 890).toNat = 110 ∧
      ((withIn (.answered inOffer 990)).handover.incoming = .answered inOffer 990 ∧
        (base.clock.now - 990).toNat = 10 ∧ (base.clock.now - 991).toNat < 10) := by decide

def waiting : Refresh := ⟨.waiting, 1, 995, false, 0⟩
def receiving : Refresh := ⟨.receiving 2 997, 2, 990, false, 6⟩

/-- `base` with a refresh in progress and `n` frames in the urgent queue. -/
def refreshingAnd (x : Refresh) (n : Nat) : State := { urgentOf n with transfer := { base.transfer with refresh := some x } }
def refreshing (x : Refresh) : State := refreshingAnd x 0

/-- `base` with a re-badge list of area 0. -/
def rebadging : State := { base with handover := { base.handover with rebadge := 1 } }

theorem test_meets_RefreshTestsAndRebadge :
    base.transfer.refresh = none ∧
      ((refreshingAnd waiting 7).transfer.refresh = some waiting ∧ waiting.phase = .waiting ∧ waiting.attempt = 1 ∧
        waiting.repeatOwed = false ∧ (base.clock.now - waiting.wait).toNat = 5 ∧
        (∀ t ∈ (refreshingAnd waiting 7).tx.urgent, t.frame ≠ .pictureRequest) ∧
        (refreshingAnd waiting 7).tx.urgent.length < 8 ∧ 8 ≤ (refreshingAnd waiting 8).tx.urgent.length) ∧
      (base.clock.now - 996).toNat < 5 ∧
      ((refreshing receiving).transfer.refresh = some receiving ∧ receiving.phase = .receiving 2 997 ∧
        receiving.attempt ≠ 1 ∧ (base.clock.now - 997).toNat = 3) ∧
      (base.clock.now - 998).toNat < 3 ∧ base.second.repeatWork = false ∧
      (({ refreshing { waiting with repeatOwed := true } with
          second := { SecondWork.none with repeatWork := true } } : State).second.repeatWork = true ∧
        (refreshing { waiting with repeatOwed := true }).tx.urgent.length < 8) ∧
      (base.handover.rebadge = 0 ∧ 8 ≤ (urgentOf 8).tx.urgent.length) ∧
      ((0 : Byte).toNat < 32 ∧ rebadging.handover.rebadge.getLsbD 0 = true ∧ rebadging.inFlight 0 = none ∧
        (∀ b, b < 0 → rebadging.handover.rebadge.getLsbD b = true → rebadging.inFlight b ≠ none) ∧
        rebadging.tx.urgent.length < 8) := by decide

/-- A first request still queued, and a repeat that finds no place or nothing owed. -/
theorem test_meets_RefreshTestsAndRebadge_queued (s : State)
    (hs : s = { refreshing waiting with tx := { base.tx with urgent := [⟨.pictureRequest, none⟩] } }) :
    s.transfer.refresh = some waiting ∧ waiting.attempt = 1 ∧ waiting.phase = .waiting ∧ waiting.repeatOwed = false ∧
      5 ≤ (s.clock.now - waiting.wait).toNat ∧ (∃ t ∈ s.tx.urgent, t.frame = .pictureRequest) ∧
      (∀ u : State, u = { s with second := { SecondWork.none with repeatWork := true } } →
        u.second.repeatWork = true ∧ u.transfer.refresh = some waiting) ∧
      ∀ u : State, u = { urgentOf 8 with second := { SecondWork.none with repeatWork := true } } →
        u.second.repeatWork = true ∧ u.transfer.refresh = none ∧ 8 ≤ u.tx.urgent.length := by
  subst hs
  exact ⟨rfl, rfl, rfl, rfl, by decide, by decide, by rintro u rfl; decide, by rintro u rfl; decide⟩

def aPresence : PresenceTx := ⟨⟨.presence base.presenceBody, none⟩, .none⟩
def aStream : Stream := ⟨2, 0, [⟨0, 5⟩], 0, 0, 0⟩

/-- `base` sending a frame of a class, on both lines, on line A alone, or on none. -/
def sendingOf (x : Sending) (t : Transmit) : State := { base with bus := { base.bus with sending := some x }, tx := t }

/-- `base` streaming its picture. -/
def serving (x : Stream) : State := { base with transfer := { base.transfer with serving := .streaming x } }

theorem test_meets_AccessStartsTheLowestClass :
    ¬Active (inMode .mute) ∧ (sendingOf ⟨.urgent, false, false⟩ base.tx).bus.sending ≠ none ∧
      (Active (urgentOf 1) ∧ (urgentOf 1).bus.sending = none ∧ (urgentOf 1).node.number = some 1 ∧
        (urgentOf 1).tx.urgent = ⟨.unshelve ⟨0, 1⟩, none⟩ :: [] ∧ (1 : BitVec 7).toNat = (1 : Byte).toNat ∧
        (2 : BitVec 7).toNat ≠ (1 : Byte).toNat) ∧
      (Active (changesOf 9) ∧ (changesOf 9).bus.sending = none ∧ (changesOf 9).tx.urgent = [] ∧
        (changesOf 9).tx.changeFrame = none ∧ (changesOf 9).tx.change ≠ [] ∧
        (17 : BitVec 7).toNat = 16 + (1 : Byte).toNat) ∧
      (({ base.tx with presence := some aPresence } : Transmit).urgent = [] ∧ base.tx.changeFrame = none ∧
        base.tx.change = [] ∧ (33 : BitVec 7).toNat = 32 + (1 : Byte).toNat) ∧
      (Active (serving aStream) ∧ (serving aStream).bus.sending = none ∧ (serving aStream).tx.urgent = [] ∧
        (serving aStream).tx.changeFrame = none ∧ (serving aStream).tx.change = [] ∧
        (serving aStream).tx.presence = none ∧ (serving aStream).tx.pictureFrame = none ∧
        (serving aStream).transfer.serving = .streaming aStream ∧ (49 : BitVec 7).toNat = 48 + (1 : Byte).toNat) := by
  decide

/-- A held ALARM CHANGE and a held picture frame, and the walk of a stream: its last record, its end, and six of nine
with an id that has left the list. -/
theorem test_meets_AccessStartsTheLowestClass_walk :
    (∀ f s, f = TxFrame.mk (.alarmChange [⟨1, ⟨0, 6⟩, 2, 0⟩]) (some 3) →
        s = { base with tx := { base.tx with changeFrame := some f } } →
        Active s ∧ s.bus.sending = none ∧ s.node.number = some 1 ∧ s.tx.urgent = [] ∧ s.tx.changeFrame = some f ∧
          (17 : BitVec 7).toNat = 16 + (1 : Byte).toNat) ∧
      (∀ f s, f = PictureTx.mk ⟨.pictureEnd 2 0, some 3⟩ true →
        s = { base with tx := { base.tx with pictureFrame := some f } } →
        Active s ∧ s.bus.sending = none ∧ s.node.number = some 1 ∧ s.tx.urgent = [] ∧ s.tx.changeFrame = none ∧
          s.tx.change = [] ∧ s.tx.presence = none ∧ s.tx.pictureFrame = some f) ∧
      (∀ walked, walked = aStream.ids →
        aStream.ids.drop aStream.position = walked ++ [] ∧
          walked.filterMap (fun id => findRecord id (serving aStream).picture.list) = [alarm .unack]) ∧
      aStream.ids.drop 1 = [] ++ [] ∧
      (∀ ids walked rest, ids = ⟨2, 2⟩ :: nine.picture.list.map AlarmRecord.id → walked = ids.take 7 → rest = ids.drop 7 →
        ids = walked ++ rest ∧ (walked.filterMap fun id => findRecord id nine.picture.list).length = 6 ∧
          walked.getLast? = some ⟨0, 10⟩ ∧ findRecord ⟨0, 10⟩ nine.picture.list ≠ none) := by
  refine ⟨?_, ?_, by rintro w rfl; decide, by decide, ?_⟩
  · rintro f s rfl rfl; decide
  · rintro f s rfl rfl; decide
  · rintro i w r rfl rfl rfl; decide

/-! One concrete state for each counted attempt of AttemptsEnd, sending on line A alone. -/

/-- `base` sending the head of an urgent queue. -/
def sendingUrgent (f : Frame) : State := sendingOf ⟨.urgent, false, true⟩ { base.tx with urgent := [⟨f, some 0⟩] }

theorem test_meets_AttemptsEnd :
    base.bus.sending = none ∧
      ((sendingUrgent .pictureRequest).bus.sending = some ⟨.urgent, false, true⟩ ∧
        ((sendingUrgent .pictureRequest).line .a).silentDue = false) ∧
      ((sendingOf ⟨.presence, true, true⟩
          { base.tx with presence := some aPresence, nextPresence := some aPresence }).tx.nextPresence ≠ none ∧
        (sendingOf ⟨.urgent, true, true⟩ base.tx).tx.nextPresence = none ∧
        ({ base.bus with fails := 7 } : Bus).fails = 7) ∧
      ((sendingUrgent .pictureRequest).node.number = some 1 ∧ 1 ≤ (1 : Byte).toNat ∧ (1 : Byte).toNat ≤ 16 ∧
        (sendingUrgent .pictureRequest).tx.urgent = ⟨.pictureRequest, some 0⟩ :: []) ∧
      ((sendingUrgent (.ack 7 [⟨⟨0, 5⟩, 2⟩])).tx.urgent = ⟨.ack 7 [⟨⟨0, 5⟩, 2⟩], some 0⟩ :: [] ∧
        findRecord ⟨0, 5⟩ (sendingUrgent (.ack 7 [⟨⟨0, 5⟩, 2⟩])).picture.list = some (alarm .unack) ∧
        (alarm .unack).occurrence = 2 ∧ (alarm .unack).handling = .unack ∧ (alarm .unack).cleared = false ∧
        (1 : Byte).toNat < (alarm .unack).occurrence.toNat) ∧
      ((sendingUrgent (.shelve ⟨0, 5⟩ 30 7)).tx.urgent = ⟨.shelve ⟨0, 5⟩ 30 7, some 0⟩ :: [] ∧
        findRecord ⟨0, 5⟩ (sendingUrgent (.shelve ⟨0, 5⟩ 30 7)).picture.list = some (alarm .unack) ∧
        shelvedCount 0 ⟨0, 5⟩ (sendingUrgent (.shelve ⟨0, 5⟩ 30 7)).picture.list <
          (sendingUrgent (.shelve ⟨0, 5⟩ 30 7)).shelveLimit 0) ∧
      (findRecord ⟨0, 5⟩ ({ sendingUrgent (.unshelve ⟨0, 5⟩) with
          picture := (withAlarm (.shelved 1100 1 7) false).picture } : State).picture.list =
            some (alarm (.shelved 1100 1 7)) ∧ (alarm (.shelved 1100 1 7)).handling.isShelved = true) := by decide

/-- Own claims, accepted and rejected, and an own COMMIT of the area this station holds. -/
theorem test_meets_AttemptsEnd_claims :
    ((sendingUrgent (.claim 0x02 1 1 7)).tx.urgent = ⟨.claim 0x02 1 1 7, some 0⟩ :: [] ∧
        ((sendingUrgent (.claim 0x02 1 1 7)).area 1).config = some (config 2 (some 1)) ∧
        ((sendingUrgent (.claim 0x02 1 1 7)).area 1).serial.toNat < (1 : Half).toNat ∧
        (sendingUrgent (.claim 0x02 1 1 7)).window.scope ≠ .held) ∧
      (((sendingUrgent (.take 3 4 7)).area 3).config = some (config 2 none) ∧
        (4 : Half).toNat < ((sendingUrgent (.take 3 4 7)).area 3).serial.toNat) ∧
      (({ sendingUrgent (.take 3 5 7) with node := { base.node with number := some 3 } } : State).node.number = some 3 ∧
        (5 : Half) = ((sendingUrgent (.take 3 5 7)).area 3).serial ∧
        ((sendingUrgent (.take 3 5 7)).area 3).hold = .held 2 8 ∧ (2 : Byte).toNat < (3 : Byte).toNat) ∧
      (({ sendingUrgent (.commit 1 2 8 [⟨0, 5⟩]) with handover := (withOut (.committing outOffer)).handover } :
          State).handover.outgoing = .committing outOffer ∧ outOffer.number = 1 ∧
        ((sendingUrgent (.commit 1 2 8 [⟨0, 5⟩])).area 0).config = some (config 1 none) ∧
        ((sendingUrgent (.commit 1 2 8 [⟨0, 5⟩])).area 0).serial.toNat < (5 : Half).toNat ∧
        ((sendingUrgent (.commit 1 2 8 [⟨0, 5⟩])).area 0).hold = .held 1 7 ∧
        (sendingUrgent (.commit 1 2 8 [⟨0, 5⟩])).window.scope ≠ .held ∧ 1 ≤ (2 : Byte).toNat ∧ (2 : Byte).toNat ≤ 16 ∧
        (2 : Byte) ≠ 1 ∧ (sendingUrgent (.commit 1 2 8 [⟨0, 5⟩])).peer 2 = some peer2 ∧ peer2.state = .present ∧
        peer2.isDark = false) := by decide

/-- An own COMMIT of several areas, one of them not configured, with an offer COMMITTING under its number and without. -/
theorem test_meets_AttemptsEnd_commit (s : State)
    (hs : s = { sendingUrgent (.commit 1 2 8 [⟨0, 5⟩, ⟨3, 6⟩, ⟨9, 1⟩]) with
      handover := (withOut (.committing outOffer)).handover }) :
    s.bus.sending = some ⟨.urgent, false, true⟩ ∧ s.node.number = some 1 ∧ 1 ≤ (2 : Byte).toNat ∧ (2 : Byte).toNat ≤ 16 ∧
      s.tx.urgent = ⟨.commit 1 2 8 [⟨0, 5⟩, ⟨3, 6⟩, ⟨9, 1⟩], some 0⟩ :: [] ∧
      s.handover.outgoing = .committing outOffer ∧ outOffer.number = 1 ∧
      ∀ o, base.handover.outgoing = .committing o → o.number ≠ 1 := by
  subst hs
  exact ⟨rfl, rfl, by decide, by decide, rfl, rfl, rfl, nofun⟩

/-- `base` sending an ALARM CHANGE of one entry of its own feed, with a record of it or not. -/
def sendingChange (a : Byte) (k : Byte) : State :=
  sendingOf ⟨.change, false, true⟩ { base.tx with changeFrame := some ⟨.alarmChange [⟨k, ⟨a, 6⟩, 2, 0⟩], some 0⟩ }

theorem test_meets_AttemptsEnd_changes :
    ((sendingChange 3 1).bus.sending = some ⟨.change, false, true⟩ ∧ (sendingChange 3 1).node.number = some 1 ∧
        ((sendingChange 3 1).area 3).config = some (config 2 none) ∧ (config 2 none).feed ≠ 1) ∧
      (((sendingChange 0 1).area 0).config = some (config 1 none) ∧ (config 1 none).feed = 1 ∧
        priorityOf (2 : Byte).toNat = some .high ∧ findRecord ⟨0, 6⟩ (sendingChange 0 1).picture.list = none ∧
        (sendingChange 0 1).picture.list.length < 256) ∧
      (findRecord ⟨0, 6⟩ ({ sendingChange 0 2 with picture := shelfTaken.picture } : State).picture.list =
          some { alarm (.shelved 1100 1 7) with id := ⟨0, 6⟩ } ∧
        ({ alarm (.shelved 1100 1 7) with id := ⟨0, 6⟩ } : AlarmRecord).cleared = false) := by decide

/-- Frames of several entries, a re-raise, and an own claim at the record's serial. -/
theorem test_meets_AttemptsEnd_entries :
    (∀ f, f = .ack 7 [⟨⟨0, 5⟩, 2⟩, ⟨⟨0, 6⟩, 1⟩] →
        (sendingUrgent f).bus.sending = some ⟨.urgent, false, true⟩ ∧ (sendingUrgent f).node.number = some 1 ∧
          (sendingUrgent f).tx.urgent = ⟨f, some 0⟩ :: []) ∧
      Next .attemptEnd (sendingUrgent (.ack 7 [⟨⟨0, 5⟩, 2⟩])) ∧ Next .attemptEnd (sendingChange 0 1) ∧
      (∀ s, s = { sendingChange 0 1 with picture := shelfTaken.picture } →
        s.bus.sending = some ⟨.change, false, true⟩ ∧ s.node.number = some 1 ∧
          s.tx.changeFrame = some ⟨.alarmChange [⟨1, ⟨0, 6⟩, 2, 0⟩], some 0⟩ ∧ (s.area 0).config = some (config 1 none) ∧
          findRecord ⟨0, 6⟩ s.picture.list = some { alarm (.shelved 1100 1 7) with id := ⟨0, 6⟩ }) ∧
      (∀ s, s = sendingUrgent (.take 2 3 7) →
        s.tx.urgent = ⟨.take 2 3 7, some 0⟩ :: [] ∧ (s.area 2).config = some (config 2 (some 1)) ∧
          (3 : Half) = (s.area 2).serial ∧ ∀ t0 b0, (s.area 2).hold = .held t0 b0 → (1 : Byte).toNat ≤ t0.toNat) := by
  refine ⟨by rintro f rfl; decide, ⟨_, rfl⟩, ⟨_, rfl⟩, by rintro s rfl; decide, ?_⟩
  rintro s rfl
  exact ⟨by decide, by decide, by decide, by rintro t b ⟨⟩⟩

/-- `base` sending its held picture frame, and its presence. -/
def sendingPicture (f : Frame) : State :=
  { sendingOf ⟨.picture, false, true⟩ { base.tx with pictureFrame := some ⟨⟨f, some 0⟩, true⟩ } with
    transfer := (serving aStream).transfer }
def sendingPresence : State :=
  sendingOf ⟨.presence, false, true⟩
    { base.tx with presence := some ⟨⟨.presence { base.presenceBody with claims := [] }, some 0⟩, .none⟩ }

theorem test_meets_AttemptsEnd_rest :
    ((sendingPicture (.pictureEnd 2 0)).bus.sending = some ⟨.picture, false, true⟩ ∧
        (sendingPicture (.pictureEnd 2 0)).node.number = some 1 ∧
        (sendingPicture (.pictureEnd 2 0)).tx.pictureFrame = some ⟨⟨.pictureEnd 2 0, some 0⟩, true⟩ ∧
        (sendingPicture (.pictureEnd 2 0)).transfer.serving = .streaming aStream ∧ aStream.staged = 0) ∧
      (sendingPicture (.picture 2 0 [])).tx.pictureFrame = some ⟨⟨.picture 2 0 [], some 0⟩, true⟩ ∧
      (sendingPresence.bus.sending = some ⟨.presence, false, true⟩ ∧ sendingPresence.node.number = some 1 ∧
        sendingPresence.tx.presence =
          some ⟨⟨.presence { base.presenceBody with claims := [] }, some 0⟩, .none⟩) := by decide

/-- `base` that knows no peer, and one whose peer is LOST. -/
def unknown2 : State := { base with peers := List.replicate 16 none }
def lost2 : State := { base with peers := (List.replicate 16 none).set 1 (some { peer2 with state := .lost }) }

theorem test_arrives (s : State) (hs : s = unknown2 ∨ s = lost2 ∨ s = silent2) : Arrives s rx2 := by
  rcases hs with rfl | rfl | rfl <;>
  exact { receives := rfl, copyA := rfl, copyB := rfl, low := by decide, high := by decide, other := by decide,
          fresh := by decide, lineA := by decide, lineB := by decide }

def body2 : PresenceBody :=
  { dark := false, overdue := false, pictureValid := true, joinMark := false, lineA := 0, lineB := 0, reports := .none
    activeBadge := 8, activeRank := 1, reliefBadge := 0, millTime := 5, digest := 0, claims := [] }

theorem test_meets_UnusableFramesChangeLittle :
    Hears base rx2 ∧ Hears base ⟨rx2.sender, 8, rx2.copyA, rx2.copyB⟩ ∧
      (0x01 ≤ (0x05 : Byte).toNat ∧ (0x05 : Byte).toNat ≤ 0x0E ∧ decodeFrame 0x05 [7] = none) ∧
      (0x0E < (0x0F : Byte).toNat ∧ (0x00 : Byte) = 0x00) ∧
      ({ base with bus := { base.bus with lastSeq := base.bus.lastSeq.set 1 (some 9) } } : State).lastSeq rx2.sender
        = some rx2.seq ∧
      setup.node.mode = .config ∧
      (base.node.number = some 1 ∧ base.bus.sending = none ∧ base.lastSeq 1 ≠ some 9 ∧ Sound base.bus.lineA ∧
        Sound base.bus.lineB ∧ Active base ∧ base.tx.presence = none ∧ base.tx.nextPresence = none) ∧
      (inMode .joining).node.mode = .joining ∧ (inMode .mute).node.mode = .mute ∧
      (base.node.mode.receives = true ∧ ¬(1 ≤ (17 : Byte).toNat ∧ (17 : Byte).toNat ≤ 16) ∧
        base.node.number ≠ some 17 ∧ ¬(1 ≤ (0 : Byte).toNat ∧ (0 : Byte).toNat ≤ 16)) ∧
      (frameFits (.ack 7 []) = false ∧ unknown2.peer rx2.sender = none ∧
        lost2.peer rx2.sender = some { peer2 with state := .lost } ∧
        silent2.peer rx2.sender = some { peer2 with silence := 3 }) ∧
      (frameFits .pictureRequest = true ∧ frameFits (.presence body2) = true ∧
        rx2.sender.toNat ≤ unknown2.peers.length) ∧
      (base.bus.lineA.silentDue = false ∧ base.bus.lineB.silentDue = false ∧ base.bus.lineB.state ≠ .silent) ∧
      ((withLineA .silent false).bus.lineA.state = .silent ∧ (withLineA .silent false).bus.lineA.silentDue = false ∧
        ({ base.bus.lineB with state := .silent } : Line).state = .silent) :=
  ⟨test_base_hears, { test_base_hears with fresh := by decide }, by decide⟩

/-- `base` with an offer to the peer, and one from it. -/
def offersWith2 : State :=
  { base with handover := { base.handover with outgoing := .offered outOffer, incoming := .presented inOffer } }

theorem test_meets_PresenceUpdatesThePeer :
    Hears base rx2 ∧ Hears offersWith2 rx2 ∧
      (frameFits (.presence body2) = true ∧ base.peer rx2.sender = some peer2 ∧ body2.dark = false ∧ body2.claims = [] ∧
        body2.joinMark = false) ∧
      (frameFits (.presence { body2 with claims := [⟨1, 1, none⟩] }) = true ∧
        (base.area (1 : BitVec 5).toNat).config = some (config 2 (some 1)) ∧ base.holds (1 : BitVec 5).toNat = false ∧
        (base.area (1 : BitVec 5).toNat).serial.toNat < (1 : Half).toNat) ∧
      (frameFits (.presence { body2 with dark := true }) = true ∧
        ({ body2 with joinMark := true } : PresenceBody).joinMark = true ∧ peer2.mark = .no ∧
        offersWith2.peer rx2.sender = some peer2 ∧ offersWith2.handover.outgoing = .offered outOffer ∧
        outOffer.target = rx2.sender ∧ offersWith2.tx.urgent.length < 8 ∧
        offersWith2.handover.incoming = .presented inOffer ∧ inOffer.origin = rx2.sender ∧
        (offersWith2.area 3).hold = .held rx2.sender 8) :=
  ⟨test_base_hears, { test_base_hears with known := ⟨peer2, by decide⟩ }, by decide⟩

/-- Claims of a dark presence: accepted, already ORPHANED so, rejected, and one that takes an area of this station whose
offer goes to the sender. -/
theorem test_meets_PresenceUpdatesThePeer_claims :
    (∀ (p : PresenceBody) s, ∃ u, exec (.presence rx2 { p with claims := [] }) s = .next u) ∧
      (frameFits (.presence { body2 with dark := true, claims := [⟨1, 1, none⟩, ⟨2, 3, none⟩] }) = true ∧
        base.handover.outgoing = .idle ∧ beats 2 1 (base.area 1) = true ∧ orphanedBy 2 1 (base.area 1) = false ∧
        beats 2 3 (base.area 2) = true ∧ orphanedBy 2 3 (base.area 2) = true) ∧
      (frameFits (.presence { body2 with claims := [⟨3, 4, some 7⟩] }) = true ∧ beats 2 4 (base.area 3) = false) ∧
      (frameFits (.presence { body2 with dark := true, claims := [⟨0, 9, none⟩] }) = true ∧ ¬Restarts peer2 body2 ∧
        offersWith2.handover.outgoing = .offered outOffer ∧ outOffer.target = rx2.sender ∧
        offersWith2.holds (0 : BitVec 5).toNat = true) :=
  ⟨fun _ _ => ⟨_, rfl⟩, by decide⟩

set_option maxRecDepth 8000 in
/-- A dark presence of two claims, the first for the only area of the offer to its sender: accepted, and rejected. -/
theorem test_meets_PresenceUpdatesThePeer_offer (n : Half) (p : PresenceBody)
    (hp : p = { body2 with dark := true, claims := [⟨0, n, none⟩, ⟨1, 1, none⟩] }) :
    frameFits (.presence p) = true ∧ ¬Restarts peer2 p ∧
      ∃ u v, exec (.presence rx2 { p with claims := [] }) offersWith2 = .next u ∧
        v = p.claims.foldl (settled 2 p) { u with peers := offersWith2.peers.set 1 (some (shown offersWith2 peer2 p)) } ∧
        (n = 9 → offersWith2.holds 0 = true ∧ v.holds 0 = false) ∧
        (n = 0 → ∀ a, a < 32 → offersWith2.holds a = true → v.holds a = true) := by
  subst hp
  refine ⟨by simp [frameFits, claimsSize, claimEntrySize, Config.claimBytes], by simp [Restarts, body2], _, _, rfl, rfl,
    by rintro rfl; decide, fun hn a ha h => ?_⟩
  have h0 : ∀ a, a < 32 → offersWith2.holds a = true → a = 0 := by decide
  subst hn
  rw [h0 a ha h]
  decide

theorem test_offer_of_area_0 : ∀ a, a < 32 → outOffer.areas.getLsbD a = true → a = 0 := by decide

/-- The premise of SilentPeersAreLost and PresenceUpdatesThePeer on routing, at their states. -/
theorem test_meets_annunciator : AnnunciatorSound silent2 ∧ AnnunciatorSound offersWith2 :=
  have h := test_base_sound.output
  ⟨⟨h.flashing, h.steady, h.quiet, h.pattern⟩, ⟨h.flashing, h.steady, h.quiet, h.pattern⟩⟩

/-- `base` whose list holds the records of ids 2/0 to 2/255, with one handling. -/
def full (h : Handling) : State :=
  { base with picture := { base.picture with list := (List.range 256).map fun i => { alarm h with id := ⟨2, BitVec.ofNat 16 i⟩ } } }

theorem test_full_length (h : Handling) : 256 ≤ (full h).picture.list.length := by simp [full]

/-- In the full list of ACK records of one priority, the first makes room. -/
theorem test_meets_ChangeEntriesChangeTheList_full (h : Handling) (hh : h.isAck = true) :
    ∃ v m, (full h).picture.list = [] ++ v :: m ∧ v.handling.isAck = true ∧
      (∀ x ∈ ([] : List AlarmRecord), x.handling.isAck = true → x.priority.num < v.priority.num) ∧
      ∀ x ∈ m, x.handling.isAck = true → x.priority.num ≤ v.priority.num := by
  refine ⟨_, _, rfl, hh, nofun, fun x hx _ => ?_⟩
  obtain ⟨i, -, rfl⟩ := List.mem_map.mp (List.mem_of_mem_tail (l := (full h).picture.list) hx)
  exact Nat.le_refl _

theorem test_meets_ChangeEntriesChangeTheList :
    Hears base rx2 ∧ (∀ k, (base.area 0).config = some k → k.feed ≠ rx2.sender) ∧
      (∀ h, findRecord ⟨3, 5⟩ (full h).picture.list = none) ∧
      (∀ x ∈ (full .unack).picture.list, x.handling.isAck = false) ∧
      ((base.area 3).config = some (config 2 none) ∧ (config 2 none).feed = rx2.sender ∧ (3 : Byte) ≠ 0x01 ∧
        (3 : Byte) ≠ 0x02 ∧ priorityOf (5 : Byte).toNat = none ∧ priorityOf (4 : Byte).toNat = some .low) ∧
      (findRecord ⟨3, 5⟩ base.picture.list = none ∧ base.picture.list.length < 256) ∧
      (findRecord ⟨3, 5⟩ [{ alarm .unack with id := ⟨3, 5⟩ }] = some { alarm .unack with id := ⟨3, 5⟩ } ∧
        (alarm .unack).cleared = false) ∧
      base.transfer.refresh = none ∧ (refreshing waiting).transfer.refresh ≠ none ∧
      (refreshing waiting).transfer.pendingEvents.length < 32 := by
  refine ⟨test_base_hears, by rintro k ⟨⟩; decide, fun h => ?_, ?_, by decide⟩
  · refine List.find?_eq_none.mpr fun x hx => ?_
    obtain ⟨i, -, rfl⟩ := List.mem_map.mp hx
    exact fun h => absurd (congrArg AlarmId.area (eq_of_beq h)) (by decide : (2 : Byte) ≠ 3)
  · intro x hx
    obtain ⟨i, -, rfl⟩ := List.mem_map.mp hx
    rfl

/-- A full pending-events list, for a clear and an ACK entry (R167). -/
theorem test_meets_pending_full (s : State)
    (hs : s = { refreshing waiting with
      transfer := { (refreshing waiting).transfer with pendingEvents := List.replicate 32 ⟨⟨0, 1⟩, .clear⟩ } }) :
    Hears s rx2 ∧ s.transfer.refresh ≠ none ∧ 32 ≤ s.transfer.pendingEvents.length ∧
      findRecord ⟨3, 9⟩ s.picture.list = none ∧ (s.area 3).config = some (config 2 none) := by
  subst hs
  exact ⟨{ test_base_hears with known := ⟨peer2, rfl, rfl, by decide⟩ }, by decide⟩

/-- The further frame of InTurn, for ALARM CHANGE, ACK and PICTURE: another sequence, and another index than 0. -/
theorem test_meets_in_turn : (8 : Byte) ≠ rx2.seq ∧ (1 : Byte) ≠ 0 ∧
    [ChangeEntry.mk 2 ⟨0, 5⟩ 0 0] ≠ [] ∧ [AckEntry.mk ⟨0, 5⟩ 2] ≠ [] := by decide

theorem test_meets_AlarmFramesChangeTheRecord :
    Hears base rx2 ∧ (findRecord ⟨0, 9⟩ base.picture.list = none ∧ base.transfer.refresh = none) ∧
      ((refreshing waiting).transfer.refresh ≠ none ∧ ((refreshing waiting).area 0).config ≠ none ∧
        findRecord ⟨0, 9⟩ (refreshing waiting).picture.list = none ∧
        (refreshing waiting).transfer.pendingEvents.length < 32) ∧
      (findRecord ⟨5, 9⟩ (refreshing waiting).picture.list = none ∧ ((refreshing waiting).area 5).config = none) ∧
      (findRecord ⟨0, 5⟩ base.picture.list = some (alarm .unack) ∧ (alarm .unack).occurrence ≠ 1 ∧
        (alarm .unack).occurrence = 2 ∧ (alarm .unack).handling = .unack ∧
        shelvedCount 0 ⟨0, 5⟩ base.picture.list < base.shelveLimit 0 ∧ (alarm .unack).handling.isShelved = false) ∧
      (shelfTaken.shelveLimit 0 ≤ shelvedCount 0 ⟨0, 5⟩ shelfTaken.picture.list) ∧
      (findRecord ⟨0, 5⟩ (withAlarm (.shelved 1100 1 7) false).picture.list = some (alarm (.shelved 1100 1 7)) ∧
        (alarm (.shelved 1100 1 7)).handling.isShelved = true) :=
  ⟨test_base_hears, by decide⟩

/-- An ACK entry for an area not configured here is ignored during a refresh (R25). -/
theorem test_ack_of_unconfigured_area :
    ∃ t, exec (.ackFrame rx2 6 [⟨⟨5, 9⟩, 2⟩, ⟨⟨0, 9⟩, 2⟩]) (refreshing waiting) = .next t ∧
      t.transfer.pendingEvents = [⟨⟨0, 9⟩, .ack 2 2 6⟩] := ⟨_, rfl, by decide⟩

theorem test_meets_ClaimFramesAreSettled :
    Hears base rx2 ∧ (∀ t0 b0, (base.area 3).hold = .held t0 b0 → rx2.sender.toNat ≤ t0.toNat) ∧
      (base.area 5).config = none ∧ (4 : Half).toNat < (base.area 3).serial.toNat ∧
      ((4 : Half) = (base.area 0).serial ∧ (base.area 0).hold = .held 1 7 ∧ (1 : Byte).toNat < rx2.sender.toNat) ∧
      ((base.area 3).config = some (config 2 none) ∧ (base.area 3).serial.toNat < (6 : Half).toNat ∧
        (5 : Half) = (base.area 3).serial ∧ base.holds 3 = false) ∧
      (base.holds 0 = true ∧ (base.area 0).config = some (config 1 none) ∧
        (base.area 0).serial.toNat < (5 : Half).toNat ∧ base.handover.outgoing = .idle ∧ base.window.scope ≠ .held) ∧
      (base.node.number ≠ some 16 ∧ 1 ≤ (16 : Byte).toNat ∧ (16 : Byte).toNat ≤ 16) ∧
      (frameFits (.commit 4 16 8 [⟨0, 5⟩, ⟨3, 4⟩]) = true ∧ ¬(1 ≤ (17 : Byte).toNat ∧ (17 : Byte).toNat ≤ 16) ∧
        base.node.number ≠ some 17) ∧
      ((withIn (.answered inOffer 990)).node.number = some 1 ∧
        (withIn (.answered inOffer 990)).signOn.active = some operator ∧
        (withIn (.answered inOffer 990)).handover.incoming = .answered inOffer 990 ∧ inOffer.origin = rx2.sender ∧
        inOffer.number = 4 ∧ (withIn (.answered inOffer 990)).holds 3 = false ∧
        (withIn (.answered inOffer 990)).window.scope ≠ .held) :=
  ⟨test_base_hears, by rintro t b ⟨⟩; decide, by decide⟩

/-- `base` hears station 2 whatever offers stand, whoever is signed on and whatever is queued. -/
theorem test_offers_hear (h : Handover) (o : SignOn) (x : Transmit) :
    Hears { base with handover := h, signOn := o, tx := x } rx2 :=
  { test_base_hears with known := ⟨peer2, rfl, rfl, by decide⟩ }

/-- An area lost while an outgoing offer stands (R124), and a COMMIT to this station in every incoming state, with an
operator and without one (R120). -/
theorem test_meets_ClaimFramesAreSettled_offers :
    (base.holds 0 = true ∧ (base.area 0).config = some (config 1 none) ∧ (base.area 0).serial.toNat < (5 : Half).toNat) ∧
      ((withOut (.committing outOffer)).handover.outgoing = .committing outOffer ∧
        (withOut (.committing outOffer)).holds 0 = true) ∧
      ((withOut (.offered { outOffer with areas := 3 })).handover.outgoing = .offered { outOffer with areas := 3 } ∧
        (withOut (.offered { outOffer with areas := 3 })).holds 0 = true ∧
        (3 : AreaSet) &&& ~~~BitVec.twoPow 32 0 ≠ 0) ∧
      ((withOut (.offered outOffer)).holds 0 = true ∧ outOffer.areas &&& ~~~BitVec.twoPow 32 0 = 0 ∧
        (withOut (.offered outOffer)).node.number ≠ some outOffer.target) ∧
      ((withOut (.offered ⟨5, 1, 1, 800⟩)).holds 0 = true ∧ (withOut (.offered ⟨5, 1, 1, 800⟩)).node.number = some 1) ∧
      (noOperator.signOn.active = none ∧ noOperator.holds 3 = false ∧ noOperator.node.number = some 1 ∧
        (noOperator.area 3).config = some (config 2 none) ∧ (noOperator.area 3).serial.toNat < (6 : Half).toNat) ∧
      (∀ i, i = .idle ∨ i = .presented inOffer ∨ i = .answered { inOffer with number := 9 } 990 →
        (withIn i).handover.incoming = i ∧ (withIn i).holds 3 = false ∧ (withIn i).node.number = some 1 ∧
          ∀ o f, (withIn i).handover.incoming = .answered o f → o.origin ≠ rx2.sender ∨ o.number ≠ 4) := by
  refine ⟨by decide, by decide, by decide, by decide, by decide, by decide, ?_⟩
  rintro i (rfl | rfl | rfl)
  · exact ⟨rfl, by decide, by decide, by rintro o f ⟨⟩⟩
  · exact ⟨rfl, by decide, by decide, by rintro o f ⟨⟩⟩
  · exact ⟨rfl, by decide, by decide, by rintro o f ⟨⟩; decide⟩

theorem test_meets_OfferFramesAreTaken :
    Hears base rx2 ∧ frameFits (.offer 4 1 8 1 [⟨false, 0, 0, 0⟩]) = true ∧
      (base.node.number ≠ some 3 ∧ base.node.number = some 1 ∧ Active base ∧ ¬Active (inMode .mute)) ∧
      ((withIn (.presented inOffer)).handover.incoming ≠ .idle ∧ (withIn (.presented inOffer)).tx.urgent.length < 8) ∧
      (noOperator.handover.incoming = .idle ∧ noOperator.signOn.active = none ∧ noOperator.tx.urgent.length < 8) ∧
      (base.handover.incoming = .idle ∧ base.signOn.active ≠ none ∧ base.handover.outgoing = .idle) ∧
      ((withOut (.offered outOffer)).node.number = some 1 ∧
        (withOut (.offered outOffer)).handover.outgoing = .offered outOffer ∧ outOffer.target = rx2.sender ∧
        outOffer.number = 1 ∧ outOffer.number ≠ 2 ∧ outOffer.areas ≠ 0 ∧
        (∀ a, a < 32 → outOffer.areas.getLsbD a = true → (withOut (.offered outOffer)).holds a = true) ∧
        (withOut (.offered outOffer)).tx.urgent.length < 8) ∧
      8 ≤ ({ withOut (.offered outOffer) with tx := (urgentOf 8).tx } : State).tx.urgent.length ∧
      ((withIn (.presented inOffer)).handover.incoming = .presented inOffer ∧ inOffer.origin = rx2.sender ∧
        inOffer.number = 4) :=
  ⟨test_base_hears, by decide⟩

/-- A decline and a full urgent queue (R117), and ACCEPTs that leave a smaller commit set and none (R119). -/
theorem test_meets_OfferFramesAreTaken_sets :
    (∀ s, s = { withIn (.presented inOffer) with tx := (urgentOf 8).tx } →
        s.node.number = some 1 ∧ Active s ∧ s.handover.incoming ≠ .idle ∧ 8 ≤ s.tx.urgent.length) ∧
      (∀ s, s = { noOperator with tx := (urgentOf 8).tx } →
        s.node.number = some 1 ∧ Active s ∧ s.signOn.active = none ∧ 8 ≤ s.tx.urgent.length) ∧
      (∀ o m n s, (o = { outOffer with areas := 3 } ∧ m = (1 : AreaSet)) ∨ (o = { outOffer with areas := 2 } ∧ m = 0) →
        n = 0 ∨ n = 8 → s = { withOut (.offered o) with tx := (urgentOf n).tx } →
        s.node.number = some 1 ∧ s.handover.outgoing = .offered o ∧ o.target = rx2.sender ∧ o.number = 1 ∧
          (∀ a, a < 32 → (m.getLsbD a = true ↔ o.areas.getLsbD a = true ∧ s.holds a = true)) ∧
          s.tx.urgent.length = n) := by
  refine ⟨by rintro s rfl; decide, by rintro s rfl; decide, ?_⟩
  rintro o m n s (⟨rfl, rfl⟩ | ⟨rfl, rfl⟩) (rfl | rfl) rfl <;> decide

def aRecord : PictureRecord := ⟨⟨0, 9⟩, 2, false, .unack, 1, 0, 1, 30⟩

/-- `base` with a valid picture, idle or streaming. -/
def valid (x : Serving) : State := { base with transfer := { base.transfer with valid := true, serving := x } }

/-- No peer of a state is a better server. -/
theorem test_serves (x : Serving) (m : Station) (r : PeerRecord) (i : PeerInfo) (h : (valid x).peer m = some r)
    (hi : r.info = some i) : (valid x).own.toNat < m.toNat := by
  unfold State.peer at h
  split at h
  · rcases Nat.lt_or_ge (m.toNat - 1) 16 with hm | hm
    · by_cases h1 : m.toNat - 1 = 1
      · rw [h1] at h
        cases h
        cases hi
      · have h' : base.peers.getD (m.toNat - 1) none = some r := h
        rw [(by decide : ∀ k, k < 16 → k ≠ 1 → base.peers.getD k none = none) _ hm h1] at h'
        cases h'
    · simp [valid, base, List.getD_eq_getElem?_getD, hm] at h
  · cases h

theorem test_meets_PictureFramesAreServedAndTaken :
    Hears base rx2 ∧ Hears (refreshing waiting) rx2 ∧ Hears (refreshing receiving) rx2 ∧
      (∀ y ∈ (refreshing waiting).transfer.pendingEvents, y.id ≠ aRecord.id) ∧
      (¬Active (inMode .mute) ∧ base.transfer.valid = false) ∧
      (Active (valid .idle) ∧ (valid .idle).transfer.valid = true ∧ (valid .idle).transfer.serving = .idle) ∧
      ((valid (.streaming aStream)).transfer.valid = true ∧
        (valid (.streaming aStream)).transfer.serving = .streaming aStream) ∧
      ((2 : StationSet).getLsbD ((1 : Byte).toNat - 1) = false ∧ base.transfer.refresh = none) ∧
      ((refreshing waiting).node.number = some 1 ∧ (1 : StationSet).getLsbD ((1 : Byte).toNat - 1) = true ∧
        (refreshing waiting).transfer.refresh = some waiting ∧ waiting.phase = .waiting ∧ (1 : Byte) ≠ 0 ∧
        (1 : Half) ≠ 0 ∧ findRecord ⟨0, 5⟩ (refreshing waiting).picture.list = some (alarm .unack) ∧
        (2 : Byte).toNat ≤ (alarm .unack).occurrence.toNat ∧
        ((refreshing waiting).area 0).config = some (config 1 none) ∧
        priorityOf aRecord.priority.toNat = some .high ∧ aRecord.handling = .unack ∧
        findRecord aRecord.id (refreshing waiting).picture.list = none ∧
        (refreshing waiting).picture.list.length < 256) ∧
      ((refreshing receiving).transfer.refresh = some receiving ∧ receiving.phase = .receiving rx2.sender 997 ∧
        (3 : Station) ≠ rx2.sender) :=
  ⟨test_base_hears, { test_base_hears with known := ⟨peer2, by decide⟩ },
    { test_base_hears with known := ⟨peer2, by decide⟩ }, by decide⟩

/-- `full` with a refresh in progress. -/
def fullRefreshing (h : Handling) : State := { full h with transfer := (refreshing waiting).transfer }

/-- Ignored records, a lower local occurrence, ACK and SHELVED records with and without a place, a dropped shelf, and
the full list (R166). -/
theorem test_meets_PictureFramesAreServedAndTaken_merge :
    (((refreshing waiting).area 5).config = none ∧ priorityOf (5 : BitVec 3).toNat = none) ∧
      (((refreshing waiting).area 0).config = some (config 1 none) ∧
        findRecord ⟨0, 5⟩ (refreshing waiting).picture.list = some (alarm .unack) ∧
        (alarm .unack).occurrence.toNat < (3 : Byte).toNat ∧
        (relisted ((refreshing waiting).picture.list.filter fun y => y.id != ⟨0, 5⟩)
          (refreshing waiting)).picture.list.length < 256 ∧
        shelvedCount 0 ⟨0, 5⟩ (refreshing waiting).picture.list < (config 1 none).shelveLimit ∧
        ∀ y ∈ (refreshing waiting).transfer.pendingEvents, y.id ≠ ⟨0, 5⟩) ∧
      (∀ s, s = { refreshing waiting with picture := shelfTaken.picture } →
        (s.area 0).config = some (config 1 none) ∧ findRecord ⟨0, 9⟩ s.picture.list = none ∧
          (config 1 none).shelveLimit ≤ shelvedCount 0 ⟨0, 9⟩ s.picture.list ∧
          s.transfer.refresh = some waiting) ∧
      (∀ h, Hears (fullRefreshing h) rx2 ∧ (fullRefreshing h).transfer.refresh = some waiting ∧
        ((fullRefreshing h).area 3).config = some (config 2 none) ∧ 256 ≤ (fullRefreshing h).picture.list.length ∧
        (∀ y ∈ (fullRefreshing h).transfer.pendingEvents, y.id ≠ ⟨3, 5⟩)) := by
  refine ⟨by decide, by decide, by rintro s rfl; decide, fun h => ?_⟩
  exact ⟨{ test_base_hears with known := ⟨peer2, rfl, rfl, by decide⟩ }, rfl, rfl, test_full_length h, nofun⟩

end Sys2Proof.Tests
end

/-! PROOF. SILENCE HORN (R27, R28): its three cases in the order of its checks. The facts about the open port, the first
checks and the answer serve every request's proof. -/

namespace Sys2Proof.Claims

open Sys2Proof.Machine

/-! ### The vocabulary of the statements as the model's tests read it -/

theorem Open.portOpen {s : State} (h : Open s) : s.portOpen = true := by
  obtain ⟨hstarted, hbusy⟩ := h
  simp [State.portOpen, hstarted, hbusy]

@[simp] theorem inactive_eq_true_iff (s : State) : s.inactive = true ↔ ¬Active s := by
  simp [State.inactive, State.isActive]

@[simp] theorem inactive_eq_false_iff (s : State) : s.inactive = false ↔ Active s := by
  simp [State.inactive, State.isActive]

@[simp] theorem seated_eq_true_iff (s : State) : s.seated = true ↔ s.signOn.active ≠ none := by
  simp [State.seated, Option.isSome_iff_ne_none]

@[simp] theorem seated_eq_false_iff (s : State) : s.seated = false ↔ s.signOn.active = none := by
  simp [State.seated]

/-- The answer to a rule that leaves the state of the check-in as it was. -/
theorem checkIn_answer (s : State) (code : Byte) (r : ResultCode) (b : AnswerBody) :
    s.checkIn.answer code r b = told s code r b := rfl

/-- An open port whose request's rule refuses after the check-in. -/
theorem request_of_refuse {s : State} {code : Byte} {rule : State → Reply} {c : ResultCode} (hopen : Open s)
    (hrule : rule s.checkIn = .refuse s.checkIn c) : request code rule s = told s code c .empty := by
  rw [request_open code rule s hopen.portOpen, hrule]
  exact checkIn_answer s code c .empty

/-! ### The rule of SILENCE HORN -/

theorem exec_silenceHorn (s : State) : exec .silenceHorn s = .next (request 0x37 ruleSilenceHorn s) := rfl

theorem ruleSilenceHorn_inactive {s : State} (h : ¬Active s) : ruleSilenceHorn s = .refuse s .badState := by
  have hinactive : s.inactive = true := (inactive_eq_true_iff s).mpr h
  exact checked_refuse _ s (by rw [hinactive, firstFail_fail])

theorem ruleSilenceHorn_unseated {s : State} (hactive : Active s) (hseat : s.signOn.active = none) :
    ruleSilenceHorn s = .refuse s .notSignedOn := by
  have hinactive : s.inactive = false := (inactive_eq_false_iff s).mpr hactive
  have hseated : s.seated = false := (seated_eq_false_iff s).mpr hseat
  exact checked_refuse _ s (by rw [hinactive, hseated, firstFail_pass, Bool.not_false, firstFail_fail])

theorem ruleSilenceHorn_seated {s : State} (hactive : Active s) (hseat : s.signOn.active ≠ none) :
    ruleSilenceHorn s =
      .ok { s with picture := { s.picture with horn := s.picture.horn.silence } } (.horn s.picture.horn.silence) := by
  have hinactive : s.inactive = false := (inactive_eq_false_iff s).mpr hactive
  have hseated : s.seated = true := (seated_eq_true_iff s).mpr hseat
  exact checked_pass _ s (by rw [hinactive, hseated, firstFail_pass, Bool.not_true, firstFail_pass, firstFail_nil])

/-- Settles O37: the port's check-in changes neither the mode nor the seats, so the rule's three cases are those of the
statement. -/
theorem silenceHornSilencesTheHorn : Obligations.SilenceHornSilencesTheHorn := by
  unfold Obligations.SilenceHornSilencesTheHorn
  intro s hopen
  refine ⟨fun hidle => ?refusedInactive, fun hactive hseat => ?refusedUnseated, fun hactive hseat => ?silenced⟩
  case refusedInactive =>
    have hrule : ruleSilenceHorn s.checkIn = .refuse s.checkIn .badState := ruleSilenceHorn_inactive hidle
    rw [Refuses, exec_silenceHorn, request_of_refuse hopen hrule]
  case refusedUnseated =>
    have hrule : ruleSilenceHorn s.checkIn = .refuse s.checkIn .notSignedOn := ruleSilenceHorn_unseated hactive hseat
    rw [Refuses, exec_silenceHorn, request_of_refuse hopen hrule]
  case silenced =>
    refine ⟨s.picture.horn.silence, ?_, ?_⟩
    · cases s.picture.horn <;> rfl
    · rw [exec_silenceHorn, request_open _ _ _ hopen.portOpen, ruleSilenceHorn_seated (s := s.checkIn) hactive hseat]
      rfl

end Sys2Proof.Claims

/-! PROOF. R60, the load figures and flood states. Four things write load fields: a raise (R57), the decay of a second
event (R58), SET AREA in CONFIG (R54, R55) and the resets with RESTART (R65). Every other operation leaves the load
fields of the area table as they were, though it may change hold fields. -/

namespace Sys2Proof.Claims

open Sys2Proof.Machine

/-! ### One area's load fields -/

/-- What R60 speaks of in an area record: everything but the hold fields. -/
def loadFields (r : Area) : Option AreaConfig × Nat × Bool := (r.config, r.load, r.flood)

theorem loadSound_of_loadFields_eq {r r' : Area} (h : loadFields r' = loadFields r) (hr : r.LoadSound) :
    r'.LoadSound := by
  simp only [loadFields, Prod.mk.injEq] at h
  obtain ⟨hconfig, hload, hflood⟩ := h
  simpa only [Area.LoadSound, hconfig, hload, hflood] using hr

theorem initial_loadSound : Area.initial.LoadSound := ⟨by decide, rfl, rfl⟩

theorem loadSound_unconfigured {r : Area} (hconfig : r.config = none) :
    r.LoadSound ↔ r.load = 0 ∧ r.flood = false := by
  simp only [Area.LoadSound, hconfig]
  exact and_iff_right_of_imp fun ⟨hload, _⟩ => by omega

theorem loadSound_configured {r : Area} {c : AreaConfig} (hconfig : r.config = some c) :
    r.LoadSound ↔ r.load ≤ 65535 ∧ c.floodOff < c.floodOn ∧ (r.flood = false → r.load < c.floodOn) ∧
      (r.flood = true → c.floodOff < r.load) := by
  simp only [Area.LoadSound, hconfig]

/-- The flood test makes the flood state agree with the load figure, whatever it was before (R59, R60). -/
theorem floodTest_loadSound {r : Area} {c : AreaConfig} (hconfig : r.config = some c) (hlevels : c.floodOff < c.floodOn)
    (hload : r.load ≤ 65535) : r.floodTest.LoadSound := by
  have htest : r.floodTest =
      { r with flood := if r.flood then !decide (r.load ≤ c.floodOff) else decide (c.floodOn ≤ r.load) } := by
    simp only [Area.floodTest, hconfig]
  simp only [Area.LoadSound, htest, hconfig]
  refine ⟨hload, hlevels, ?normal, ?flood⟩
  case normal =>
    cases r.flood <;> simp
    omega
  case flood =>
    cases r.flood <;> simp
    omega

theorem levels_of_loadSound {r : Area} {c : AreaConfig} (hconfig : r.config = some c) (hr : r.LoadSound) :
    c.floodOff < c.floodOn := by
  obtain ⟨-, hlevels, -⟩ := (loadSound_configured hconfig).mp hr
  exact hlevels

/-- Only a configured area may take a raise: an unconfigured one has load 0 (R55, R57). -/
theorem addLoad_loadSound {r : Area} {c : AreaConfig} (p : Priority) (hconfig : r.config = some c) (hr : r.LoadSound) :
    (r.addLoad p).LoadSound :=
  floodTest_loadSound (r := { r with load := min 65535 (r.load + p.weight) }) hconfig (levels_of_loadSound hconfig hr)
    (Nat.min_le_left _ _)

theorem decay_loadSound {r : Area} (hr : r.LoadSound) : r.decay.LoadSound := by
  cases hconfig : r.config with
  | none =>
    obtain ⟨hload, hflood⟩ := (loadSound_unconfigured hconfig).mp hr
    have hdecay : loadFields r.decay = loadFields r := by
      simp [Area.decay, Area.floodTest, loadFields, hconfig, hload]
    exact loadSound_of_loadFields_eq hdecay hr
  | some c =>
    obtain ⟨hload, hlevels, -⟩ := (loadSound_configured hconfig).mp hr
    exact floodTest_loadSound (r := { r with load := r.load - (r.load + 63) / 64 }) hconfig hlevels (by
      show r.load - (r.load + 63) / 64 ≤ 65535
      omega)

/-- An empty load figure stands below every flood-on level that has a flood-off level below it. -/
theorem loadSound_of_load_zero {r : Area} (hload : r.load = 0) (hflood : r.flood = false)
    (hlevels : ∀ c, r.config = some c → c.floodOff < c.floodOn) : r.LoadSound := by
  cases hconfig : r.config with
  | none => exact (loadSound_unconfigured hconfig).mpr ⟨hload, hflood⟩
  | some c =>
    have hc : c.floodOff < c.floodOn := hlevels c hconfig
    exact (loadSound_configured hconfig).mpr ⟨by omega, hc, fun _ => by omega, fun h => by simp [hflood] at h⟩

theorem restarted_loadSound {r : Area} (hr : r.LoadSound) : r.restarted.LoadSound :=
  loadSound_of_load_zero rfl rfl fun _ hconfig => levels_of_loadSound (r := r) hconfig hr

/-- SET AREA's clamps put the flood-off level below the flood-on level (R54). -/
theorem clampFloodOff_lt (on off : Nat) : clampFloodOff on off < clampFloodOn on := by
  have hfloor : 256 ≤ clampFloodOn on := Nat.le_max_left 256 on
  unfold clampFloodOff
  split <;> omega

theorem configure_loadSound {r : Area} (x : Option AreaSettings) (hload : r.load = 0) (hflood : r.flood = false) :
    (r.configure (x.map storedConfig)).LoadSound := by
  cases x with
  | none => exact loadSound_of_load_zero rfl rfl nofun
  | some c =>
    refine loadSound_of_load_zero hload hflood fun c' hconfig => ?_
    obtain rfl : storedConfig c = c' := Option.some.inj hconfig
    exact clampFloodOff_lt _ _

/-! ### The area table -/

/-- R60 over the whole area table. -/
def LoadsSound (l : List Area) : Prop := ∀ r ∈ l, r.LoadSound

/-- The load fields of the whole area table. -/
def tableLoads (l : List Area) : List (Option AreaConfig × Nat × Bool) := l.map loadFields

theorem LoadsSound.of_tableLoads_eq {l l' : List Area} (hl : LoadsSound l) (h : tableLoads l' = tableLoads l) :
    LoadsSound l' := by
  intro r' hr'
  have hmem : loadFields r' ∈ tableLoads l := h ▸ List.mem_map_of_mem hr'
  obtain ⟨r, hr, heq⟩ := List.mem_map.mp hmem
  exact loadSound_of_loadFields_eq heq.symm (hl r hr)

theorem area_mem_or_initial (s : State) (a : Nat) : s.area a ∈ s.areas ∨ s.area a = .initial := by
  by_cases ha : a < s.areas.length
  · simp [State.area, ha]
  · simp [State.area, Nat.le_of_not_lt ha]

theorem LoadsSound.area {s : State} (hs : LoadsSound s.areas) (a : Nat) : (s.area a).LoadSound := by
  obtain hmem | hinitial := area_mem_or_initial s a
  · exact hs _ hmem
  · exact hinitial ▸ initial_loadSound

theorem LoadsSound.setArea {s : State} (hs : LoadsSound s.areas) (a : Nat) {r : Area} (hr : r.LoadSound) :
    LoadsSound (s.setArea a r).areas := by
  intro x hx
  obtain hold | rfl := List.mem_or_eq_of_mem_set hx
  · exact hs x hold
  · exact hr

/-- Writing the load fields an area has already leaves the table's. -/
theorem tableLoads_setArea {s : State} {a : Nat} {r : Area} (h : loadFields r = loadFields (s.area a)) :
    tableLoads (s.setArea a r).areas = tableLoads s.areas := by
  by_cases ha : a < s.areas.length
  · have hplace : a < (s.areas.map loadFields).length := by simpa using ha
    have harea : loadFields (s.area a) = (s.areas.map loadFields)[a] := by simp [State.area, ha]
    simp only [State.setArea, tableLoads, List.map_set, h, harea, List.set_getElem_self]
  · rw [State.setArea, List.set_eq_of_length_le (Nat.le_of_not_lt ha)]

theorem tableLoads_foldl {α : Type} {f : State → α → State}
    (step : ∀ s x, tableLoads (f s x).areas = tableLoads s.areas) (l : List α) (s : State) :
    tableLoads (l.foldl f s).areas = tableLoads s.areas :=
  foldl_keeps (fun s => tableLoads s.areas) f step l s

/-! ### Holding, orphaning and losing areas leave the load fields -/

theorem throughWindow_areas (f : State → State) (s : State) : (s.throughWindow f).areas = (f s).areas := rfl

@[simp] theorem tableLoads_setHold (s : State) (a : Nat) (h : Hold) (n : Half) :
    tableLoads (s.setHold a h n).areas = tableLoads s.areas := by
  have hput : tableLoads (s.setArea a { s.area a with hold := h, serial := n }).areas = tableLoads s.areas :=
    tableLoads_setArea rfl
  unfold State.setHold
  dsimp only
  repeat' split
  all_goals simpa [throughWindow_areas] using hput

@[simp] theorem tableLoads_acceptClaim (s : State) (src : ClaimSource) (own orphan : Bool) (c : Claim) :
    tableLoads (s.acceptClaim src own orphan c).areas = tableLoads s.areas := by
  unfold State.acceptClaim
  dsimp only
  split <;> simp

@[simp] theorem tableLoads_applyClaim (s : State) (src : ClaimSource) (own orphan : Bool) (c : Claim) :
    tableLoads (s.applyClaim src own orphan c).areas = tableLoads s.areas := by
  unfold State.applyClaim
  repeat' split
  all_goals simp

@[simp] theorem tableLoads_orphanArea (s : State) (t : Station) (a : Nat) :
    tableLoads (s.orphanArea t a).areas = tableLoads s.areas := by
  unfold State.orphanArea
  repeat' split
  all_goals simp

@[simp] theorem tableLoads_orphanAll (s : State) (t : Station) :
    tableLoads (s.orphanAll t).areas = tableLoads s.areas :=
  tableLoads_foldl (fun s a => tableLoads_orphanArea s t a) _ s

@[simp] theorem tableLoads_applyDarkClaim (s : State) (c : Claim) :
    tableLoads (s.applyDarkClaim c).areas = tableLoads s.areas := by
  unfold State.applyDarkClaim
  split <;> simp

@[simp] theorem tableLoads_applyClaimList (s : State) (t : Station) (p : PresenceBody) :
    tableLoads (s.applyClaimList t p).areas = tableLoads s.areas := by
  unfold State.applyClaimList
  split
  · rw [tableLoads_foldl (fun s c => tableLoads_applyDarkClaim s c), tableLoads_orphanAll]
  · rw [tableLoads_foldl fun s c => tableLoads_applyClaim s .presence _ false c]

@[simp] theorem tableLoads_applyCommitEntries (own orphan : Bool) (t : Station) (b : Badge) (es : List CommitEntry) :
    ∀ (m : AreaSet) (s : State),
      tableLoads (State.applyCommitEntries own orphan t b es m s).2.areas = tableLoads s.areas := by
  induction es with
  | nil => exact fun _ _ => rfl
  | cons e rest ih => exact fun m s => (ih _ _).trans (tableLoads_applyClaim s .commit own orphan _)

@[simp] theorem tableLoads_applyCommit (s : State) (t : Station) (n : Byte) (i : Station) (b : Badge)
    (es : List CommitEntry) : tableLoads (s.applyCommit t n i b es).areas = tableLoads s.areas := by
  unfold State.applyCommit
  dsimp only
  repeat' split
  all_goals simp

@[simp] theorem tableLoads_setRunOut (s : State) (a : Nat) :
    tableLoads (s.setRunOut a).areas = tableLoads s.areas := by
  unfold State.setRunOut
  split
  · exact tableLoads_setArea rfl
  · rfl
  · rfl

@[simp] theorem tableLoads_graceRunOut (s : State) (a : Nat) :
    tableLoads (s.graceRunOut a).areas = tableLoads s.areas := by
  unfold State.graceRunOut
  dsimp only
  repeat' split
  all_goals simp

@[simp] theorem tableLoads_graceWork (s : State) : tableLoads s.graceWork.areas = tableLoads s.areas :=
  tableLoads_foldl tableLoads_graceRunOut _ s

@[simp] theorem tableLoads_losePeer (s : State) (t : Station) :
    tableLoads (s.losePeer t).areas = tableLoads s.areas := by
  unfold State.losePeer
  dsimp only
  repeat' split
  all_goals simp

@[simp] theorem tableLoads_peerWork (s : State) : tableLoads s.peerWork.areas = tableLoads s.areas :=
  tableLoads_foldl (fun s _ => tableLoads_losePeer s _) _ s

@[simp] theorem tableLoads_applyPresence (s : State) (t : Station) (p : PresenceBody) (before : Option PeerRecord) :
    tableLoads (s.applyPresence t p before).areas = tableLoads s.areas := by
  unfold State.applyPresence State.takePresence
  dsimp only
  repeat' split
  all_goals simp

/-! ### Raises and the decay keep R60 -/

theorem config_of_feedCheck {s : State} {t : Station} {id : AlarmId} (h : s.feedCheck t id = true) :
    ∃ c, (s.area id.area.toNat).config = some c := by
  unfold State.feedCheck at h
  split at h
  next c hc => exact ⟨c, hc⟩
  next => cases h

theorem addLoad_loadsSound {s : State} (hs : LoadsSound s.areas) (p : Priority) {a : Nat} {c : AreaConfig}
    (hconfig : (s.area a).config = some c) : LoadsSound (s.addLoad p a).areas := by
  have hput := hs.setArea a (addLoad_loadSound p hconfig (hs.area a))
  simpa [State.addLoad] using hput

@[simp] theorem raise_areas (s : State) (t : Station) (id : AlarmId) (p : Priority) (q : Quad) :
    (s.raise t id p q).areas = (s.addLoad p id.area.toNat).areas := by
  unfold State.raise
  dsimp only
  split <;> simp

/-- The feed check stands before a raise's addition, so only a configured area takes it (R5, R57). -/
theorem changeEntry_loadsSound {s : State} (hs : LoadsSound s.areas) (t : Station) (e : ChangeEntry) :
    LoadsSound (s.changeEntry t e).areas := by
  unfold State.changeEntry
  split
  next hfeed =>
    obtain ⟨c, hconfig⟩ := config_of_feedCheck hfeed
    repeat' split
    · rw [raise_areas]
      exact addLoad_loadsSound hs _ hconfig
    all_goals simpa using hs
  next => exact hs

theorem applyChanges_loadsSound {s : State} (hs : LoadsSound s.areas) (t : Station) (es : List ChangeEntry) :
    LoadsSound (s.applyChanges t es).areas :=
  List.foldlRecOn es _ (motive := fun s : State => LoadsSound s.areas) hs fun _ h e _ => changeEntry_loadsSound h t e

theorem decayAll_loadsSound {s : State} (hs : LoadsSound s.areas) : LoadsSound s.decayAll.areas := by
  have hareas : s.decayAll.areas = s.areas.map Area.decay := by simp [State.decayAll]
  rw [hareas]
  intro r hr
  obtain ⟨r0, hr0, rfl⟩ := List.mem_map.mp hr
  exact decay_loadSound (hs r0 hr0)

/-! ### The bus and the second event -/

theorem applyFrame_loadsSound {s : State} (hs : LoadsSound s.areas) (t : Station) (before : Option PeerRecord)
    (f : Frame) : LoadsSound (s.applyFrame t before f).areas := by
  cases f with
  | alarmChange es => exact applyChanges_loadsSound hs t es
  | presence p =>
    refine hs.of_tableLoads_eq ?_
    unfold State.applyFrame
    dsimp only
    split <;> simp
  | _ => exact hs.of_tableLoads_eq (by simp [State.applyFrame])

theorem accepted_loadsSound {s : State} (hs : LoadsSound s.areas) (rx : Rx) (f : Option Frame) :
    LoadsSound (s.accepted rx f).areas := by
  have htrack : LoadsSound (s.track rx.sender).areas := by simpa using hs
  unfold State.accepted
  dsimp only
  repeat' split
  · simpa using hs
  · exact applyFrame_loadsSound htrack _ _ _
  · exact htrack

theorem receive_loadsSound {s : State} (hs : LoadsSound s.areas) (rx : Rx) (known : Bool) (f : Option Frame) :
    LoadsSound (s.receive rx known f).areas := by
  unfold State.receive
  dsimp only
  repeat' split
  · simpa using hs
  · exact accepted_loadsSound (by simpa using hs) rx f
  · simpa using hs
  · exact hs

theorem attemptSent_loadsSound {s : State} (hs : LoadsSound s.areas) (x : Sending) :
    LoadsSound (s.attemptSent x).areas := by
  have hended : LoadsSound ({ s with bus := { s.bus with sending := none, fails := 0 } } : State).areas := hs
  unfold State.attemptSent
  dsimp only
  simp only [State.freePlace_frame, ite_areas, State.streamSent_frame, ite_self]
  split
  · exact applyFrame_loadsSound hended _ _ _
  · exact hended

theorem endAttempt_loadsSound {s : State} (hs : LoadsSound s.areas) : LoadsSound s.endAttempt.areas := by
  unfold State.endAttempt
  repeat' split
  · exact hs
  · simpa using hs
  · exact attemptSent_loadsSound hs _

theorem finishSecond_loadsSound {s : State} (hs : LoadsSound s.areas) : LoadsSound s.finishSecond.areas :=
  hs.of_tableLoads_eq (by simp [State.finishSecond])

theorem beginSecond_loadsSound {s : State} (hs : LoadsSound s.areas) : LoadsSound s.beginSecond.areas := by
  have hstart : LoadsSound (s.setClock Clock.advance).markInstants.areas := by simpa using hs
  have hdecay := decayAll_loadsSound hstart
  simpa [State.beginSecond] using hdecay

theorem secondEvent_loadsSound {s : State} (hs : LoadsSound s.areas) : LoadsSound s.secondEvent.areas :=
  beginSecond_loadsSound (finishSecond_loadsSound hs)

/-! ### The console's requests -/

theorem request_areas {code : Byte} {rule : State → Reply} (hrule : ∀ s, (rule s).state.areas = s.areas)
    (s : State) : (request code rule s).areas = s.areas := by
  unfold request
  split
  · exact (State.answer_areas _ _ _ _).trans (hrule s.checkIn)
  · rfl

theorem checked_areas (l : List (Bool × ResultCode)) {effect : State → Reply} {s : State}
    (heffect : (effect s).state.areas = s.areas) : (checked l effect s).state.areas = s.areas := by
  obtain ⟨c, -, hrefused⟩ | ⟨-, hpassed⟩ := checked_cases l effect s
  · rw [hrefused, Reply.refuse_state]
  · rw [hpassed, heffect]

theorem ruleReadPeer_areas (station : Byte) (s : State) : (ruleReadPeer station s).state.areas = s.areas := by
  unfold ruleReadPeer
  repeat' split
  all_goals rfl

theorem ruleReadArea_areas (area : Byte) (s : State) : (ruleReadArea area s).state.areas = s.areas := by
  unfold ruleReadArea
  split <;> rfl

theorem ruleReadAlarm_areas (id : AlarmId) (s : State) : (ruleReadAlarm id s).state.areas = s.areas := by
  unfold ruleReadAlarm
  repeat' split
  all_goals rfl

theorem ruleReadList_areas (start : Half) (s : State) : (ruleReadList start s).state.areas = s.areas := by
  unfold ruleReadList
  split <;> rfl

theorem ruleSetStation_areas (number gap : Byte) (s : State) : (ruleSetStation number gap s).state.areas = s.areas :=
  checked_areas _ rfl

theorem ruleSetShiftPattern_areas (perDay : Byte) (firstStart : Half) (lead grace : Byte) (s : State) :
    (ruleSetShiftPattern perDay firstStart lead grace s).state.areas = s.areas :=
  checked_areas _ (by simp)

theorem ruleSetClock_areas (millTime : Quad) (s : State) : (ruleSetClock millTime s).state.areas = s.areas :=
  checked_areas _ (by simp)

theorem ruleJoin_areas (s : State) : (ruleJoin s).state.areas = s.areas := checked_areas _ rfl

theorem ruleSignOn_areas (badge : Badge) (rank : Byte) (qualified : AreaSet) (s : State) :
    (ruleSignOn badge rank qualified s).state.areas = s.areas :=
  checked_areas _ (by simp)

theorem ruleSignOnRelief_areas (badge : Badge) (rank : Byte) (qualified : AreaSet) (s : State) :
    (ruleSignOnRelief badge rank qualified s).state.areas = s.areas :=
  checked_areas _ rfl

theorem ruleSignOffActive_areas (s : State) : (ruleSignOffActive s).state.areas = s.areas := checked_areas _ (by simp)

theorem ruleSignOffRelief_areas (slot : Byte) (s : State) : (ruleSignOffRelief slot s).state.areas = s.areas :=
  checked_areas _ (by simp)

@[simp] theorem setSlot_areas (slot : Byte) (o : Operator) (s : State) : (s.setSlot slot o).areas = s.areas := by
  unfold State.setSlot
  split <;> rfl

theorem ruleSetActingRank_areas (slot rank : Byte) (s : State) :
    (ruleSetActingRank slot rank s).state.areas = s.areas :=
  checked_areas _ (by split <;> simp)

theorem rulePostRaise_areas (id : AlarmId) (priority : Byte) (s : State) :
    (rulePostRaise id priority s).state.areas = s.areas :=
  checked_areas _ rfl

theorem rulePostClear_areas (id : AlarmId) (s : State) : (rulePostClear id s).state.areas = s.areas :=
  checked_areas _ rfl

theorem sendPermitted_areas (act : Action) (a : Nat) (f : Frame) (b : AnswerBody) (s : State) :
    (s.sendPermitted act a f b).state.areas = s.areas :=
  checked_areas _ rfl

theorem ruleAcknowledge_areas (id : AlarmId) (occurrence : Byte) (s : State) :
    (ruleAcknowledge id occurrence s).state.areas = s.areas := by
  refine checked_areas _ ?_
  split
  · rfl
  · split
    · exact sendPermitted_areas _ _ _ _ s
    · rfl

theorem queueAll_areas (fs : List Frame) (s : State) : (s.queueAll fs).areas = s.areas :=
  foldl_keeps State.areas (fun s f => s.queue f) (fun _ _ => rfl) fs s

theorem ruleAcknowledgeArea_areas (area : Byte) (s : State) : (ruleAcknowledgeArea area s).state.areas = s.areas := by
  refine checked_areas _ ?_
  split
  · rfl
  · exact checked_areas _ (queueAll_areas _ s)

theorem ruleShelve_areas (id : AlarmId) (minutes : Half) (s : State) :
    (ruleShelve id minutes s).state.areas = s.areas :=
  checked_areas _ rfl

theorem ruleUnshelve_areas (id : AlarmId) (s : State) : (ruleUnshelve id s).state.areas = s.areas := by
  refine checked_areas _ ?_
  split
  · rfl
  · split
    · exact sendPermitted_areas _ _ _ _ s
    · rfl

theorem ruleSilenceHorn_areas (s : State) : (ruleSilenceHorn s).state.areas = s.areas := checked_areas _ rfl

theorem rulePlaceCursor_areas (row : Byte) (s : State) : (rulePlaceCursor row s).state.areas = s.areas :=
  checked_areas _ rfl

theorem ruleScroll_areas (offset : Half) (s : State) : (ruleScroll offset s).state.areas = s.areas :=
  checked_areas _ rfl

theorem ruleSetScope_areas (scope : Byte) (s : State) : (ruleSetScope scope s).state.areas = s.areas :=
  checked_areas _ (by split <;> rfl)

theorem ruleSetFocus_areas (area : Byte) (s : State) : (ruleSetFocus area s).state.areas = s.areas :=
  checked_areas _ (by dsimp only; split <;> rfl)

theorem ruleSetEntryMode_areas (direction follow : Byte) (s : State) :
    (ruleSetEntryMode direction follow s).state.areas = s.areas :=
  checked_areas _ (by split <;> rfl)

theorem acknowledgeSnapshot_areas (x : Snapshot) (s : State) : (s.acknowledgeSnapshot x).state.areas = s.areas := by
  unfold State.acknowledgeSnapshot
  repeat' split
  · rfl
  · rfl
  · rfl
  · exact checked_areas _ rfl

theorem ruleAcknowledgeAtCursor_areas (s : State) : (ruleAcknowledgeAtCursor s).state.areas = s.areas := by
  refine checked_areas _ ?_
  split
  · rfl
  · exact acknowledgeSnapshot_areas _ s

theorem claimOrAnswer_areas (act : Action) (wrong : Bool) (a : Nat) (f : Frame) (s : State) :
    (s.claimOrAnswer act wrong a f).state.areas = s.areas := by
  unfold State.claimOrAnswer
  split
  · rfl
  · exact checked_areas _ rfl

theorem ruleClaimArea_areas (area : Byte) (s : State) : (ruleClaimArea area s).state.areas = s.areas :=
  checked_areas _ (claimOrAnswer_areas _ _ _ _ s)

theorem ruleTakeArea_areas (area : Byte) (s : State) : (ruleTakeArea area s).state.areas = s.areas :=
  checked_areas _ (claimOrAnswer_areas _ _ _ _ s)

theorem ruleOffer_areas (target : Station) (m : AreaSet) (s : State) :
    (ruleOffer target m s).state.areas = s.areas := by
  unfold ruleOffer
  split <;> simp

theorem decide_areas (number : Byte) {rest : InOffer → State → Reply} {s : State}
    (hrest : ∀ o, (rest o s).state.areas = s.areas) : (s.decide number rest).state.areas = s.areas := by
  refine checked_areas _ ?_
  repeat' split
  · rfl
  · exact hrest _
  · rfl

theorem ruleAccept_areas (number : Byte) (s : State) : (ruleAccept number s).state.areas = s.areas := by
  refine decide_areas _ fun o => ?_
  split
  · exact checked_areas _ (by simp)
  · exact checked_areas _ rfl

theorem ruleDecline_areas (number : Byte) (s : State) : (ruleDecline number s).state.areas = s.areas := by
  refine decide_areas _ fun o => ?_
  split
  · simp
  · exact checked_areas _ (by simp)

theorem ruleWithdraw_areas (s : State) : (ruleWithdraw s).state.areas = s.areas :=
  checked_areas _ (by split <;> simp)

theorem ruleSchedule_areas (target : Station) (m : AreaSet) (fire : FireTime) (s : State) :
    (ruleSchedule target m fire s).state.areas = s.areas :=
  checked_areas _ rfl

theorem ruleCancelSchedule_areas (s : State) : (ruleCancelSchedule s).state.areas = s.areas := checked_areas _ rfl

/-! ### SET AREA and RESTART -/

/-- In CONFIG, where alone SET AREA changes a configuration, every load figure is 0 and every area NORMAL (R58, R85). -/
def EmptyInConfig (s : State) : Prop := s.node.mode = .config → ∀ r ∈ s.areas, r.load = 0 ∧ r.flood = false

theorem EmptyInConfig.area {s : State} (hempty : EmptyInConfig s) (hmode : s.node.mode = .config) (a : Nat) :
    (s.area a).load = 0 ∧ (s.area a).flood = false := by
  obtain hmem | hinitial := area_mem_or_initial s a
  · exact hempty hmode _ hmem
  · exact hinitial ▸ ⟨rfl, rfl⟩

theorem ruleSetArea_loadsSound {s : State} (hs : LoadsSound s.areas) (hempty : EmptyInConfig s) (area configured : Byte)
    (settings : Option AreaSettings) : LoadsSound (ruleSetArea area configured settings s).state.areas := by
  unfold ruleSetArea
  obtain ⟨c, -, hrefused⟩ | ⟨hchecks, hpassed⟩ := checked_cases _ _ s
  · rw [hrefused]
    exact hs
  · have hfirst := hchecks (!s.modeIs .config, .badState) (by simp)
    have hmode : s.node.mode = .config := by simpa [State.modeIs] using hfirst
    obtain ⟨hload, hflood⟩ := hempty.area hmode area.toNat
    rw [hpassed]
    exact hs.setArea _ (configure_loadSound settings hload hflood)

theorem setArea_loadsSound {s : State} (hs : LoadsSound s.areas) (hempty : EmptyInConfig s) (area configured : Byte)
    (settings : Option AreaSettings) : LoadsSound (request 0x11 (ruleSetArea area configured settings) s).areas := by
  unfold request
  split
  · exact ruleSetArea_loadsSound (s := s.checkIn) hs hempty area configured settings
  · exact hs

theorem restarted_loadsSound {s : State} (hs : LoadsSound s.areas) : LoadsSound s.restarted.areas := by
  intro r hr
  obtain ⟨r0, hr0, rfl⟩ := List.mem_map.mp hr
  exact restarted_loadSound (hs r0 hr0)

theorem reset_loadsSound : LoadsSound State.reset.areas := fun _ hr => List.eq_of_mem_replicate hr ▸ initial_loadSound

/-! ### Every command keeps R60 -/

theorem LoadsSound.request {s : State} (hs : LoadsSound s.areas) {code : Byte} {rule : State → Reply}
    (hrule : ∀ s, (rule s).state.areas = s.areas) : LoadsSound (request code rule s).areas :=
  (request_areas hrule s).symm ▸ hs

/-- What a command answers satisfies R60. -/
def AnswersSound : Done → Prop
  | .next t => LoadsSound t.areas
  | .fault _ => True
  | .refused _ => True

theorem exec_answersSound {s : State} (hs : LoadsSound s.areas) (hempty : EmptyInConfig s) (i : Instr) :
    AnswersSound (exec i s) := by
  cases i with
  | powerOnReset | resetN => exact reset_loadsSound
  | partStart | discardedTransaction | busyPeriodEnd => exact hs
  | restart =>
    show LoadsSound (if s.portOpen then s.restarted else s).areas
    split
    · exact restarted_loadsSound hs
    · exact hs
  | setArea area configured settings => exact setArea_loadsSound hs hempty area configured settings
  | unknownRequest | nop | readStatus | readAttention | readWindow | readHandover | setTrim =>
    exact hs.request fun _ => rfl
  | readPeer station => exact hs.request (ruleReadPeer_areas station)
  | readArea area => exact hs.request (ruleReadArea_areas area)
  | readAlarm area point => exact hs.request (ruleReadAlarm_areas ⟨area, point⟩)
  | readList start => exact hs.request (ruleReadList_areas start)
  | setStation number gap => exact hs.request (ruleSetStation_areas number gap)
  | setShiftPattern perDay firstStart lead grace =>
    exact hs.request (ruleSetShiftPattern_areas perDay firstStart lead grace)
  | setClock millTime => exact hs.request (ruleSetClock_areas millTime)
  | join => exact hs.request ruleJoin_areas
  | signOn badge rank qualified => exact hs.request (ruleSignOn_areas badge rank qualified)
  | signOnRelief badge rank qualified => exact hs.request (ruleSignOnRelief_areas badge rank qualified)
  | signOffActive => exact hs.request ruleSignOffActive_areas
  | signOffRelief slot => exact hs.request (ruleSignOffRelief_areas slot)
  | setActingRank slot rank => exact hs.request (ruleSetActingRank_areas slot rank)
  | postRaise area point priority => exact hs.request (rulePostRaise_areas ⟨area, point⟩ priority)
  | postClear area point => exact hs.request (rulePostClear_areas ⟨area, point⟩)
  | acknowledge area point occurrence => exact hs.request (ruleAcknowledge_areas ⟨area, point⟩ occurrence)
  | acknowledgeArea area => exact hs.request (ruleAcknowledgeArea_areas area)
  | acknowledgeAtCursor => exact hs.request ruleAcknowledgeAtCursor_areas
  | shelve area point minutes => exact hs.request (ruleShelve_areas ⟨area, point⟩ minutes)
  | unshelve area point => exact hs.request (ruleUnshelve_areas ⟨area, point⟩)
  | silenceHorn => exact hs.request ruleSilenceHorn_areas
  | placeCursor row => exact hs.request (rulePlaceCursor_areas row)
  | scroll offset => exact hs.request (ruleScroll_areas offset)
  | setScope scope => exact hs.request (ruleSetScope_areas scope)
  | setFocus area => exact hs.request (ruleSetFocus_areas area)
  | setEntryMode direction follow => exact hs.request (ruleSetEntryMode_areas direction follow)
  | claimArea area => exact hs.request (ruleClaimArea_areas area)
  | takeArea area => exact hs.request (ruleTakeArea_areas area)
  | offerHandover target m => exact hs.request (ruleOffer_areas target m)
  | offerSeatChange m => exact hs.request fun s => ruleOffer_areas s.own m s
  | acceptHandover number => exact hs.request (ruleAccept_areas number)
  | declineHandover number => exact hs.request (ruleDecline_areas number)
  | withdrawOffer => exact hs.request ruleWithdraw_areas
  | scheduleOffer target m fireTime => exact hs.request (ruleSchedule_areas target m (fireTimeOf fireTime))
  | cancelSchedule => exact hs.request ruleCancelSchedule_areas
  | secondEvent => exact secondEvent_loadsSound hs
  | orphanGraceRunOut area => exact hs.of_tableLoads_eq (tableLoads_graceRunOut s _)
  | peerLost station => exact hs.of_tableLoads_eq (tableLoads_losePeer s _)
  | annunciatorHalfSecond which => cases which <;> exact hs
  | shelfExpiry | responseDeadline | consoleDark | listenEnd | lineRecovery | lineSilent | dueInstant | shiftStart
  | overdueInstant | scheduleReached | scheduledOfferFire | offerTimeout | decisionWindow | commitWait
  | refreshWaitFailure | refreshStallFailure | pictureRequestRepeat | rebadgeClaimBuild | accessStart
  | echoCheckFailure => exact hs.of_tableLoads_eq (by simp)
  | attemptEnd => exact endAttempt_loadsSound hs
  | malformedFrame | duplicateFrame | presence | alarmChange | ackFrame | shelveFrame | unshelveFrame | claimFrame
  | takeFrame | offerFrame | answerFrame | commitFrame | withdrawFrame | pictureRequest | picture | pictureEnd =>
    exact receive_loadsSound hs _ _ _

theorem exec_loadsSound {s t : State} {i : Instr} (hs : LoadsSound s.areas) (hempty : EmptyInConfig s)
    (h : exec i s = .next t) : LoadsSound t.areas := by
  have hanswer := exec_answersSound hs hempty i
  rwa [h] at hanswer

/-- Settles O5: an empty queue idles; the command at the front keeps R60 (`exec_answersSound`). -/
theorem stepKeepsLoads : Obligations.StepKeepsLoads := by
  unfold Obligations.StepKeepsLoads
  intro s t hsound hstep
  have hs : LoadsSound s.areas := hsound.loads
  have hempty : EmptyInConfig s := hsound.station.loads
  unfold step at hstep
  split at hstep
  next =>
    cases hstep
    exact hs
  next c rest _ => exact exec_loadsSound (s := s.withPending rest) hs hempty hstep

end Sys2Proof.Claims

/-! PROOF. What the parts of a sound state read, and what the list operations and the routing do to them. Each part of
`State.Sound` is told by a view of the state: two states with the same view are sound in that part together. -/

namespace Sys2Proof.Keep

open Sys2Proof.Machine

/-! ### Lists and tests: what the proofs need beyond core Lean -/

theorem getD_map {α β : Type} (f : α → β) (l : List α) (d : α) (n : Nat) : (l.map f).getD n (f d) = f (l.getD n d) := by
  rw [List.getD_eq_getElem?_getD, List.getD_eq_getElem?_getD, List.getElem?_map]
  cases l[n]? <;> rfl

theorem getD_of_lt {α : Type} {l : List α} {n : Nat} (d : α) (h : n < l.length) : l.getD n d = l[n] := by
  rw [List.getD_eq_getElem?_getD, List.getElem?_eq_getElem h, Option.getD_some]

theorem getD_of_ge {α : Type} {l : List α} {n : Nat} (d : α) (h : l.length ≤ n) : l.getD n d = d := by
  rw [List.getD_eq_getElem?_getD, List.getElem?_eq_none h, Option.getD_none]

theorem foldl_of_eq {α β : Type} {f g : β → α → β} {l : List α} (h : ∀ b, ∀ a ∈ l, f b a = g b a) (b : β) :
    l.foldl f b = l.foldl g b := by
  induction l generalizing b with
  | nil => rfl
  | cons a rest ih =>
    rw [List.foldl_cons, List.foldl_cons, h b a List.mem_cons_self]
    exact ih (fun b x hx => h b x (List.mem_cons_of_mem a hx)) _

theorem exists_mem_cons_iff {α : Type} {p : α → Prop} {a : α} {l : List α} :
    (∃ x ∈ a :: l, p x) ↔ p a ∨ ∃ x ∈ l, p x := by
  simp only [List.mem_cons, or_and_right, exists_or, exists_eq_left]

theorem length_flatMap_of_length {α β : Type} {f : α → List β} {l : List α} {k : Nat} (h : ∀ a, (f a).length = k) :
    (l.flatMap f).length = k * l.length := by
  induction l with
  | nil => rfl
  | cons a rest ih => rw [List.flatMap_cons, List.length_append, h, ih, List.length_cons, Nat.mul_succ, Nat.add_comm]

theorem beq_decide {α : Type} [BEq α] [LawfulBEq α] [DecidableEq α] (a b : α) : (a == b) = decide (a = b) :=
  Bool.eq_iff_iff.mpr (beq_iff_eq.trans decide_eq_true_iff.symm)

theorem ite_of_iff {α : Type} {p q : Prop} [Decidable p] [Decidable q] {x y : α} (h : p ↔ q) :
    (if p then x else y) = if q then x else y := ite_congr (propext h) (fun _ => rfl) fun _ => rfl

/-! ### The views -/

def queueView (s : State) : Nat × Nat × Nat × Nat :=
  (s.tx.urgent.length, s.tx.change.length, s.transfer.pendingEvents.length, s.bus.fails)

def calendarView (s : State) : Nat × Bool × Nat × ShiftPattern × Bool × Bool :=
  (s.clock.shift, s.clock.inLead, s.clock.millTime, s.clock.pattern, s.second.start, s.second.due)

def windowView (s : State) : Nat × Nat × Nat := (s.window.row, s.window.top, s.scoped.length)

def peersView (s : State) : List (Option PeerRecord) × Option Station := (s.peers, s.node.number)

def stationView (s : State) : List Area × Mode × Option Sending × List AlarmRecord × List (Option PeerRecord) :=
  (s.areas, s.node.mode, s.bus.sending, s.picture.list, s.peers)

def outputView (s : State) : Lamp × Horn × List AlarmRecord × List AlarmRecord :=
  (s.picture.lamp, s.picture.horn, s.routedUnack, s.routedAck)

def handoverView (s : State) : AreaSet × Outgoing × (Nat → Bool) × Mode :=
  (s.handover.rebadge, s.handover.outgoing, s.holds, s.node.mode)

theorem queuesSound_of_view {s t : State} (hs : QueuesSound s) (h : queueView t = queueView s) : QueuesSound t := by
  simp only [queueView, Prod.mk.injEq] at h
  obtain ⟨hurgent, hchange, hwaiting, hfails⟩ := h
  exact ⟨hurgent ▸ hs.urgent, hchange ▸ hs.change, hwaiting ▸ hs.waiting, hfails ▸ hs.fails⟩

theorem calendarSound_of_view {s t : State} (hs : CalendarSound s) (h : calendarView t = calendarView s) :
    CalendarSound t := by
  simp only [calendarView, Prod.mk.injEq] at h
  obtain ⟨hshift, hlead, hmill, hpattern, hstart, hdue⟩ := h
  exact ⟨by simpa only [hstart, hshift, hpattern, hmill] using hs.shift,
    by simpa only [hstart, hdue, hlead, hpattern, hmill] using hs.lead,
    by simpa only [hstart, hpattern, hmill] using hs.start, by simpa only [hdue, hpattern, hmill] using hs.due,
    by simpa only [hstart, hdue, hpattern, hmill] using hs.pair⟩

theorem windowSound_of_view {s t : State} (hs : WindowSound s) (h : windowView t = windowView s) : WindowSound t := by
  simp only [windowView, Prod.mk.injEq] at h
  obtain ⟨hrow, htop, hlength⟩ := h
  exact ⟨hrow ▸ hs.row, by simpa only [htop, hlength] using hs.top⟩

theorem peersSound_of_view {s t : State} (hs : PeersSound s) (h : peersView t = peersView s) : PeersSound t := by
  simp only [peersView, Prod.mk.injEq] at h
  obtain ⟨hpeers, hnumber⟩ := h
  refine ⟨hpeers ▸ hs.places, fun n hn => ?own, hpeers ▸ hs.silence, hpeers ▸ hs.lost⟩
  case own => simpa only [State.peer, hpeers] using hs.own n (hnumber ▸ hn)

theorem stationSound_of_view {s t : State} (hs : StationSound s) (h : stationView t = stationView s) :
    StationSound t := by
  simp only [stationView, Prod.mk.injEq] at h
  obtain ⟨hareas, hmode, hsending, hlist, hpeers⟩ := h
  exact ⟨hareas ▸ hs.areas, by simpa only [hmode, hsending] using hs.sending,
    by simpa only [hmode, hlist] using hs.list, by simpa only [hmode, hpeers] using hs.peers,
    by simpa only [hmode, hareas] using hs.holds, by simpa only [hmode, hareas] using hs.loads⟩

theorem annunciatorSound_of_view {s t : State} (hs : AnnunciatorSound s) (h : outputView t = outputView s) :
    AnnunciatorSound t := by
  simp only [outputView, Prod.mk.injEq] at h
  obtain ⟨hlamp, hhorn, hunack, hack⟩ := h
  exact ⟨by simpa only [hlamp, hunack] using hs.flashing, by simpa only [hlamp, hunack, hack] using hs.steady,
    by simpa only [hhorn, hunack] using hs.quiet, by simpa only [hhorn, hunack] using hs.pattern⟩

theorem handoverSound_of_view {s t : State} (hs : HandoverSound s) (h : handoverView t = handoverView s) :
    HandoverSound t := by
  simp only [handoverView, Prod.mk.injEq] at h
  obtain ⟨hrebadge, hout, hholds, hmode⟩ := h
  exact ⟨by simpa only [hrebadge, hholds] using hs.rebadge, by simpa only [hout, hholds] using hs.offered,
    by simpa only [hout, hholds] using hs.committing, by simpa only [hrebadge, hout, hmode] using hs.inactive⟩

/-! ### The routed sets and the outputs -/

theorem highest_eq_none_iff (l : List AlarmRecord) : highest l = none ↔ l = [] := by
  cases l with
  | nil => simp [highest]
  | cons r rest =>
    unfold highest
    split
    · split <;> simp
    · simp

theorem reevaluate_flashing_iff (l : Lamp) (unack ack : Bool) :
    (∃ high, l.reevaluate unack ack = .flashing high) ↔ unack = true := by
  unfold Lamp.reevaluate
  cases unack
  · cases ack <;> simp
  · cases l <;> simp

theorem reevaluate_steady_iff (l : Lamp) (unack ack : Bool) :
    l.reevaluate unack ack = .steady ↔ unack = false ∧ ack = true := by
  unfold Lamp.reevaluate
  cases unack
  · cases ack <;> simp
  · cases l <;> simp

/-- A horn re-evaluated is QUIET where nothing is routed UNACK, and otherwise has the highest priority's pattern while it
is SOUNDING (R15, R29). -/
theorem reevaluate_sounding {h : Horn} {top : Option Priority} {p : Pattern} {half : Nat}
    (e : h.reevaluate top = .sounding p half) : top.map Priority.pattern = some p := by
  unfold Horn.reevaluate at e
  split at e
  · cases e
  · split at e
    · split at e
      · next hq => cases e; simp [hq]
      · cases e; rfl
    · cases e
    · cases e

/-- The routed sets re-evaluated make horn and lamp sound, whatever they were (R15, R17). -/
theorem reroute_annunciatorSound (s : State) : AnnunciatorSound s.reroute := by
  have hunack : s.reroute.routedUnack = s.routedUnack := rfl
  have hack : s.reroute.routedAck = s.routedAck := rfl
  have hlamp : s.reroute.picture.lamp =
      s.picture.lamp.reevaluate (!s.routedUnack.isEmpty) (s.routedAck.any fun r => !r.cleared) := rfl
  have hhorn : s.reroute.picture.horn = s.picture.horn.reevaluate (highest s.routedUnack) := rfl
  refine ⟨?_, ?_, fun hempty => ?_, fun p half h => ?_⟩
  · rw [hlamp, hunack, reevaluate_flashing_iff]
    simp
  · rw [hlamp, hunack, hack, reevaluate_steady_iff]
    simp
  · rw [hhorn, (highest_eq_none_iff s.routedUnack).mpr (hunack ▸ hempty)]
    rfl
  · rw [hunack]
    exact reevaluate_sounding (hhorn ▸ h)

theorem horn_sound_cases (h : Horn) (top : Option Priority) :
    h.sound top = h ∨ ∃ p, top = some p ∧ h.sound top = .sounding p.pattern 0 := by
  unfold Horn.sound
  cases top with
  | none => exact .inl rfl
  | some p =>
    cases h with
    | sounding q half => exact .inl rfl
    | quiet | silenced => exact .inr ⟨p, rfl, rfl⟩

theorem sound_annunciatorSound {s : State} (hs : AnnunciatorSound s) : AnnunciatorSound s.sound := by
  have hhorn : s.sound.picture.horn = s.picture.horn.sound (highest s.routedUnack) := rfl
  refine ⟨hs.flashing, hs.steady, fun hempty => ?_, fun p half h => ?_⟩
  · have hnone : highest s.routedUnack = none := (highest_eq_none_iff _).mpr hempty
    rw [hhorn, hnone]
    exact hs.quiet hempty
  · rw [hhorn] at h
    obtain hsame | ⟨q, hq, hnew⟩ := horn_sound_cases s.picture.horn (highest s.routedUnack)
    · exact hs.pattern p half (hsame ▸ h)
    · rw [hnew] at h
      cases h
      show (highest s.routedUnack).map _ = _
      rw [hq]
      rfl

/-! ### The window -/

/-- A change of the scoped list's contents that leaves the window to be adjusted leaves it within the list (R41). -/
theorem throughWindow_windowSound {s : State} {f : State → State} (hrow : (f s).window.row ≤ 7) :
    WindowSound (s.throughWindow f) := by
  refine ⟨hrow, ?_⟩
  show pulledBack (f s).window.top (f s).scoped.length ≤ (f s).scoped.length - 1
  unfold pulledBack
  split <;> omega

/-! ### The alarm list -/

theorem notAfter_of_not_before {x r : AlarmRecord} (h : r.before x = false) : NotAfter x r := by
  unfold AlarmRecord.before at h
  unfold NotAfter
  split at h
  · next hne =>
    simp only [decide_eq_false_iff_not, bne_iff_ne, ne_eq] at h hne
    omega
  · next heq =>
    have heq : r.priority.num = x.priority.num := by simpa using heq
    split at h
    · simp only [decide_eq_false_iff_not] at h
      omega
    · next hsec =>
      have hsec : r.arrivalSec = x.arrivalSec := by simpa using hsec
      rw [hsec]
      omega

theorem notAfter_of_before {x r : AlarmRecord} (h : r.before x = true) : NotAfter r x := by
  unfold AlarmRecord.before at h
  unfold NotAfter
  split at h
  · exact .inl (by simpa using h)
  · next heq =>
    have heq : r.priority.num = x.priority.num := by simpa using heq
    split at h
    · simp only [decide_eq_true_eq] at h
      omega
    · next hsec =>
      have hsec : r.arrivalSec = x.arrivalSec := by simpa using hsec
      rw [hsec]
      omega

theorem notAfter_trans {x y z : AlarmRecord} (hxy : NotAfter x y) (hyz : NotAfter y z) : NotAfter x z := by
  unfold NotAfter at *
  omega

/-- A record placed at its position keeps the list order (R2). -/
theorem pairwise_place (r : AlarmRecord) {l : List AlarmRecord} (h : l.Pairwise NotAfter) :
    (place r l).Pairwise NotAfter := by
  induction l with
  | nil => simp [place]
  | cons x rest ih =>
    obtain ⟨hx, hrest⟩ := List.pairwise_cons.mp h
    unfold place
    split
    · next hbefore =>
      refine List.pairwise_cons.mpr ⟨fun y hy => ?_, h⟩
      obtain rfl | hy := List.mem_cons.mp hy
      · exact notAfter_of_before hbefore
      · exact notAfter_trans (notAfter_of_before hbefore) (hx y hy)
    · next hbefore =>
      refine List.pairwise_cons.mpr ⟨fun y hy => ?_, ih hrest⟩
      obtain rfl | hy := mem_place.mp hy
      · exact notAfter_of_not_before (by simpa using hbefore)
      · exact hx y hy

theorem nodup_ids_place {r : AlarmRecord} {l : List AlarmRecord} (h : (l.map AlarmRecord.id).Nodup)
    (hid : ∀ x ∈ l, x.id ≠ r.id) : ((place r l).map AlarmRecord.id).Nodup := by
  induction l with
  | nil => simp [place]
  | cons x rest ih =>
    simp only [List.map_cons, List.nodup_cons] at h
    unfold place
    split
    · simp only [List.map_cons, List.nodup_cons, List.mem_cons, List.mem_map, not_or]
      exact ⟨⟨fun e => hid x List.mem_cons_self e.symm,
        fun ⟨y, hy, e⟩ => hid y (List.mem_cons_of_mem _ hy) e⟩, by simpa using h.1, h.2⟩
    · simp only [List.map_cons, List.nodup_cons]
      refine ⟨?_, ih h.2 fun y hy => hid y (List.mem_cons_of_mem _ hy)⟩
      simp only [List.mem_map, mem_place]
      rintro ⟨y, rfl | hy, e⟩
      · exact hid x List.mem_cons_self e.symm
      · exact h.1 (List.mem_map.mpr ⟨y, hy, e⟩)

/-- A new record that finds room keeps the list sound. -/
theorem listSound_place {r : AlarmRecord} {l : List AlarmRecord} (hl : ListSound l) (hroom : l.length < 256)
    (hid : ∀ x ∈ l, x.id ≠ r.id) (hr : r.Sound) : ListSound (place r l) := by
  refine ⟨?_, nodup_ids_place hl.ids hid, pairwise_place r hl.order, fun x hx => ?_⟩
  · rw [length_place]
    show l.length + 1 ≤ 256
    omega
  · obtain rfl | hx := mem_place.mp hx
    · exact hr
    · exact hl.records x hx

theorem listSound_sublist {l m : List AlarmRecord} (hl : ListSound l) (h : m.Sublist l) : ListSound m :=
  ⟨Nat.le_trans h.length_le hl.capacity, (h.map _).nodup hl.ids, hl.order.sublist h, fun r hr => hl.records r (h.subset hr)⟩

theorem listSound_dropRecord {l : List AlarmRecord} (hl : ListSound l) (id : AlarmId) : ListSound (dropRecord id l) :=
  listSound_sublist hl List.filter_sublist

theorem listSound_nil : ListSound [] := ⟨by decide, by simp, by simp, by simp⟩

/-- A list with one record for each id has no two with the same id. -/
theorem eq_of_id_eq {l : List AlarmRecord} (h : (l.map AlarmRecord.id).Nodup) {x y : AlarmRecord} (hx : x ∈ l)
    (hy : y ∈ l) (e : x.id = y.id) : x = y := by
  induction l with
  | nil => cases hx
  | cons z rest ih =>
    rw [List.map_cons, List.nodup_cons] at h
    obtain ⟨hz, hrest⟩ := h
    obtain rfl | hxrest := List.mem_cons.mp hx
    · obtain rfl | hyrest := List.mem_cons.mp hy
      · rfl
      · exact absurd (List.mem_map.mpr ⟨y, hyrest, e.symm⟩) hz
    · obtain rfl | hyrest := List.mem_cons.mp hy
      · exact absurd (List.mem_map.mpr ⟨x, hxrest, e⟩) hz
      · exact ih hrest hxrest hyrest

/-- A record changed where it stands keeps the list sound if the change keeps its keys and leaves it sound. -/
theorem listSound_changeRecord {l : List AlarmRecord} (hl : ListSound l) {r : AlarmRecord} {f : AlarmRecord → AlarmRecord}
    (hr : r ∈ l) (hid : ∀ x, (f x).id = x.id) (hpriority : ∀ x, (f x).priority = x.priority)
    (harrival : ∀ x, (f x).arrivalSec = x.arrivalSec) (hsound : (f r).Sound) : ListSound (changeRecord r.id f l) := by
  refine ⟨?_, ?_, ?_, fun x hx => ?_⟩
  · rw [length_changeRecord]
    exact hl.capacity
  · rw [map_id_changeRecord _ _ hid]
    exact hl.ids
  · refine List.pairwise_map.mpr (hl.order.imp fun {x y} hxy => ?_)
    have hkeys : ∀ z : AlarmRecord, (if z.id == r.id then f z else z).priority = z.priority ∧
        (if z.id == r.id then f z else z).arrivalSec = z.arrivalSec := by
      intro z
      split
      · exact ⟨hpriority z, harrival z⟩
      · exact ⟨rfl, rfl⟩
    unfold NotAfter at hxy ⊢
    rwa [(hkeys x).1, (hkeys x).2, (hkeys y).1, (hkeys y).2]
  · obtain ⟨y, hy, rfl⟩ := List.mem_map.mp hx
    split
    · next hyid =>
      obtain rfl : y = r := eq_of_id_eq hl.ids hy hr (by simpa using hyid)
      exact hsound
    · exact hl.records y hy

theorem length_dropRecord_lt {l : List AlarmRecord} {r : AlarmRecord} (h : r ∈ l) :
    (dropRecord r.id l).length < l.length :=
  List.length_filter_lt_length_iff_exists.mpr ⟨r, h, by simp⟩

/-- A record moved to its new position keeps the list sound (R2). -/
theorem listSound_moveRecord {l : List AlarmRecord} (hl : ListSound l) {r y : AlarmRecord} (hy : y ∈ l)
    (hid : y.id = r.id) (hr : r.Sound) : ListSound (moveRecord r l) := by
  refine listSound_place (listSound_dropRecord hl r.id) ?_ (fun x hx => (mem_dropRecord.mp hx).2) hr
  have hcapacity : l.length ≤ 256 := hl.capacity
  have := length_dropRecord_lt hy
  rw [hid] at this
  omega

/-- An insertion of a new id keeps the list sound (R3). -/
theorem listSound_insert {s t : State} {r : AlarmRecord} (h : s.insert r = some t) (hs : ListSound s.picture.list)
    (hid : ∀ x ∈ s.picture.list, x.id ≠ r.id) (hr : r.Sound) : ListSound t.picture.list := by
  unfold State.insert at h
  dsimp only at h
  split at h
  · next hroom =>
    cases h
    exact listSound_place hs hroom hid hr
  · split at h
    · cases h
    · next e he =>
      cases h
      have hcapacity : s.picture.list.length ≤ 256 := hs.capacity
      have hless := length_dropRecord_lt (evictee_some he).1
      exact listSound_place (listSound_dropRecord hs e.id)
        (show (dropRecord e.id s.picture.list).length < 256 by omega)
        (fun x hx => hid x (mem_dropRecord.mp hx).1) hr

end Sys2Proof.Keep

/-! PROOF. What every change that a command makes keeps. `Keeps c P s t` gathers what the statements of the whole machine
speak of, for a change from `s` to `t` made by the command `c`; it is reflexive and transitive, so it need be shown of
each operation only from the operations that it is made of. `P` is what is known of the state the command found. -/

namespace Sys2Proof.Keep

open Sys2Proof.Machine Sys2Proof.Claims

/-- Outside CONFIG nothing that the configuration digest is formed of changes (R147, R160). -/
structure Locked (s t : State) : Prop where
  mode    : t.node.mode ≠ .config
  areas   : t.areas.map Area.config = s.areas.map Area.config
  pattern : t.clock.pattern = s.clock.pattern
  number  : t.node.number = s.node.number
  gap     : t.node.gap = s.node.gap
  digest  : t.node.digest = s.node.digest

structure Keeps (c : Instr) (P : Prop) (s t : State) : Prop where
  sound   : P → s.Sound → t.Sound
  live    : s.node.mode.receives = true → t.node.mode.receives = true
  locked  : s.node.mode ≠ .config → Locked s t
  flags   : c = .readAttention ∨ ∀ f, s.flagSet f = true → t.flagSet f = true
  serials : ∀ a, (s.area a).serial.toNat ≤ (t.area a).serial.toNat
  now     : c = .secondEvent ∨ t.clock.now = s.clock.now
  sending : (∃ slot, c = .accessStart slot) ∨ (s.bus.sending = none → t.bus.sending = none)
  started : s.port.started = true → t.port.started = true
  pending : t.pending = s.pending

variable {c : Instr} {P Q : Prop} {s t u : State}

theorem Locked.refl (h : s.node.mode ≠ .config) : Locked s s := ⟨h, rfl, rfl, rfl, rfl, rfl⟩

theorem Locked.trans (h : Locked s t) (h' : Locked t u) : Locked s u :=
  ⟨h'.mode, h'.areas.trans h.areas, h'.pattern.trans h.pattern, h'.number.trans h.number, h'.gap.trans h.gap,
    h'.digest.trans h.digest⟩

theorem Keeps.refl (c : Instr) (P : Prop) (s : State) : Keeps c P s s :=
  ⟨fun _ h => h, id, Locked.refl, .inr fun _ => id, fun _ => Nat.le_refl _, .inr rfl, .inr id, id, rfl⟩

theorem Keeps.trans (h : Keeps c P s t) (h' : Keeps c P t u) : Keeps c P s u where
  sound := fun p hs => h'.sound p (h.sound p hs)
  live := fun hs => h'.live (h.live hs)
  locked := fun hs => (h.locked hs).trans (h'.locked (h.locked hs).mode)
  flags := h.flags.elim .inl fun hf => h'.flags.imp id fun hf' f hs => hf' f (hf f hs)
  serials := fun a => Nat.le_trans (h.serials a) (h'.serials a)
  now := h.now.elim .inl fun hn => h'.now.imp id fun hn' => hn'.trans hn
  sending := h.sending.elim .inl fun hn => h'.sending.imp id fun hn' hs => hn' (hn hs)
  started := fun hs => h'.started (h.started hs)
  pending := h'.pending.trans h.pending

/-- What the state's own soundness tells may be used beside what is known already. -/
theorem Keeps.assuming (h : Keeps c Q s t) (hq : P → s.Sound → Q) : Keeps c P s t :=
  { h with sound := fun p hs => h.sound (hq p hs) hs }

theorem Keeps.ite {b : Prop} [Decidable b] (ht : b → Keeps c P s t) (hu : ¬b → Keeps c P s u) :
    Keeps c P s (if b then t else u) := by
  split
  · next h => exact ht h
  · next h => exact hu h

theorem Keeps.orElse {b : Prop} [Decidable b] (h : Keeps c P s t) (hu : b → Keeps c P t u) :
    Keeps c P s (if b then u else t) :=
  .ite (fun hb => h.trans (hu hb)) fun _ => h

/-- What each step of a fold keeps while the station receives, the fold keeps. -/
theorem Keeps.foldl_live {α : Type} {f : State → α → State}
    (step : ∀ s x, (P → s.node.mode.receives = true) → Keeps c P s (f s x)) (l : List α) :
    ∀ s, (P → s.node.mode.receives = true) → Keeps c P s (l.foldl f s) := by
  induction l with
  | nil => exact fun s _ => .refl c P s
  | cons x rest ih =>
    intro s hlive
    have hx := step s x hlive
    exact hx.trans (ih _ fun p => hx.live (hlive p))

theorem Keeps.foldl {α : Type} {f : State → α → State} (step : ∀ s x, Keeps c P s (f s x)) (l : List α) :
    ∀ s, Keeps c P s (l.foldl f s) := by
  induction l with
  | nil => exact .refl c P
  | cons x rest ih => exact fun s => (step s x).trans (ih _)

/-! ### Changes that leave the station, the areas, the clock and the port as they were -/

/-- A change of the parts of the state that only soundness reads. -/
theorem Keeps.of_same (hsound : P → s.Sound → t.Sound) (hnode : t.node = s.node) (hareas : t.areas = s.areas)
    (hclock : t.clock = s.clock) (hsending : t.bus.sending = s.bus.sending) (hport : t.port = s.port)
    (hpending : t.pending = s.pending) : Keeps c P s t where
  sound := hsound
  live := fun h => hnode ▸ h
  locked := fun h => ⟨hnode ▸ h, by rw [hareas], by rw [hclock], by rw [hnode], by rw [hnode], by rw [hnode]⟩
  flags := .inr fun f h => by simpa only [State.flagSet, hport] using h
  serials := fun a => by simp only [State.area, hareas, Nat.le_refl]
  now := .inr (by rw [hclock])
  sending := .inr fun h => hsending.trans h
  started := fun h => hport ▸ h
  pending := hpending

theorem Keeps.window (w : Window) (h : P → WindowSound s → WindowSound { s with window := w }) :
    Keeps c P s { s with window := w } :=
  .of_same (fun p hs => ⟨hs.list, hs.loads, queuesSound_of_view hs.queues rfl, hs.clock,
    calendarSound_of_view hs.calendar rfl, h p hs.window, hs.port, peersSound_of_view hs.peers rfl,
    stationSound_of_view hs.station rfl, annunciatorSound_of_view hs.output rfl,
    handoverSound_of_view hs.handover rfl⟩) rfl rfl rfl rfl rfl rfl

/-- A change of the window that moves neither the cursor nor the position, and admits the same records. -/
theorem Keeps.window_view (w : Window) (h : windowView { s with window := w } = windowView s) :
    Keeps c P s { s with window := w } :=
  .window w fun _ hs => windowSound_of_view hs h

theorem Keeps.handover (x : Handover) (h : P → s.Sound → HandoverSound { s with handover := x }) :
    Keeps c P s { s with handover := x } :=
  .of_same (fun p hs => ⟨hs.list, hs.loads, queuesSound_of_view hs.queues rfl, hs.clock,
    calendarSound_of_view hs.calendar rfl, windowSound_of_view hs.window rfl, hs.port, peersSound_of_view hs.peers rfl,
    stationSound_of_view hs.station rfl, annunciatorSound_of_view hs.output rfl, h p hs⟩) rfl rfl rfl rfl rfl rfl

/-- A change of the handover controller that leaves the outgoing offer and the re-badge list. -/
theorem Keeps.handover_same (x : Handover) (hrebadge : x.rebadge = s.handover.rebadge)
    (hout : x.outgoing = s.handover.outgoing) : Keeps c P s { s with handover := x } :=
  .handover x fun _ hs => handoverSound_of_view hs.handover (by simp only [handoverView, hrebadge, hout]; rfl)

/-- A change of the handover controller that ends the outgoing offer. -/
theorem Keeps.handover_idle (x : Handover) (hrebadge : x.rebadge = s.handover.rebadge) (hout : x.outgoing = .idle) :
    Keeps c P s { s with handover := x } :=
  .handover x fun _ hs => ⟨fun a h => hs.handover.rebadge a (hrebadge ▸ h), fun o h => by simp [hout] at h,
    fun o h => by simp [hout] at h, fun h => ⟨hout, hrebadge.trans (hs.handover.inactive h).2⟩⟩

theorem Keeps.tx (x : Transmit) (hurgent : P → s.tx.urgent.length ≤ 8 → x.urgent.length ≤ 8)
    (hchange : P → s.tx.change.length ≤ 32 → x.change.length ≤ 32) : Keeps c P s { s with tx := x } :=
  .of_same (fun p hs => ⟨hs.list, hs.loads,
    ⟨hurgent p hs.queues.urgent, hchange p hs.queues.change, hs.queues.waiting, hs.queues.fails⟩, hs.clock,
    calendarSound_of_view hs.calendar rfl, windowSound_of_view hs.window rfl, hs.port, peersSound_of_view hs.peers rfl,
    stationSound_of_view hs.station rfl, annunciatorSound_of_view hs.output rfl,
    handoverSound_of_view hs.handover rfl⟩) rfl rfl rfl rfl rfl rfl

/-- A change of the scheduler that lengthens no queue. -/
theorem Keeps.tx_le (x : Transmit) (hurgent : x.urgent.length ≤ s.tx.urgent.length)
    (hchange : x.change.length ≤ s.tx.change.length) : Keeps c P s { s with tx := x } :=
  .tx x (fun _ => Nat.le_trans hurgent) (fun _ => Nat.le_trans hchange)

theorem Keeps.transfer (x : Transfer)
    (h : s.transfer.pendingEvents.length ≤ 32 → x.pendingEvents.length ≤ 32) : Keeps c P s { s with transfer := x } :=
  .of_same (fun _ hs => ⟨hs.list, hs.loads,
    ⟨hs.queues.urgent, hs.queues.change, h hs.queues.waiting, hs.queues.fails⟩, hs.clock,
    calendarSound_of_view hs.calendar rfl, windowSound_of_view hs.window rfl, hs.port, peersSound_of_view hs.peers rfl,
    stationSound_of_view hs.station rfl, annunciatorSound_of_view hs.output rfl,
    handoverSound_of_view hs.handover rfl⟩) rfl rfl rfl rfl rfl rfl

theorem Keeps.second (x : SecondWork) (h : CalendarSound s → CalendarSound { s with second := x }) :
    Keeps c P s { s with second := x } :=
  .of_same (fun _ hs => ⟨hs.list, hs.loads, queuesSound_of_view hs.queues rfl, hs.clock, h hs.calendar,
    windowSound_of_view hs.window rfl, hs.port, peersSound_of_view hs.peers rfl, stationSound_of_view hs.station rfl,
    annunciatorSound_of_view hs.output rfl, handoverSound_of_view hs.handover rfl⟩) rfl rfl rfl rfl rfl rfl

theorem Keeps.freeCount (n : Nat) : Keeps c P s { s with freeCount := n } :=
  .of_same (fun _ hs => ⟨hs.list, hs.loads, queuesSound_of_view hs.queues rfl, hs.clock,
    calendarSound_of_view hs.calendar rfl, windowSound_of_view hs.window rfl, hs.port, peersSound_of_view hs.peers rfl,
    stationSound_of_view hs.station rfl, annunciatorSound_of_view hs.output rfl,
    handoverSound_of_view hs.handover rfl⟩) rfl rfl rfl rfl rfl rfl

theorem Keeps.lastLost (x : Option Nat) : Keeps c P s { s with lastLost := x } :=
  .of_same (fun _ hs => ⟨hs.list, hs.loads, queuesSound_of_view hs.queues rfl, hs.clock,
    calendarSound_of_view hs.calendar rfl, windowSound_of_view hs.window rfl, hs.port, peersSound_of_view hs.peers rfl,
    stationSound_of_view hs.station rfl, annunciatorSound_of_view hs.output rfl,
    handoverSound_of_view hs.handover rfl⟩) rfl rfl rfl rfl rfl rfl

theorem Keeps.peers (x : List (Option PeerRecord)) (h : P → s.Sound → PeersSound { s with peers := x })
    (hnone : P → s.Sound → s.node.mode.receives = false → ∀ r ∈ x, r = none) :
    Keeps c P s { s with peers := x } :=
  .of_same (fun p hs => ⟨hs.list, hs.loads, queuesSound_of_view hs.queues rfl, hs.clock,
    calendarSound_of_view hs.calendar rfl, windowSound_of_view hs.window rfl, hs.port, h p hs,
    ⟨hs.station.areas, hs.station.sending, hs.station.list, hnone p hs, hs.station.holds, hs.station.loads⟩,
    annunciatorSound_of_view hs.output rfl, handoverSound_of_view hs.handover rfl⟩) rfl rfl rfl rfl rfl rfl

/-- A change of the bus; only an access starts a transmission. -/
theorem Keeps.bus (x : Bus) (hfails : s.bus.fails ≤ 8 → x.fails ≤ 8)
    (hsending : (∃ slot, c = .accessStart slot) ∧ s.node.mode = .active ∨
      (s.bus.sending = none → x.sending = none)) : Keeps c P s { s with bus := x } where
  sound := fun _ hs => ⟨hs.list, hs.loads,
    ⟨hs.queues.urgent, hs.queues.change, hs.queues.waiting, hfails hs.queues.fails⟩, hs.clock,
    calendarSound_of_view hs.calendar rfl, windowSound_of_view hs.window rfl, hs.port, peersSound_of_view hs.peers rfl,
    ⟨hs.station.areas, fun h => hsending.elim (fun ⟨_, hactive⟩ => absurd hactive h)
      fun hkept => hkept (hs.station.sending h), hs.station.list, hs.station.peers, hs.station.holds,
      hs.station.loads⟩,
    annunciatorSound_of_view hs.output rfl, handoverSound_of_view hs.handover rfl⟩
  live := id
  locked := fun h => ⟨h, rfl, rfl, rfl, rfl, rfl⟩
  flags := .inr fun _ => id
  serials := fun _ => Nat.le_refl _
  now := .inr rfl
  sending := hsending.imp And.left id
  started := id
  pending := rfl

/-- A change of the bus that starts no transmission and counts no failure. -/
theorem Keeps.bus_same (x : Bus) (hfails : x.fails = s.bus.fails) (hsending : x.sending = s.bus.sending) :
    Keeps c P s { s with bus := x } :=
  .bus x (fun h => hfails ▸ h) (.inr fun h => hsending.trans h)

/-- A change of the port. -/
theorem Keeps.port (x : Port)
    (hflags : c = .readAttention ∨ ∀ i, s.port.attention.getLsbD i = true → x.attention.getLsbD i = true)
    (hstarted : s.port.started = true → x.started = true) (hsound : PortSound s.port → PortSound x) :
    Keeps c P s { s with port := x } where
  sound := fun _ hs => ⟨hs.list, hs.loads, queuesSound_of_view hs.queues rfl, hs.clock,
    calendarSound_of_view hs.calendar rfl, windowSound_of_view hs.window rfl, hsound hs.port,
    peersSound_of_view hs.peers rfl, stationSound_of_view hs.station rfl, annunciatorSound_of_view hs.output rfl,
    handoverSound_of_view hs.handover rfl⟩
  live := id
  locked := fun h => ⟨h, rfl, rfl, rfl, rfl, rfl⟩
  flags := hflags.imp id fun h f => h f.bit
  serials := fun _ => Nat.le_refl _
  now := .inr rfl
  sending := .inr id
  started := hstarted
  pending := rfl

theorem Keeps.latch (f : Flag) : Keeps c P s (s.latch f) :=
  .port _ (.inr fun i h => by simp [h]) id fun h => ⟨h.number, h.busy⟩

theorem Keeps.latchIf (b : Bool) (f : Flag) : Keeps c P s (s.latchIf b f) := .ite (fun _ => .latch f) fun _ => .refl c P s

theorem Keeps.latchOpt (f : Option Flag) : Keeps c P s (s.latchOpt f) := by
  cases f with
  | none => exact .refl c P s
  | some f => exact .latch f

/-- A change of the station's part that leaves its state, number, gap setting and digest. -/
theorem Keeps.node (x : Node) (hmode : x.mode = s.node.mode) (hnumber : x.number = s.node.number)
    (hgap : x.gap = s.node.gap) (hdigest : x.digest = s.node.digest) : Keeps c P s { s with node := x } := by
  have hown : State.isOwn { s with node := x } = s.isOwn := by
    funext t
    simp only [State.isOwn, hnumber]
  have hholds : State.holds { s with node := x } = s.holds := by
    funext a
    unfold State.holds
    rw [hown]
    rfl
  have hrouted : State.routed { s with node := x } = s.routed := by
    funext r
    unfold State.routed State.isStandby
    rw [hown]
    rfl
  have hscoped : State.scoped { s with node := x } = s.scoped := by
    unfold State.scoped
    congr 1
    funext r
    unfold State.admits
    rw [hholds]
  refine ⟨fun _ hs => ⟨hs.list, hs.loads, queuesSound_of_view hs.queues rfl, hs.clock,
    calendarSound_of_view hs.calendar rfl, windowSound_of_view hs.window ?_, hs.port, peersSound_of_view hs.peers ?_,
    stationSound_of_view hs.station ?_, annunciatorSound_of_view hs.output ?_, handoverSound_of_view hs.handover ?_⟩,
    fun h => (congrArg Mode.receives hmode).trans h, fun h => ⟨fun e => h (hmode ▸ e), rfl, rfl, hnumber, hgap, hdigest⟩,
    .inr fun _ => id, fun _ => Nat.le_refl _, .inr rfl, .inr id, id, rfl⟩
  · simp only [windowView, hscoped]
  · simp only [peersView, hnumber]
  · simp only [stationView, hmode]
  · simp only [outputView, State.routedUnack, State.routedAck, hrouted]
  · simp only [handoverView, hmode, hholds]

theorem Keeps.setReport (r : Report) : Keeps c P s (s.setReport r) := by
  have hnode : Keeps c P s { s with node := { s.node with reports := setReportIn r s.node.reports } } :=
    .node _ rfl rfl rfl rfl
  exact hnode.trans (.tx_le _ (Nat.le_refl _) (Nat.le_refl _))

/-- The station enters a state in which it receives: from READY or CONFIG by JOIN, and from JOINING (R148, R149, R159). -/
theorem Keeps.enter (x : Node) (hnumber : x.number = s.node.number) (hgap : x.gap = s.node.gap)
    (hdigest : s.node.mode = .config ∨ x.digest = s.node.digest) (hreceives : x.mode.receives = true)
    (hactive : x.mode ≠ .active → s.node.mode ≠ .active) : Keeps c P s { s with node := x } := by
  have hconfig : x.mode ≠ .config := fun h => by simp [h, Mode.receives] at hreceives
  have hmoved : Keeps c P s { s with node := { x with mode := s.node.mode, digest := s.node.digest } } :=
    .node _ rfl hnumber hgap rfl
  refine ⟨fun p hs => ?_, fun _ => hreceives, fun h => ⟨hconfig, rfl, rfl, hnumber, hgap, hdigest.resolve_left h⟩,
    .inr fun _ => id, fun _ => Nat.le_refl _, .inr rfl, .inr id, id, rfl⟩
  have hm := hmoved.sound p hs
  refine ⟨hm.list, hm.loads, queuesSound_of_view hm.queues rfl, hm.clock, calendarSound_of_view hm.calendar rfl,
    windowSound_of_view hm.window rfl, hm.port, peersSound_of_view hm.peers rfl,
    ⟨hm.station.areas, fun h => hm.station.sending (hactive h), ?_, ?_, ?_, fun h => absurd h hconfig⟩,
    annunciatorSound_of_view hm.output rfl,
    ⟨hm.handover.rebadge, hm.handover.offered, hm.handover.committing, fun h => hm.handover.inactive (hactive h)⟩⟩
  all_goals exact fun h => absurd hreceives (by rw [h]; decide)

/-- A change of the clock and of the calendar's marks that leaves the pattern; only the second event moves
station-seconds. -/
theorem Keeps.clock_now (x : Clock) (w : SecondWork) (hnow : c = .secondEvent ∨ x.now = s.clock.now) (hpattern : x.pattern = s.clock.pattern)
    (hsound : P → s.Sound → ClockSound x ∧ CalendarSound { s with clock := x, second := w }) :
    Keeps c P s { s with clock := x, second := w } where
  sound := fun p hs => ⟨hs.list, hs.loads, queuesSound_of_view hs.queues rfl, (hsound p hs).1, (hsound p hs).2,
    windowSound_of_view hs.window rfl, hs.port, peersSound_of_view hs.peers rfl, stationSound_of_view hs.station rfl,
    annunciatorSound_of_view hs.output rfl, handoverSound_of_view hs.handover rfl⟩
  live := id
  locked := fun h => ⟨h, rfl, hpattern, rfl, rfl, rfl⟩
  flags := .inr fun _ => id
  serials := fun _ => Nat.le_refl _
  now := hnow
  sending := .inr id
  started := id
  pending := rfl

theorem Keeps.clock (x : Clock) (w : SecondWork) (hnow : x.now = s.clock.now) (hpattern : x.pattern = s.clock.pattern)
    (hsound : P → s.Sound → ClockSound x ∧ CalendarSound { s with clock := x, second := w }) :
    Keeps c P s { s with clock := x, second := w } := .clock_now x w (.inr hnow) hpattern hsound

/-- The overdue flag stands outside the calendar. -/
theorem Keeps.clock_overdue (b : Bool) : Keeps c P s { s with clock := { s.clock with overdue := b } } :=
  Keeps.clock { s.clock with overdue := b } s.second rfl rfl fun _ hs =>
    ⟨⟨hs.clock.mill, hs.clock.phase, hs.clock.trim, hs.clock.perDay, hs.clock.first, hs.clock.lead, hs.clock.grace⟩,
      calendarSound_of_view hs.calendar rfl⟩

/-! ### The alarm list, horn and lamp -/

/-- A change of the picture that leaves the list. -/
theorem Keeps.picture (x : Picture) (hlist : x.list = s.picture.list)
    (houtput : AnnunciatorSound s → AnnunciatorSound { s with picture := x }) : Keeps c P s { s with picture := x } := by
  refine .of_same (fun _ hs => ⟨hlist ▸ hs.list, hs.loads, queuesSound_of_view hs.queues rfl, hs.clock,
    calendarSound_of_view hs.calendar rfl, windowSound_of_view hs.window ?_, hs.port, peersSound_of_view hs.peers rfl,
    stationSound_of_view hs.station ?_, houtput hs.output,
    handoverSound_of_view hs.handover rfl⟩) rfl rfl rfl rfl rfl rfl
  · simp only [windowView, State.scoped, hlist]
    rfl
  · simp only [stationView, hlist]

/-- A change of the picture that leaves the list, the horn and the lamp. -/
theorem Keeps.picture_same (x : Picture) (hlist : x.list = s.picture.list) (hhorn : x.horn = s.picture.horn)
    (hlamp : x.lamp = s.picture.lamp) : Keeps c P s { s with picture := x } :=
  .picture x hlist fun hs => annunciatorSound_of_view hs (by
    simp only [outputView, State.routedUnack, State.routedAck, hlist, hhorn, hlamp]
    rfl)

theorem Keeps.reroute : Keeps c P s s.reroute := .picture _ rfl fun _ => reroute_annunciatorSound s

theorem Keeps.soundDemand : Keeps c P s s.sound := .picture _ rfl sound_annunciatorSound

theorem Keeps.soundFor (r : AlarmRecord) (f : Bool) : Keeps c P s (s.soundFor r f) :=
  .ite (fun _ => .soundDemand) fun _ => .refl c P s

/-- A list put in place and handed on: window and routing follow it whatever it is (R10). -/
theorem Keeps.setList (l : List AlarmRecord) (hlist : P → s.Sound → ListSound l)
    (hnone : P → s.Sound → s.node.mode.receives = false → l = []) : Keeps c P s (s.setList l) := by
  refine .of_same (fun p hs => ⟨hlist p hs, by simpa using hs.loads, queuesSound_of_view hs.queues (by simp [queueView]),
    by simpa using hs.clock, calendarSound_of_view hs.calendar (by simp [calendarView]), ?window, by simpa using hs.port,
    peersSound_of_view hs.peers (by simp [peersView]), ?station, reroute_annunciatorSound _, ?handover⟩)
    (by simp) (by simp) (by simp) (by simp) (by simp) (by simp)
  case window =>
    have hw := throughWindow_windowSound (s := s)
      (f := fun s => { s with picture := { s.picture with list := l } }) hs.window.row
    exact windowSound_of_view hw rfl
  case station =>
    have h := hs.station
    exact ⟨by simpa using h.areas, by simpa using h.sending, by simpa using hnone p hs, by simpa using h.peers,
      by simpa using h.holds, by simpa using h.loads⟩
  case handover => exact handoverSound_of_view hs.handover rfl

theorem Keeps.freeArrival : Keeps c P s s.takeArrival := .picture_same _ rfl rfl rfl

/-- A list without some records: it is sound, and empty where the old one was. -/
theorem Keeps.setList_sublist (l : List AlarmRecord) (h : l.Sublist s.picture.list) : Keeps c P s (s.setList l) :=
  .setList l (fun _ hs => listSound_sublist hs.list h)
    fun _ hs hmode => List.sublist_nil.mp (hs.station.list hmode ▸ h)

theorem Keeps.drop (id : AlarmId) : Keeps c P s (s.setList (dropRecord id s.picture.list)) :=
  .setList_sublist _ List.filter_sublist

/-- A record of the list means that the receivers are on (R147). -/
theorem receives_of_mem {r : AlarmRecord} (hs : s.Sound) (hr : r ∈ s.picture.list) : s.node.mode.receives = true := by
  cases h : s.node.mode.receives with
  | true => rfl
  | false =>
    rw [hs.station.list h] at hr
    cases hr

theorem Keeps.setList_mem {r : AlarmRecord} (hr : r ∈ s.picture.list) (l : List AlarmRecord)
    (hlist : ListSound s.picture.list → ListSound l) : Keeps c P s (s.setList l) :=
  .setList l (fun _ hs => hlist hs.list) fun _ hs h => by simp [receives_of_mem hs hr] at h

/-! ### The queues and the peer table -/

theorem Keeps.queue (f : Frame) (h : P → s.hasRoom = true) : Keeps c P s (s.queue f) :=
  .tx _ (fun p _ => by
    have hroom : s.tx.urgent.length < 8 := of_decide_eq_true (h p)
    simp only [List.length_append, List.length_singleton]
    omega) fun _ => id

theorem Keeps.queueIfRoom (f : Frame) : Keeps c P s (s.queueIfRoom f) :=
  .ite (fun h => .queue f fun _ => h) fun _ => .refl c P s

/-- A peer record put in place: of another station, while the receivers are on, with the comparisons of a LOST peer
forgotten (R154, R155). -/
theorem Keeps.setPeer (t : Station) (r : PeerRecord) (hlive : P → s.Sound → s.node.mode.receives = true)
    (hother : P → s.Sound → s.node.number ≠ some t) (hsilence : P → s.Sound → r.silence ≤ 3)
    (hlost : P → s.Sound → r.state = .lost → r.digestMatch = .notCompared ∧ r.millDiff = none) :
    Keeps c P s (s.setPeer t r) := by
  refine .ite (fun ht => .peers _ (fun p hs => ⟨?places, fun n hn => ?own, fun x hx q hq => ?silence,
    fun x hx q hq => ?lost⟩) fun p hs h => by simp [hlive p hs] at h) fun _ => .refl c P s
  case places => simpa using hs.peers.places
  case own =>
    have hn : s.node.number = some n := hn
    have hpeer := hs.peers.own n hn
    have hne : t ≠ n := fun e => hother p hs (e ▸ hn)
    simp only [State.peer] at hpeer ⊢
    split at hpeer
    · next hok =>
      have hindex : t.toNat - 1 ≠ n.toNat - 1 := by
        simp only [stationOk, Bool.and_eq_true, decide_eq_true_eq] at ht hok
        exact fun e => hne (BitVec.eq_of_toNat_eq (by omega))
      rw [if_pos hok]
      simpa [List.getD_eq_getElem?_getD, List.getElem?_set_ne hindex] using hpeer
    · next hok => rw [if_neg hok]
  case silence =>
    obtain hx | rfl := List.mem_or_eq_of_mem_set hx
    · exact hs.peers.silence x hx q hq
    · cases hq
      exact hsilence p hs
  case lost =>
    obtain hx | rfl := List.mem_or_eq_of_mem_set hx
    · exact hs.peers.lost x hx q hq
    · cases hq
      exact hlost p hs

/-- A peer record means that the receivers are on (R147). -/
theorem receives_of_peer {n : Station} {r : PeerRecord} (hs : s.Sound) (hr : s.peer n = some r) :
    s.node.mode.receives = true := by
  cases h : s.node.mode.receives with
  | true => rfl
  | false =>
    have hnone := hs.station.peers h
    simp only [State.peer] at hr
    split at hr
    · rw [List.getD_eq_getElem?_getD] at hr
      cases hget : s.peers[n.toNat - 1]? with
      | none => simp [hget] at hr
      | some x =>
        have := hnone x (List.mem_of_getElem? hget)
        simp [hget, this] at hr
    · cases hr

theorem peer_mem {n : Station} {r : PeerRecord} (hr : s.peer n = some r) : some r ∈ s.peers := by
  simp only [State.peer] at hr
  split at hr
  · rw [List.getD_eq_getElem?_getD] at hr
    cases hget : s.peers[n.toNat - 1]? with
    | none => simp [hget] at hr
    | some x =>
      obtain rfl : x = some r := by simpa [hget] using hr
      exact List.mem_of_getElem? hget
  · cases hr

theorem number_ne_of_peer {n : Station} {r : PeerRecord} (hs : s.Sound) (hr : s.peer n = some r) :
    s.node.number ≠ some n := fun h => by simp [hs.peers.own n h] at hr

end Sys2Proof.Keep

/-! PROOF. The shift calendar (R107 to R111): the shift starts as a progression, the calendar of a mill time from the
number of starts at or before it, and what the calendar's work and the clock's steps keep. -/

namespace Sys2Proof.Keep

open Sys2Proof.Machine Sys2Proof.Claims

/-! ### The shift starts -/

section Starts

variable {p : ShiftPattern}

theorem seconds_mul_perDay (h1 : 1 ≤ p.perDay) (h4 : p.perDay ≤ 4) : p.seconds * p.perDay = 86400 := by
  obtain h | h | h | h : p.perDay = 1 ∨ p.perDay = 2 ∨ p.perDay = 3 ∨ p.perDay = 4 := by omega
  all_goals simp [ShiftPattern.seconds, ShiftPattern.length, h]

theorem seconds_ge (h1 : 1 ≤ p.perDay) (h4 : p.perDay ≤ 4) : 21600 ≤ p.seconds := by
  obtain h | h | h | h : p.perDay = 1 ∨ p.perDay = 2 ∨ p.perDay = 3 ∨ p.perDay = 4 := by omega
  all_goals simp [ShiftPattern.seconds, ShiftPattern.length, h]

/-- The shift starts are the first one and every shift length after it. -/
theorem isStart_iff (t : Nat) : p.isStart t = true ↔ ∃ k, t = 60 * p.firstStart + k * p.seconds := by
  simp only [ShiftPattern.isStart, Bool.and_eq_true, decide_eq_true_eq, beq_iff_eq]
  constructor
  · rintro ⟨hle, hmod⟩
    obtain ⟨k, hk⟩ := Nat.dvd_of_mod_eq_zero hmod
    exact ⟨k, by rw [Nat.mul_comm k]; omega⟩
  · rintro ⟨k, rfl⟩
    exact ⟨by omega, by simp⟩

/-- How the number of starts at or before a mill time tells where the mill time stands. -/
theorem starts_le_iff (hq : 0 < p.seconds) (t n : Nat) :
    p.starts t ≤ n ↔ t < 60 * p.firstStart + n * p.seconds := by
  unfold ShiftPattern.starts
  split
  · next h => exact ⟨fun _ => by omega, fun _ => Nat.zero_le n⟩
  · next h =>
    rw [Nat.succ_le_iff, Nat.div_lt_iff_lt_mul hq]
    omega

theorem nextStart_eq (t : Nat) : p.nextStart t = 60 * p.firstStart + p.starts t * p.seconds := by
  unfold ShiftPattern.nextStart ShiftPattern.starts
  split <;> simp

theorem nextStart_isStart (t : Nat) : p.isStart (p.nextStart t) = true :=
  (isStart_iff _).mpr ⟨p.starts t, nextStart_eq t⟩

theorem lt_nextStart (hq : 0 < p.seconds) (t : Nat) : t < p.nextStart t := by
  rw [nextStart_eq]
  exact (starts_le_iff hq t _).mp (Nat.le_refl _)

theorem nextStart_le (hq : 0 < p.seconds) {t S : Nat} (hS : p.isStart S = true) (ht : t < S) : p.nextStart t ≤ S := by
  obtain ⟨k, rfl⟩ := (isStart_iff S).mp hS
  rw [nextStart_eq]
  have hk : p.starts t ≤ k := (starts_le_iff hq t k).mpr ht
  have := Nat.mul_le_mul_right p.seconds hk
  omega

/-- Some starts lie after one mill time and at or before another exactly where the number of starts rises. -/
theorem starts_lt_iff (hq : 0 < p.seconds) (t0 t1 : Nat) :
    p.starts t0 < p.starts t1 ↔ ∃ S, p.isStart S = true ∧ t0 < S ∧ S ≤ t1 := by
  have hnext : p.starts t0 < p.starts t1 ↔ p.nextStart t0 ≤ t1 := by
    have := starts_le_iff hq t1 (p.starts t0)
    rw [nextStart_eq]
    omega
  rw [hnext]
  exact ⟨fun h => ⟨_, nextStart_isStart t0, lt_nextStart hq t0, h⟩,
    fun ⟨S, hS, hlt, hle⟩ => Nat.le_trans (nextStart_le hq hS hlt) hle⟩

theorem starts_mono (hq : 0 < p.seconds) {t0 t1 : Nat} (h : t0 ≤ t1) : p.starts t0 ≤ p.starts t1 :=
  (starts_le_iff hq t0 _).mpr (Nat.lt_of_le_of_lt h ((starts_le_iff hq t1 _).mp (Nat.le_refl _)))

/-- The shift number is the number of starts at or before a mill time (R108): whole days hold whole shifts. -/
theorem shiftOf_eq_starts (h1 : 1 ≤ p.perDay) (h4 : p.perDay ≤ 4) (t : Nat) : p.shiftOf t = p.starts t := by
  unfold ShiftPattern.shiftOf ShiftPattern.starts
  split
  · rfl
  · obtain h | h | h | h : p.perDay = 1 ∨ p.perDay = 2 ∨ p.perDay = 3 ∨ p.perDay = 4 := by omega
    all_goals
      simp only [ShiftPattern.seconds, ShiftPattern.length, h]
      omega

/-- In lead: some start lies after a mill time, within the lead of it (R108). -/
theorem inLead_iff (hq : 0 < p.seconds) (t : Nat) :
    p.inLead t = true ↔ ∃ S, p.isStart S = true ∧ t < S ∧ S ≤ t + 60 * p.lead := by
  simp only [ShiftPattern.inLead, decide_eq_true_eq]
  exact ⟨fun h => ⟨_, nextStart_isStart t, lt_nextStart hq t, h⟩,
    fun ⟨S, hS, hlt, hle⟩ => Nat.le_trans (nextStart_le hq hS hlt) hle⟩

theorem isOverdue_iff (t : Nat) : p.isOverdue t = true ↔ ∃ S, p.isStart S = true ∧ t = S + 60 * p.grace := by
  simp only [ShiftPattern.isOverdue, Bool.and_eq_true, decide_eq_true_eq]
  exact ⟨fun ⟨hle, hS⟩ => ⟨_, hS, by omega⟩, fun ⟨S, hS, e⟩ => ⟨by omega, by rwa [e, Nat.add_sub_cancel]⟩⟩

end Starts

/-! ### The calendar of a mill time -/

section Clock

variable {k : Clock}

theorem seconds_pos (hk : ClockSound k) : 0 < k.pattern.seconds := by
  have := seconds_ge hk.perDay.1 hk.perDay.2
  omega

/-- At a due instant that is no start, the station is in lead (R109). -/
theorem inLead_of_due (hk : ClockSound k) {t : Nat} (hdue : k.pattern.isDue t = true)
    (hstart : k.pattern.isStart t = false) : k.pattern.inLead t = true := by
  refine (inLead_iff (seconds_pos hk) t).mpr ⟨t + 60 * k.pattern.lead, hdue, ?_, Nat.le_refl _⟩
  refine Classical.byContradiction fun h => ?_
  have hzero : 60 * k.pattern.lead = 0 := by omega
  rw [ShiftPattern.isDue, hzero, Nat.add_zero, hstart] at hdue
  cases hdue

/-- A shift is longer than any lead, so that no start is in the lead of another (R107). -/
theorem not_inLead_of_start (hk : ClockSound k) {t : Nat} (hstart : k.pattern.isStart t = true) :
    k.pattern.inLead t = false := by
  rw [← Bool.not_eq_true, inLead_iff (seconds_pos hk)]
  rintro ⟨S, hS, hlt, hle⟩
  obtain ⟨i, rfl⟩ := (isStart_iff t).mp hstart
  obtain ⟨j, rfl⟩ := (isStart_iff S).mp hS
  have hlead := hk.lead
  have hlong := seconds_ge hk.perDay.1 hk.perDay.2
  have hij : i < j := by
    refine Classical.byContradiction fun h => ?_
    have := Nat.mul_le_mul_right k.pattern.seconds (Nat.le_of_not_lt h)
    omega
  have hstep : (i + 1) * k.pattern.seconds ≤ j * k.pattern.seconds := Nat.mul_le_mul_right _ hij
  rw [Nat.succ_mul] at hstep
  omega

/-- From one second to the next the shift number changes only at a start. -/
theorem shiftOf_succ (hk : ClockSound k) {t : Nat} (hstart : k.pattern.isStart (t + 1) = false) :
    k.pattern.shiftOf (t + 1) = k.pattern.shiftOf t := by
  rw [shiftOf_eq_starts hk.perDay.1 hk.perDay.2, shiftOf_eq_starts hk.perDay.1 hk.perDay.2]
  have hmono : k.pattern.starts t ≤ k.pattern.starts (t + 1) := starts_mono (seconds_pos hk) (Nat.le_succ t)
  refine Classical.byContradiction fun h => ?_
  obtain ⟨S, hS, hlt, hle⟩ := (starts_lt_iff (seconds_pos hk) t (t + 1)).mp (by omega)
  rw [show S = t + 1 by omega, hstart] at hS
  cases hS

/-- From one second to the next the lead state changes only at a start or at a due instant. -/
theorem inLead_succ (hk : ClockSound k) {t : Nat} (hdue : k.pattern.isDue (t + 1) = false)
    (hstart : k.pattern.isStart (t + 1) = false) : k.pattern.inLead (t + 1) = k.pattern.inLead t := by
  rw [Bool.eq_iff_iff, inLead_iff (seconds_pos hk), inLead_iff (seconds_pos hk)]
  constructor
  · rintro ⟨S, hS, hlt, hle⟩
    refine ⟨S, hS, by omega, ?_⟩
    refine Classical.byContradiction fun h => ?_
    rw [ShiftPattern.isDue, show t + 1 + 60 * k.pattern.lead = S by omega, hS] at hdue
    cases hdue
  · rintro ⟨S, hS, hlt, hle⟩
    refine ⟨S, hS, ?_, by omega⟩
    refine Classical.byContradiction fun h => ?_
    rw [show t + 1 = S by omega, hS] at hstart
    cases hstart

end Clock

/-! ### The calendar's work of the last second event -/

variable {c : Instr} {P : Prop} {s t u : State}

theorem Keeps.mark_fire (h : Keeps c P s t) (b : Bool) :
    Keeps c P s { t with handover := { t.handover with fireBySecond := b } } :=
  h.trans (.handover_same _ rfl rfl)

/-- Work of a second event keeps what it keeps without the mark of a firing. -/
theorem Keeps.bySecond {f : State → State} (h : Keeps c P s (f u)) : Keeps c P s (u.bySecond f) := by
  unfold State.bySecond
  exact .ite (fun _ => h.mark_fire true) fun _ => h

theorem Keeps.startNotice : Keeps c P s s.startNotice := by
  unfold State.startNotice
  split
  · exact .ite (fun _ => .handover_same _ rfl rfl) fun _ => .refl c P s
  · exact .refl c P s
  · exact .refl c P s

theorem Keeps.reachSchedule : Keeps c P s s.reachSchedule := by
  unfold State.reachSchedule
  split
  · exact .ite (fun _ => .handover_same _ rfl rfl) fun _ => .refl c P s
  · exact .refl c P s
  · exact .refl c P s

/-- A clock with another shift number, lead state or overdue flag is in its ranges as before. -/
theorem clockSound_calendar {k : Clock} (hk : ClockSound k) (shift : Nat) (inLead overdue : Bool) :
    ClockSound { k with shift := shift, inLead := inLead, overdue := overdue } :=
  ⟨hk.mill, hk.phase, hk.trim, hk.perDay, hk.first, hk.lead, hk.grace⟩

theorem Keeps.dueWork : Keeps c P s s.dueWork := by
  refine .ite (fun hdue => ?_) fun _ => .refl c P s
  have hclock : Keeps c P s { s with
      clock := { s.clock with inLead := true }, second := { s.second with due := false } } :=
    .clock _ _ rfl rfl fun _ hs => ⟨clockSound_calendar hs.clock _ _ _, ⟨hs.calendar.shift, fun _ hstart => ?lead,
      hs.calendar.start, nofun, nofun⟩⟩
  case lead =>
    have hnone : s.clock.pattern.isStart s.clock.millTime = false := by
      refine Classical.byContradiction fun h => ?_
      rw [hs.calendar.pair hdue (by simpa using h)] at hstart
      cases hstart
    exact (inLead_of_due hs.clock (hs.calendar.due hdue) hnone).symm
  exact hclock.trans (.latchIf _ _)

theorem dueWork_due (s : State) : s.dueWork.second.due = false := by
  unfold State.dueWork
  split
  · simp
  · next h => simpa using h

theorem Keeps.startWork : Keeps c P s s.startWork := by
  refine Keeps.dueWork.trans (.ite (fun hstart => ?_) fun _ => .refl c P _)
  refine .bySecond ?_
  have hclock : Keeps c P s.dueWork { s.dueWork with
      clock := { s.dueWork.clock with
        shift := s.dueWork.clock.pattern.shiftOf s.dueWork.clock.millTime, inLead := false }
      second := { s.dueWork.second with start := false } } :=
    .clock _ _ rfl rfl fun _ hs => ⟨clockSound_calendar hs.clock _ _ _, ⟨fun _ => rfl,
      fun _ _ => (not_inLead_of_start hs.clock (hs.calendar.start hstart)).symm, nofun,
      hs.calendar.due, fun h => (by simp [dueWork_due] at h)⟩⟩
  exact hclock.trans .startNotice

theorem startWork_marks (s : State) : s.startWork.second.due = false ∧ s.startWork.second.start = false := by
  unfold State.startWork
  split
  · simp [dueWork_due]
  · next h => exact ⟨dueWork_due s, by simpa using h⟩

theorem Keeps.testOverdue : Keeps c P s s.testOverdue := by
  unfold State.testOverdue
  exact .ite (fun _ => (Keeps.clock_overdue true).trans (.latch _)) fun _ => .refl c P s

theorem Keeps.overdueWork : Keeps c P s s.overdueWork := by
  refine Keeps.startWork.trans (.ite (fun _ => ?_) fun _ => .refl c P _)
  exact (Keeps.second { s.startWork.second with overdue := false } fun hs => calendarSound_of_view hs rfl).trans .testOverdue

theorem overdueWork_marks (s : State) : s.overdueWork.second.due = false ∧ s.overdueWork.second.start = false := by
  unfold State.overdueWork
  split
  · simpa using startWork_marks s
  · exact startWork_marks s

theorem Keeps.scheduleWork : Keeps c P s s.scheduleWork := by
  unfold State.scheduleWork
  refine .ite (fun _ => .bySecond ?_) fun _ => .refl c P s
  exact (Keeps.second { s.second with schedule := false } fun hs => calendarSound_of_view hs rfl).trans .reachSchedule

theorem scheduleWork_marks (s : State) :
    s.scheduleWork.second.due = s.second.due ∧ s.scheduleWork.second.start = s.second.start := by
  unfold State.scheduleWork
  split <;> simp

theorem Keeps.finishCalendar : Keeps c P s s.finishCalendar := Keeps.overdueWork.trans .scheduleWork

theorem finishCalendar_marks (s : State) :
    s.finishCalendar.second.due = false ∧ s.finishCalendar.second.start = false := by
  have h := overdueWork_marks s
  have h' := scheduleWork_marks s.overdueWork
  exact ⟨h'.1.trans h.1, h'.2.trans h.2⟩

/-! ### Clock steps -/

/-- With no instant marked, the calendar is that of mill time where shift number and lead state are. -/
theorem calendarSound_of_marks (hdue : s.second.due = false) (hstart : s.second.start = false)
    (hshift : s.clock.shift = s.clock.pattern.shiftOf s.clock.millTime)
    (hlead : s.clock.inLead = s.clock.pattern.inLead s.clock.millTime) : CalendarSound s :=
  ⟨fun _ => hshift, fun _ _ => hlead, fun h => (by simp [hstart] at h),
    fun h => (by simp [hdue] at h), fun h => (by simp [hdue] at h)⟩

theorem clockSound_millTime {k : Clock} (hk : ClockSound k) {t : Nat} (ht : t ≤ Config.lastMillTime) (shift : Nat)
    (inLead overdue : Bool) :
    ClockSound { k with millTime := t, shift := shift, inLead := inLead, overdue := overdue } :=
  ⟨ht, hk.phase, hk.trim, hk.perDay, hk.first, hk.lead, hk.grace⟩

theorem Keeps.backwardStep {t1 : Nat} (ht : t1 ≤ Config.lastMillTime) (hdue : s.second.due = false)
    (hstart : s.second.start = false) : Keeps c P s (s.backwardStep t1) :=
  Keeps.clock { s.clock with
      millTime := t1, shift := s.clock.pattern.shiftOf t1, inLead := s.clock.pattern.inLead t1 } s.second rfl rfl
    fun _ hs => ⟨clockSound_millTime hs.clock ht _ _ _, calendarSound_of_marks hdue hstart rfl rfl⟩

theorem setClock_latchIf (s : State) (g : Clock → Clock) (b : Bool) (f : Flag) :
    (s.latchIf b f).setClock g = (s.setClock g).latchIf b f := by
  unfold State.latchIf
  split <;> rfl

theorem setClock_startNotice (s : State) (g : Clock → Clock) :
    s.startNotice.setClock g = (s.setClock g).startNotice := by
  unfold State.startNotice
  rw [show (s.setClock g).handover = s.handover from rfl]
  split
  · split <;> rfl
  · rfl
  · rfl

theorem setClock_testOverdue (s : State) (t : Nat) :
    s.testOverdue.setClock (fun c => { c with inLead := c.pattern.inLead t }) =
      (s.setClock fun c => { c with inLead := c.pattern.inLead t }).testOverdue := by
  unfold State.testOverdue
  rw [show (s.setClock fun c => { c with inLead := c.pattern.inLead t }).isOverdue = s.isOverdue from rfl]
  split <;> rfl

/-- A forward step that crosses no start leaves the shift number that of mill time. -/
theorem shiftOf_of_not_crosses {k : Clock} (hk : ClockSound k) {t0 t1 : Nat} (hle : t0 ≤ t1)
    (h : k.pattern.crossesStart t0 t1 = false) : k.pattern.shiftOf t1 = k.pattern.shiftOf t0 := by
  rw [shiftOf_eq_starts hk.perDay.1 hk.perDay.2, shiftOf_eq_starts hk.perDay.1 hk.perDay.2]
  have hmono := starts_mono (seconds_pos hk) hle
  have hnot : ¬k.pattern.starts t0 < k.pattern.starts t1 := by
    simpa [ShiftPattern.crossesStart] using h
  omega

/-- A forward step puts the calendar of the new mill time in place, and fires beside it. -/
theorem forwardStep_eq (s : State) (t0 t1 : Nat)
    (h : s.clock.pattern.crossesStart t0 t1 = false → s.clock.shift = s.clock.pattern.shiftOf t1) :
    s.forwardStep t0 t1 =
      (let p := s.clock.pattern
       let s2 := (s.backwardStep t1).latchIf (p.crossesDue t0 t1 && s.seated) .handoverDue
       let s3 := if p.crossesStart t0 t1 then s2.startNotice else s2
       (if p.crossesOverdue t0 t1 then s3.testOverdue else s3).reachSchedule) := by
  have hwhole : ∀ b : Bool, s.clock.pattern.crossesStart t0 t1 = b →
      (if b = true then
          (((s.setClock fun c => { c with millTime := t1 }).latchIf
            (s.clock.pattern.crossesDue t0 t1 && s.seated) .handoverDue).setClock
              fun c => { c with shift := c.pattern.shiftOf t1 }).startNotice
        else (s.setClock fun c => { c with millTime := t1 }).latchIf
            (s.clock.pattern.crossesDue t0 t1 && s.seated) .handoverDue).setClock
          (fun c => { c with inLead := c.pattern.inLead t1 }) =
        if b = true then
          ((s.backwardStep t1).latchIf (s.clock.pattern.crossesDue t0 t1 && s.seated) .handoverDue).startNotice
        else (s.backwardStep t1).latchIf (s.clock.pattern.crossesDue t0 t1 && s.seated) .handoverDue := by
    intro b hb
    cases b with
    | true =>
      simp only [if_true, setClock_startNotice, setClock_latchIf]
      rfl
    | false =>
      simp only [Bool.false_eq_true, if_false, setClock_latchIf]
      congr 1
      unfold State.backwardStep State.recompute State.setClock
      simp only [h hb]
  unfold State.forwardStep
  dsimp only
  congr 1
  have hsame := hwhole _ rfl
  rw [← hsame, ← setClock_testOverdue]
  show State.setClock _ (if s.clock.pattern.crossesOverdue t0 t1 = true then State.testOverdue _ else _) = _
  split <;> rfl

/-- What a step of the clock keeps beside soundness, the calendar standing in between where no rule reads it. -/
theorem Keeps.forwardStep_rest (t0 t1 : Nat) : Keeps c False s (s.forwardStep t0 t1) := by
  have hclock : ∀ (u : State) (f : Clock → Clock), (f u.clock).now = u.clock.now →
      (f u.clock).pattern = u.clock.pattern → Keeps c False u (u.setClock f) :=
    fun u f hnow hpattern => Keeps.clock (f u.clock) u.second hnow hpattern nofun
  unfold State.forwardStep
  have hstart := ((hclock s (fun c => { c with millTime := t1 }) rfl rfl).trans
    (.latchIf (s.clock.pattern.crossesDue t0 t1 && s.seated) .handoverDue)).orElse
    (b := s.clock.pattern.crossesStart t0 t1 = true) fun _ =>
      (hclock _ (fun c => { c with shift := c.pattern.shiftOf t1 }) rfl rfl).trans .startNotice
  exact ((hstart.orElse fun _ => .testOverdue).trans (hclock _ _ rfl rfl)).trans .reachSchedule

theorem Keeps.forwardStep {t1 : Nat} (hle : s.clock.millTime ≤ t1) (ht : t1 ≤ Config.lastMillTime)
    (hdue : s.second.due = false) (hstart : s.second.start = false) :
    Keeps c P s (s.forwardStep s.clock.millTime t1) := by
  refine { Keeps.forwardStep_rest (c := c) s.clock.millTime t1 with sound := fun p hs => ?_ }
  rw [forwardStep_eq s _ _ fun h => (hs.calendar.shift hstart).trans (shiftOf_of_not_crosses hs.clock hle h).symm]
  refine Keeps.sound (c := c) (P := P) ?_ p hs
  have hlatched := (Keeps.backwardStep (c := c) (P := P) ht hdue hstart).trans
    (.latchIf (s.clock.pattern.crossesDue s.clock.millTime t1 && s.seated) .handoverDue)
  exact ((hlatched.orElse fun _ => .startNotice).orElse fun _ => .testOverdue).trans .reachSchedule

/-- A clock set to a mill time within the calendar (R105, R111). -/
theorem Keeps.stepClock {t1 : Nat} (ht : t1 ≤ Config.lastMillTime) : Keeps c P s (s.stepClock t1) := by
  obtain ⟨hdue, hstart⟩ := finishCalendar_marks s
  refine Keeps.finishCalendar.trans (.ite (fun h => ?_) fun _ => .ite (fun _ => ?_) fun _ => .refl ..)
  · exact .forwardStep (Nat.le_of_lt h) ht hdue hstart
  · exact .backwardStep ht hdue hstart

/-- A sound calendar of the mill time that a second event reaches: the marks stand for what changes there (R109). -/
theorem markInstants_calendarSound (hk : ClockSound s.clock) (hc : CalendarSound s) (hdue : s.second.due = false)
    (hstart : s.second.start = false) : CalendarSound (s.setClock Clock.advance).markInstants := by
  unfold State.markInstants
  split
  · exact calendarSound_of_marks hdue hstart rfl rfl
  · next hwrap =>
    have hmill : (s.setClock Clock.advance).clock.millTime = s.clock.millTime + 1 := by
      simp only [State.setClock_eq, Clock.advance] at hwrap ⊢
      split at hwrap <;> simp_all
    rw [hmill]
    refine ⟨fun h => ?_, fun h h' => ?_, fun h => ?_, fun h => ?_, fun _ h => ?_⟩
    · show s.clock.shift = s.clock.pattern.shiftOf (s.setClock Clock.advance).clock.millTime
      rw [hmill, shiftOf_succ hk h]
      exact hc.shift hstart
    · show s.clock.inLead = s.clock.pattern.inLead (s.setClock Clock.advance).clock.millTime
      rw [hmill, inLead_succ hk h h']
      exact hc.lead hdue hstart
    · exact hmill ▸ h
    · exact hmill ▸ h
    · exact hmill ▸ h

theorem clockSound_advance {k : Clock} (hk : ClockSound k) : ClockSound k.advance := by
  refine ⟨?_, ?_, hk.trim, hk.perDay, hk.first, hk.lead, hk.grace⟩
  · have hlast := hk.mill
    simp only [Clock.advance]
    split <;> omega
  · simp only [Clock.advance]
    omega

end Sys2Proof.Keep

/-! PROOF. What a change of the area table keeps (R53 to R60, R86 to R90): a change of the load fields alone, and a
change of one area's hold fields with its hand-on to window, routing and offers (R89). -/

namespace Sys2Proof.Keep

open Sys2Proof.Machine Sys2Proof.Claims

variable {c : Instr} {P : Prop} {s t : State}

/-! ### Reading the table after a change -/

/-- A field that a change of the table leaves reads the same in every area. -/
theorem area_eq_of_map {α : Type} {f : Area → α} {x : List Area} (h : x.map f = s.areas.map f) (a : Nat) :
    f (State.area { s with areas := x } a) = f (s.area a) := by
  have hget := congrArg (fun l => l.getD a (f .initial)) h
  rw [getD_map, getD_map] at hget
  exact hget

/-- A field that one area's new record leaves is left in the whole table. -/
theorem map_set_area {α : Type} {f : Area → α} {a : Nat} {r : Area} (h : f r = f (s.area a)) :
    (s.areas.set a r).map f = s.areas.map f := by
  by_cases ha : a < s.areas.length
  · have hget : f (s.area a) = (s.areas.map f)[a]'(by simpa using ha) := by simp [State.area, ha]
    rw [List.map_set, h, hget, List.set_getElem_self]
  · rw [List.set_eq_of_length_le (Nat.le_of_not_lt ha)]

/-- Who holds an area, and what routing and window make of it, depends on hold status and configuration alone. -/
theorem holds_of_map {x : List Area} (h : x.map Area.hold = s.areas.map Area.hold) :
    State.holds { s with areas := x } = s.holds := by
  funext a
  unfold State.holds
  rw [area_eq_of_map h]
  rfl

theorem scoped_of_holds {x : List Area} (h : State.holds { s with areas := x } = s.holds) :
    State.scoped { s with areas := x } = s.scoped := by
  unfold State.scoped
  congr 1
  funext r
  unfold State.admits
  rw [h]

theorem routed_of_map {x : List Area} (hconfig : x.map Area.config = s.areas.map Area.config)
    (hhold : x.map Area.hold = s.areas.map Area.hold) : State.routed { s with areas := x } = s.routed := by
  funext r
  unfold State.routed State.isStandby
  dsimp only
  rw [area_eq_of_map hconfig, area_eq_of_map hhold]
  rfl

/-! ### The load fields -/

/-- A change of the load fields (R57, R58): configuration, hold status and serial stay. -/
theorem Keeps.areas (x : List Area) (hconfig : x.map Area.config = s.areas.map Area.config)
    (hhold : x.map Area.hold = s.areas.map Area.hold) (hserial : x.map Area.serial = s.areas.map Area.serial)
    (hloads : P → s.Sound → (∀ r ∈ x, r.LoadSound) ∧ (s.node.mode = .config → ∀ r ∈ x, r.load = 0 ∧ r.flood = false)) :
    Keeps c P s { s with areas := x } where
  sound := fun p hs => by
    obtain ⟨hsound, hzero⟩ := hloads p hs
    have hholds := holds_of_map hhold
    have hrouted := routed_of_map hconfig hhold
    refine ⟨hs.list, hsound, queuesSound_of_view hs.queues rfl, hs.clock, calendarSound_of_view hs.calendar rfl,
      windowSound_of_view hs.window ?_, hs.port, peersSound_of_view hs.peers rfl,
      ⟨?length, hs.station.sending, hs.station.list, hs.station.peers, fun h r hr => ?unheld, hzero⟩,
      annunciatorSound_of_view hs.output ?_, handoverSound_of_view hs.handover ?_⟩
    · simp only [windowView, scoped_of_holds hholds]
    case length => exact (by simpa using congrArg List.length hhold : x.length = s.areas.length).trans hs.station.areas
    case unheld =>
      have hmem : r.hold ∈ s.areas.map Area.hold := hhold ▸ List.mem_map_of_mem hr
      obtain ⟨y, hy, hyr⟩ := List.mem_map.mp hmem
      exact hyr ▸ hs.station.holds h y hy
    · simp only [outputView, State.routedUnack, State.routedAck, hrouted]
    · simp only [handoverView, hholds]
  live := id
  locked := fun h => ⟨h, hconfig, rfl, rfl, rfl, rfl⟩
  flags := .inr fun _ => id
  serials := fun a => Nat.le_of_eq (congrArg BitVec.toNat (area_eq_of_map hserial a).symm)
  now := .inr rfl
  sending := .inr id
  started := id
  pending := rfl

theorem floodTest_fields (r : Area) :
    r.floodTest.config = r.config ∧ r.floodTest.hold = r.hold ∧ r.floodTest.serial = r.serial := by
  unfold Area.floodTest
  split <;> simp

/-- The raise addition of an area that is configured here (R57); nothing raises in CONFIG. -/
theorem Keeps.addLoad (p : Priority) {a : Nat} {k : AreaConfig} (hk : (s.area a).config = some k)
    (hlive : P → s.node.mode.receives = true) : Keeps c P s (s.addLoad p a) := by
  obtain ⟨hconfig, hhold, hserial⟩ := floodTest_fields { s.area a with load := min 65535 ((s.area a).load + p.weight) }
  have hset : Keeps c P s (s.setArea a ((s.area a).addLoad p)) :=
    .areas _ (map_set_area hconfig) (map_set_area hhold) (map_set_area hserial) fun hp hs =>
      ⟨LoadsSound.setArea hs.loads a (addLoad_loadSound p hk (LoadsSound.area hs.loads a)),
        fun h => by have := hlive hp; rw [h] at this; cases this⟩
  exact hset.trans (.latchIf _ _)

/-- The decay of a load of 0 leaves it (R58). -/
theorem decay_zero {r : Area} (hr : r.LoadSound) (hload : r.load = 0) (hflood : r.flood = false) :
    r.decay.load = 0 ∧ r.decay.flood = false := by
  unfold Area.decay Area.floodTest
  split
  · exact ⟨by simp [hload], hflood⟩
  · next k hk =>
    have hlevels := levels_of_loadSound (r := r) hk hr
    refine ⟨by simp [hload], ?_⟩
    simp only [hflood, hload, Bool.false_eq_true, if_false, decide_eq_false_iff_not]
    omega

theorem Keeps.decayAll : Keeps c P s s.decayAll := by
  have hfield : ∀ {α : Type} (f : Area → α), (∀ r : Area, f r.decay = f r) →
      (s.areas.map Area.decay).map f = s.areas.map f := fun f h => by
    rw [List.map_map]
    exact List.map_congr_left fun r _ => h r
  have hareas : Keeps c P s { s with areas := s.areas.map Area.decay } :=
    .areas _ (hfield _ fun r => (floodTest_fields _).1) (hfield _ fun r => (floodTest_fields _).2.1)
      (hfield _ fun r => (floodTest_fields _).2.2) fun _ hs => by
        refine ⟨fun r hr => ?_, fun h r hr => ?_⟩
        all_goals obtain ⟨y, hy, rfl⟩ := List.mem_map.mp hr
        · exact decay_loadSound (hs.loads y hy)
        · obtain ⟨hload, hflood⟩ := hs.station.loads h y hy
          exact decay_zero (hs.loads y hy) hload hflood
  have hmark : Keeps c P { s with areas := s.areas.map Area.decay }
      { s with areas := s.areas.map Area.decay, second := { s.second with
          floodEnded := areaSetOf fun a => (s.area a).flood && !((s.area a).decay).flood } } :=
    .second _ fun hs => calendarSound_of_view hs rfl
  exact (hareas.trans hmark).trans (.latchIf _ _)

/-! ### The hold fields (R89) -/

/-- Hold fields put in place and handed on to window and routing, without the area-lost notice. -/
def withHold (a : Nat) (h : Hold) (serial : Half) (s : State) : State :=
  let put := fun (x : State) => x.setArea a { x.area a with hold := h, serial := serial }
  { s with
    areas := s.areas.set a { s.area a with hold := h, serial := serial }
    window := if s.holds a != (put s).holds a && s.window.scope == .held then (s.throughWindow put).window else s.window
    picture := if h.holderStatus != (s.area a).hold.holderStatus then (put s).reroute.picture else s.picture }

theorem setHold_eq (s : State) (a : Nat) (h : Hold) (serial : Half) : s.setHold a h serial =
    if s.holds a && (s.holds a != (withHold a h serial s).holds a) then (withHold a h serial s).areaLost a
    else withHold a h serial s := by
  have hput : (if h.holderStatus != (s.area a).hold.holderStatus then
      (if s.holds a != (withHold a h serial s).holds a && s.window.scope == .held then
        s.throughWindow fun x => x.setArea a { x.area a with hold := h, serial := serial }
      else s.setArea a { s.area a with hold := h, serial := serial }).reroute
      else if s.holds a != (withHold a h serial s).holds a && s.window.scope == .held then
        s.throughWindow fun x => x.setArea a { x.area a with hold := h, serial := serial }
      else s.setArea a { s.area a with hold := h, serial := serial }) = withHold a h serial s := by
    have hholds : (withHold a h serial s).holds a =
        (s.setArea a { s.area a with hold := h, serial := serial }).holds a := rfl
    rw [hholds]
    unfold withHold
    dsimp only
    split
    · split <;> rfl
    · split <;> rfl
  exact congrArg (fun x : State =>
    if s.holds a && (s.holds a != (withHold a h serial s).holds a) then x.areaLost a else x) hput

/-- The area-lost notice looks at nothing that the hold fields and their hand-on change. -/
theorem areaLost_withHold (s : State) (a : Nat) (h : Hold) (serial : Half) :
    (withHold a h serial s).areaLost a = withHold a h serial (s.areaLost a) := by
  have hdrop : ∀ (u : State) (o : OutOffer) (e : OfferEnd),
      (withHold a h serial u).dropOffer o e = withHold a h serial (u.dropOffer o e) := by
    intro u o e
    unfold State.dropOffer State.endSeat State.endOut State.queueIfRoom
    rw [show (withHold a h serial u).isOwn = u.isOwn from rfl, show (withHold a h serial u).hasRoom = u.hasRoom from rfl]
    split
    · cases seatFlag e <;> rfl
    · split <;> cases outFlag e <;> rfl
  unfold State.areaLost
  rw [show (withHold a h serial s).handover = s.handover from rfl,
    show (withHold a h serial s).isOwn = s.isOwn from rfl]
  split
  · rfl
  · dsimp only
    split
    · exact hdrop { s with handover := { s.handover with rebadge := dropArea s.handover.rebadge a } } _ _
    · rfl
  · rfl

/-- An area that no outgoing offer and no re-badge claim names. -/
def Unoffered (a : Nat) (x : Handover) : Prop :=
  x.rebadge.getLsbD a = false ∧ (∀ o, x.outgoing = .offered o → o.areas.getLsbD a = false) ∧
    ∀ o, x.outgoing = .committing o → o.areas.getLsbD a = false

theorem getLsbD_dropArea (m : AreaSet) (a b : Nat) : (dropArea m a).getLsbD b = (m.getLsbD b && !(a == b)) := by
  unfold dropArea
  rw [BitVec.getLsbD_and, BitVec.getLsbD_not, BitVec.getLsbD_twoPow]
  by_cases hb : b < 32
  · by_cases hab : a = b <;> simp [hb, hab]
  · simp [BitVec.getLsbD_of_ge _ _ (Nat.le_of_not_lt hb)]

theorem areaLost_unoffered (s : State) (a : Nat) : Unoffered a (s.areaLost a).handover := by
  unfold State.areaLost
  split
  · next hout => exact ⟨by simp [getLsbD_dropArea], fun o h => (by simp [hout] at h),
      fun o h => (by simp [hout] at h)⟩
  · next o hout =>
    dsimp only
    split
    · refine ⟨?_, ?_, ?_⟩
      all_goals
        unfold State.dropOffer
        split
      all_goals simp [State.endSeat, State.endOut, getLsbD_dropArea]
    · refine ⟨by simp [getLsbD_dropArea], fun o h => ?_, nofun⟩
      cases h
      simp [getLsbD_dropArea]
  · next o hout =>
    refine ⟨by simp [getLsbD_dropArea], nofun, fun o h => ?_⟩
    cases h
    simp [getLsbD_dropArea]

theorem holds_withHold_other {a b : Nat} (h : Hold) (serial : Half) (s : State) (hab : a ≠ b) :
    (withHold a h serial s).holds b = s.holds b := by
  unfold State.holds
  rw [show (withHold a h serial s).area b = (s.setArea a { s.area a with hold := h, serial := serial }).area b from rfl,
    State.area_setArea_other s a b _ hab]
  rfl

theorem area_withHold_self_or (a : Nat) (h : Hold) (serial : Half) (s : State) :
    (withHold a h serial s).area a = { s.area a with hold := h, serial := serial } ∨
      (withHold a h serial s).area a = s.area a := by
  by_cases ha : a < s.areas.length
  · exact .inl (State.area_setArea_self s a _ ha)
  · refine .inr ?_
    show (s.areas.set a _).getD a .initial = _
    rw [List.set_eq_of_length_le (Nat.le_of_not_lt ha)]
    rfl

theorem config_withHold (a b : Nat) (h : Hold) (serial : Half) (s : State) :
    ((withHold a h serial s).area b).config = (s.area b).config :=
  area_eq_of_map (s := s) (map_set_area (f := Area.config) (r := { s.area a with hold := h, serial := serial }) rfl) b

/-- Routing looks at holder station and hold status only (R14, R89). -/
theorem routed_withHold {a : Nat} {h : Hold} {serial : Half} (hsame : h.holderStatus = (s.area a).hold.holderStatus) :
    (withHold a h serial s).routed = s.routed := by
  have hstatus : ∀ b, ((withHold a h serial s).area b).hold.holderStatus = (s.area b).hold.holderStatus := by
    intro b
    by_cases hab : a = b
    · subst hab
      obtain hself | hself := area_withHold_self_or a h serial s
      all_goals rw [hself]
      exact hsame
    · rw [show (withHold a h serial s).area b = s.area b from State.area_setArea_other s a b _ hab]
  funext r
  have hb := hstatus r.id.area.toNat
  unfold State.routed State.isStandby
  dsimp only
  rw [config_withHold, show (withHold a h serial s).isOwn = s.isOwn from rfl,
    show (withHold a h serial s).rankZero = s.rankZero from rfl]
  cases hnew : ((withHold a h serial s).area r.id.area.toNat).hold
  all_goals
    cases hold : (s.area r.id.area.toNat).hold
    all_goals simp_all [Hold.holderStatus]

/-- The window takes note of a change of the held set where its scope admits by it (R40, R89). -/
theorem scoped_withHold {a : Nat} {h : Hold} {serial : Half}
    (hsame : ¬(s.holds a != (withHold a h serial s).holds a && s.window.scope == .held) = true) :
    (withHold a h serial s).scoped = s.scoped := by
  have hlist : (withHold a h serial s).picture.list = s.picture.list := by
    unfold withHold
    dsimp only
    split <;> rfl
  have hwindow : (withHold a h serial s).window = s.window := if_neg hsame
  unfold State.scoped
  rw [hlist]
  congr 1
  funext r
  unfold State.admits
  rw [hwindow]
  split
  case h_2 hscope =>
    congr 1
    by_cases hab : a = r.id.area.toNat
    · have hsame : s.holds a = (withHold a h serial s).holds a := by simpa [hscope] using hsame
      exact hab ▸ hsame.symm
    · exact holds_withHold_other h serial s hab
  all_goals rfl

/-- Hold fields put in place keep everything where a claim's serial does not fall and no offer names an area that is
held no more. -/
theorem Keeps.putHold {a : Nat} {h : Hold} {serial : Half} (hlive : P → s.Sound → s.node.mode.receives = true)
    (hserial : (s.area a).serial.toNat ≤ serial.toNat)
    (hkept : s.holds a = true → (withHold a h serial s).holds a = false → Unoffered a s.handover) :
    Keeps c P s (withHold a h serial s) where
  sound := fun p hs => by
    have hlist : (withHold a h serial s).picture.list = s.picture.list := by
      unfold withHold
      dsimp only
      split <;> rfl
    have hon := hlive p hs
    have hoff : s.node.mode.receives ≠ false := by simp [hon]
    have hconfig : s.node.mode ≠ .config := fun e => by simp [e, Mode.receives] at hon
    refine ⟨hlist ▸ hs.list, LoadsSound.setArea hs.loads a (loadSound_of_loadFields_eq rfl (LoadsSound.area hs.loads a)),
      queuesSound_of_view hs.queues rfl, hs.clock, calendarSound_of_view hs.calendar rfl, ?window, hs.port,
      peersSound_of_view hs.peers rfl, ⟨?length, hs.station.sending, fun e => absurd e hoff, fun e => absurd e hoff,
        fun e => absurd e hoff, fun e => absurd e hconfig⟩, ?output, ?handover⟩
    case length => exact (State.setArea_length s a _).trans hs.station.areas
    case window =>
      by_cases hmoved : (s.holds a != (withHold a h serial s).holds a && s.window.scope == .held) = true
      · refine windowSound_of_view (throughWindow_windowSound (s := s)
          (f := fun x => x.setArea a { x.area a with hold := h, serial := serial }) hs.window.row) ?_
        have hwindow : (withHold a h serial s).window =
            (s.throughWindow fun x => x.setArea a { x.area a with hold := h, serial := serial }).window := if_pos hmoved
        have hadmits : (withHold a h serial s).admits =
            (s.throughWindow fun x => x.setArea a { x.area a with hold := h, serial := serial }).admits := by
          funext r
          unfold State.admits
          rw [hwindow]
          rfl
        simp only [windowView, State.scoped, hlist, hwindow, hadmits]
        rfl
      · have hwindow : (withHold a h serial s).window = s.window := if_neg hmoved
        exact windowSound_of_view hs.window (by simp only [windowView, scoped_withHold hmoved, hwindow])
    case output =>
      by_cases hstatus : (h.holderStatus != (s.area a).hold.holderStatus) = true
      · refine annunciatorSound_of_view
          (reroute_annunciatorSound (s.setArea a { s.area a with hold := h, serial := serial })) ?_
        unfold withHold
        simp only [if_pos hstatus]
        rfl
      · have hpicture : (withHold a h serial s).picture = s.picture := if_neg hstatus
        have hrouted := routed_withHold (s := s) (a := a) (serial := serial) (h := h) (by simpa using hstatus)
        exact annunciatorSound_of_view hs.output
          (by simp only [outputView, State.routedUnack, State.routedAck, hpicture, hrouted])
    case handover =>
      have hheld : ∀ b, s.holds b = true → (b = a → ¬Unoffered a s.handover) →
          (withHold a h serial s).holds b = true := by
        intro b hb hnamed
        by_cases hab : a = b
        · subst hab
          cases hnew : (withHold a h serial s).holds a with
          | true => rfl
          | false => exact absurd (hkept hb hnew) (hnamed rfl)
        · rw [holds_withHold_other h serial s hab, hb]
      refine ⟨fun b hb => hheld b (hs.handover.rebadge b hb) ?_, fun o ho b hb => hheld b (hs.handover.offered o ho b hb) ?_,
        fun o ho b hb => hheld b (hs.handover.committing o ho b hb) ?_, hs.handover.inactive⟩
      all_goals rintro rfl ⟨hrebadge, hoffered, hcommitting⟩
      · exact Bool.false_ne_true (hrebadge.symm.trans hb)
      · exact Bool.false_ne_true ((hoffered o ho).symm.trans hb)
      · exact Bool.false_ne_true ((hcommitting o ho).symm.trans hb)
  live := id
  locked := fun h => ⟨h, map_set_area rfl, rfl, rfl, rfl, rfl⟩
  flags := .inr fun _ => id
  serials := fun b => by
    by_cases hab : a = b
    · subst hab
      obtain hself | hself := area_withHold_self_or a h serial s
      · rw [hself]
        exact hserial
      · exact Nat.le_of_eq (by rw [hself])
    · have hother : (withHold a h serial s).area b = s.area b := State.area_setArea_other s a b _ hab
      exact Nat.le_of_eq (by rw [hother])
  now := .inr rfl
  sending := .inr id
  started := id
  pending := rfl

/-- The area-lost notice names fewer areas (R124, R127). -/
theorem Keeps.endOut (o : OutOffer) (e : OfferEnd) : Keeps c P s (s.endOut o e) := by
  have hidle : Keeps c P s { s with handover := { s.handover with
      outgoing := .idle, lastOut := some ⟨o.number, o.target, e⟩ } } := .handover_idle _ rfl rfl
  exact hidle.trans (.latchOpt _)

theorem Keeps.endSeat (n : Byte) (e : OfferEnd) : Keeps c P s (s.endSeat n e) := by
  have hidle : Keeps c P s { s with handover := { s.handover with
      outgoing := .idle, incoming := .idle, lastOut := some ⟨n, s.own, e⟩, lastIn := some ⟨n, s.own, e⟩ } } :=
    .handover_idle _ rfl rfl
  exact hidle.trans (.latchOpt _)

theorem Keeps.dropOffer (o : OutOffer) (e : OfferEnd) : Keeps c P s (s.dropOffer o e) := by
  unfold State.dropOffer
  exact .ite (fun _ => .endSeat _ _) fun _ => (Keeps.queueIfRoom _).trans (.endOut _ _)

theorem getLsbD_of_dropArea {m : AreaSet} {a b : Nat} (h : (dropArea m a).getLsbD b = true) : m.getLsbD b = true := by
  rw [getLsbD_dropArea, Bool.and_eq_true] at h
  exact h.1

theorem Keeps.areaLost (a : Nat) : Keeps c P s (s.areaLost a) := by
  have hrebadge : Keeps c P s { s with handover := { s.handover with rebadge := dropArea s.handover.rebadge a } } :=
    .handover _ fun _ hs => ⟨fun b hb => hs.handover.rebadge b (getLsbD_of_dropArea hb), hs.handover.offered,
      hs.handover.committing, fun h => by
        obtain ⟨hidle, hnone⟩ := hs.handover.inactive h
        exact ⟨hidle, by simp [hnone, dropArea]⟩⟩
  unfold State.areaLost
  split
  · exact hrebadge
  · next o hout =>
    refine .ite (fun _ => hrebadge.trans (.dropOffer _ _)) fun _ => hrebadge.trans (.handover _ fun _ hs => ?_)
    refine ⟨hs.handover.rebadge, fun o' h b hb => ?_, nofun, fun h => ?_⟩
    · cases h
      exact hs.handover.offered o hout b (getLsbD_of_dropArea hb)
    · exact absurd ((hs.handover.inactive h).1.symm.trans hout) nofun
  · next o hout =>
    refine hrebadge.trans (.handover _ fun _ hs => ?_)
    refine ⟨hs.handover.rebadge, nofun, fun o' h b hb => ?_, fun h => ?_⟩
    · cases h
      exact hs.handover.committing o hout b (getLsbD_of_dropArea hb)
    · exact absurd ((hs.handover.inactive h).1.symm.trans hout) nofun

/-- R89, for any change that lets no serial fall. -/
theorem Keeps.setHold {a : Nat} {h : Hold} {serial : Half} (hlive : P → s.Sound → s.node.mode.receives = true)
    (hserial : (s.area a).serial.toNat ≤ serial.toNat) : Keeps c P s (s.setHold a h serial) := by
  rw [setHold_eq]
  split
  · next hlost =>
    rw [areaLost_withHold]
    have hlost : Keeps c P s (s.areaLost a) := .areaLost a
    have hareas : (s.areaLost a).areas = s.areas := by simp
    have hput : Keeps c (P ∧ s.node.mode.receives = true) (s.areaLost a) (withHold a h serial (s.areaLost a)) :=
      .putHold (fun hp _ => hlost.live hp.2) (by rwa [show (s.areaLost a).area a = s.area a by simp [State.area]])
        fun _ _ => areaLost_unoffered s a
    exact ((Keeps.areaLost a).trans hput).assuming fun hp hs => ⟨hp, hlive hp hs⟩
  · next hkept =>
    refine .putHold hlive hserial fun hheld hnot => ?_
    simp [hheld, hnot] at hkept

end Sys2Proof.Keep

/-! PROOF. What the picture store's operations keep (chapters 1 and 2): the change entries, acknowledgement, shelving,
shelf expiry and escalation. -/

namespace Sys2Proof.Keep

open Sys2Proof.Machine Sys2Proof.Claims

variable {c : Instr} {P : Prop} {s t : State}

/-! ### Insertion -/

theorem Keeps.insert {r : AlarmRecord} (h : s.insert r = some t) (hlive : P → s.node.mode.receives = true)
    (hid : ∀ x ∈ s.picture.list, x.id ≠ r.id) (hr : r.Sound) : Keeps c P s t := by
  have hset : ∀ u : State, u.node.mode = s.node.mode → (∀ x ∈ u.picture.list, x.id ≠ r.id) →
      (s.picture.list.length ≤ 256 → u.picture.list.length < 256) →
      Keeps c (P ∧ s.picture.list.length ≤ 256) u
        (u.setList (place { r with arrivalSeq := s.picture.arrivals } u.picture.list)) :=
    fun u hmode hnew hroom =>
      .setList _ (fun hp hu => listSound_place hu.list (hroom hp.2) hnew hr) fun hp _ hoff => by
        rw [hmode, hlive hp.1] at hoff
        cases hoff
  refine Keeps.assuming (Q := P ∧ s.picture.list.length ≤ 256) ?_ fun hp hs => ⟨hp, hs.list.capacity⟩
  unfold State.insert at h
  dsimp only at h
  split at h
  · next hroom =>
    cases h
    exact Keeps.freeArrival.trans (hset s.takeArrival rfl hid fun _ => hroom)
  · split at h
    · cases h
    · next e he =>
      cases h
      have hless := length_dropRecord_lt (evictee_some he).1
      refine (Keeps.freeArrival.trans (.drop (s := s.takeArrival) e.id)).trans (hset _ (by simp) ?_ ?_)
      · exact fun x hx => hid x (mem_dropRecord.mp hx).1
      · exact fun hcapacity => Nat.lt_of_lt_of_le hless hcapacity

/-! ### Pending events (R167) -/

theorem Keeps.addPending (e : PendingEvent) : Keeps c P s (s.addPending e) := by
  unfold State.addPending
  refine .ite (fun hroom => .transfer _ fun _ => ?_) fun _ => .trans (.transfer _ fun h => ?_) (.latch _)
  · have : s.transfer.pendingEvents.length < 32 := hroom
    simp only [List.length_append, List.length_singleton]
    omega
  · simp only [List.length_append, List.length_singleton, List.length_tail]
    omega

theorem Keeps.dropPending (id : AlarmId) : Keeps c P s (s.dropPending id) :=
  .transfer _ fun h => Nat.le_trans (List.length_filter_le _ _) h

/-! ### Raises and clears (R3 to R8) -/

theorem Keeps.listFull : Keeps c P s s.listFull := (Keeps.latch _).trans (.setReport _)

theorem newRecord_sound (now : Sec) (t : Station) (id : AlarmId) (p : Priority) (q : Quad) :
    (newRecord now t id p q).Sound := ⟨fun h => by simp [newRecord] at h, fun h => by simp [newRecord] at h⟩

theorem Keeps.newRaise (t : Station) {id : AlarmId} (p : Priority) (q : Quad) (hlive : P → s.node.mode.receives = true)
    (hnew : findRecord id s.picture.list = none) : Keeps c P s (s.newRaise t id p q) := by
  unfold State.newRaise
  dsimp only
  split
  · exact .listFull
  · next u hu =>
    exact (Keeps.insert hu hlive (findRecord_none.mp hnew) (newRecord_sound ..)).trans (.soundFor _ _)

theorem reraised_sound {r : AlarmRecord} (now : Sec) (seq : Quad) (t : Station) (p : Priority) (q : Quad) :
    (r.reraised now seq t p q).Sound := ⟨fun h => by simp [AlarmRecord.reraised] at h,
      fun h => by simp [AlarmRecord.reraised] at h⟩

theorem Keeps.reRaise (t : Station) (p : Priority) (q : Quad) {r : AlarmRecord} (hr : r ∈ s.picture.list) :
    Keeps c P s (s.reRaise t p q r) := by
  unfold State.reRaise
  refine .trans ?_ (.soundFor _ _)
  refine .trans ?_ (.window_view _ rfl)
  exact Keeps.freeArrival.trans (.setList_mem (s := s.takeArrival) hr _ fun hl =>
    listSound_moveRecord hl hr rfl (reraised_sound ..))

theorem Keeps.raise (t : Station) {id : AlarmId} (p : Priority) (q : Quad) {k : AreaConfig}
    (hk : (s.area id.area.toNat).config = some k) (hlive : P → s.node.mode.receives = true) :
    Keeps c P s (s.raise t id p q) := by
  have hload : Keeps c P s ((s.addLoad p id.area.toNat).dropPending id) := (Keeps.addLoad p hk hlive).trans (.dropPending _)
  unfold State.raise
  dsimp only
  split
  · next hnone => exact hload.trans (.newRaise t p q (fun hp => hload.live (hlive hp)) hnone)
  · next r hr => exact hload.trans (.reRaise t p q (findRecord_some hr).1)

theorem Keeps.clearRecord {r : AlarmRecord} (hr : r ∈ s.picture.list) : Keeps c P s (s.clearRecord r) := by
  unfold State.clearRecord
  refine .ite (fun _ => .drop _) fun hack => .ite (fun _ => .refl c P s) fun _ => .setList_mem hr _ fun hl => ?_
  exact listSound_changeRecord hl hr (fun _ => rfl) (fun _ => rfl) (fun _ => rfl)
    ⟨fun h => hack h.1, (hl.records r hr).2⟩

theorem Keeps.clear (id : AlarmId) : Keeps c P s (s.clear id) := by
  unfold State.clear
  split
  · next r hr => exact .clearRecord (findRecord_some hr).1
  · exact .ite (fun _ => .addPending _) fun _ => .refl c P s

theorem Keeps.changeEntry (t : Station) (e : ChangeEntry) (hlive : P → s.node.mode.receives = true) :
    Keeps c P s (s.changeEntry t e) := by
  unfold State.changeEntry
  refine .ite (fun hfeed => .ite (fun _ => ?raise) fun _ => .ite (fun _ => .clear _) fun _ => .refl c P s) fun _ => .latch _
  obtain ⟨k, hk⟩ := config_of_feedCheck hfeed
  split
  · exact .raise t _ _ hk hlive
  · exact .refl c P s

theorem Keeps.applyChanges (t : Station) (es : List ChangeEntry) (hlive : P → s.node.mode.receives = true) :
    Keeps c P s (s.applyChanges t es) :=
  .foldl_live (fun _ e h => .changeEntry t e h) es s hlive

/-! ### Acknowledgement (R25, R26) -/

theorem Keeps.stale (id : AlarmId) : Keeps c P s (s.stale id) := by
  have hstale : Keeps c P s { s with picture := { s.picture with lastStale := some id } } := .picture_same _ rfl rfl rfl
  exact hstale.trans (.latch _)

theorem Keeps.acknowledgeRecord (t : Station) (badge : Badge) {r : AlarmRecord} (hr : r ∈ s.picture.list) :
    Keeps c P s (s.acknowledgeRecord t badge r) := by
  unfold State.acknowledgeRecord
  refine .ite (fun _ => .drop _) fun hcleared => .setList_mem hr _ fun hl => ?_
  exact listSound_changeRecord hl hr (fun _ => rfl) (fun _ => rfl) (fun _ => rfl) ⟨fun h => hcleared h.2, nofun⟩

theorem Keeps.ackEntry (t : Station) (badge : Badge) (e : AckEntry) : Keeps c P s (s.ackEntry t badge e) := by
  unfold State.ackEntry
  split
  · exact .ite (fun _ => .addPending _) fun _ => .refl c P s
  · next r hr =>
    refine .ite (fun _ => .ite (fun _ => .stale _) fun _ => .refl c P s) fun _ => .ite (fun _ => .refl c P s) fun _ => ?_
    exact .ite (fun _ => .acknowledgeRecord t badge (findRecord_some hr).1) fun _ => .refl c P s

theorem Keeps.applyAcks (t : Station) (badge : Badge) (es : List AckEntry) : Keeps c P s (s.applyAcks t badge es) :=
  .foldl (fun _ e => .ackEntry t badge e) es s

/-! ### Shelving (R31, R33, R34) -/

theorem Keeps.applyShelve (t : Station) (id : AlarmId) (minutes : Half) (badge : Badge) :
    Keeps c P s (s.applyShelve t id minutes badge) := by
  unfold State.applyShelve
  split
  · exact .refl c P s
  · next r hr =>
    obtain ⟨hmem, rfl⟩ := findRecord_some hr
    refine .ite (fun _ => .refl c P s) fun _ => .setList_mem hmem _ fun hl => ?_
    exact listSound_changeRecord hl hmem (fun _ => rfl) (fun _ => rfl) (fun _ => rfl)
      ⟨fun h => (by simp [Handling.isAck] at h), nofun⟩

theorem Keeps.unshelveRecord (flood : Bool) {r : AlarmRecord} (hr : r ∈ s.picture.list) :
    Keeps c P s (s.unshelveRecord flood r) := by
  unfold State.unshelveRecord
  refine .ite (fun _ => .drop _) fun _ => .trans (.setList_mem hr _ fun hl => ?_) (.soundFor _ _)
  exact listSound_moveRecord hl hr rfl ⟨fun h => (by simp [Handling.isAck] at h), fun _ => rfl⟩

theorem Keeps.applyUnshelve (id : AlarmId) : Keeps c P s (s.applyUnshelve id) := by
  unfold State.applyUnshelve
  split
  · exact .refl c P s
  · next r hr => exact .ite (fun _ => .unshelveRecord _ (findRecord_some hr).1) fun _ => .refl c P s

theorem Keeps.floodFound (a : Nat) : Keeps c P s (s.floodFound a).2 := by
  unfold State.floodFound
  split
  · exact .refl c P s
  · split
    · exact .freeCount _
    · exact .refl c P s

theorem floodFound_picture (s : State) (a : Nat) : (s.floodFound a).2.picture = s.picture := by
  unfold State.floodFound
  split
  · rfl
  · split <;> rfl

theorem Keeps.expireShelf (id : AlarmId) : Keeps c P s (s.expireShelf id) := by
  unfold State.expireShelf
  split
  · exact .refl c P s
  · next r hr =>
    have hmem := (findRecord_some hr).1
    split
    · refine .ite (fun _ => (Keeps.floodFound _).trans (.unshelveRecord _ ?_)) fun _ => .refl c P s
      rwa [floodFound_picture]
    · exact .refl c P s
    · exact .refl c P s

theorem Keeps.expireShelves : Keeps c P s s.expireShelves := .foldl (fun _ id => .expireShelf id) _ s

/-! ### Escalation (R35 to R37) -/

/-- An UNACK record marked escalated keeps its place in list and window; the routed sets are taken anew (R37). -/
theorem Keeps.escalate {r : AlarmRecord} (hr : r ∈ s.picture.list) (hunack : r.handling.isUnack = true) :
    Keeps c P s (s.escalate r) := by
  have hmark : Keeps c P s (({ s with picture := { s.picture with
      list := changeRecord r.id (fun x => { x with escalated := true }) s.picture.list } } : State).reroute) := by
    refine .of_same (fun _ hs => ⟨?list, hs.loads, queuesSound_of_view hs.queues rfl, hs.clock,
      calendarSound_of_view hs.calendar rfl, windowSound_of_view hs.window ?window, hs.port,
      peersSound_of_view hs.peers rfl, ⟨hs.station.areas, hs.station.sending, fun h => ?off, hs.station.peers,
        hs.station.holds, hs.station.loads⟩, reroute_annunciatorSound _, handoverSound_of_view hs.handover rfl⟩)
      rfl rfl rfl rfl rfl rfl
    case list =>
      refine listSound_changeRecord hs.list hr (fun _ => rfl) (fun _ => rfl) (fun _ => rfl)
        ⟨(hs.list.records r hr).1, fun _ => hunack⟩
    case off => simp [receives_of_mem hs hr] at h
    case window =>
      have hadmits : ∀ x : AlarmRecord, s.admits (if x.id == r.id then { x with escalated := true } else x) = s.admits x := by
        intro x
        split <;> rfl
      have hlength : ((changeRecord r.id (fun x => { x with escalated := true }) s.picture.list).filter s.admits).length =
          (s.picture.list.filter s.admits).length := by
        rw [changeRecord, List.filter_map, List.length_map]
        congr 2
        funext x
        exact hadmits x
      exact congrArg (fun n => (s.window.row, s.window.top, n)) hlength
  unfold State.escalate
  exact (hmark.orElse fun _ => .soundDemand).trans (.latchIf _ _)

theorem Keeps.testDeadline (id : AlarmId) : Keeps c P s (s.testDeadline id) := by
  unfold State.testDeadline
  split
  · exact .refl c P s
  · next r hr =>
    have hmem := (findRecord_some hr).1
    refine .ite (fun hpast => ?_) fun _ => .refl c P s
    have hunack : r.handling.isUnack = true := by
      simp only [State.pastDeadline, Bool.and_eq_true] at hpast
      exact hpast.1.1
    have hflooded : Keeps c P s (if (s.floodFound id.area.toNat).1 then (s.floodFound id.area.toNat).2
        else (s.floodFound id.area.toNat).2.escalate r) :=
      .ite (fun _ => .floodFound _) fun _ => (Keeps.floodFound _).trans
        (.escalate (by rwa [floodFound_picture]) hunack)
    split
    · exact .escalate hmem hunack
    · exact .escalate hmem hunack
    · exact hflooded
    · exact hflooded

theorem Keeps.testDeadlines : Keeps c P s s.testDeadlines := .foldl (fun _ id => .testDeadline id) _ s

end Sys2Proof.Keep

/-! PROOF. What the handover controller's operations keep (chapter 8): the ends of offers, the offers made, the notices,
the timers, the seat change and the scheduled offer. -/

namespace Sys2Proof.Keep

open Sys2Proof.Machine Sys2Proof.Claims

variable {c : Instr} {P : Prop} {s t : State}

/-! ### Ends of offers and notices -/

theorem Keeps.endIn (o : InOffer) (e : OfferEnd) : Keeps c P s (s.endIn o e) := by
  have hidle : Keeps c P s { s with handover := { s.handover with
      incoming := .idle, lastIn := some ⟨o.number, o.origin, e⟩ } } := .handover_same _ rfl rfl
  exact hidle.trans (.latchOpt _)

theorem Keeps.applyOffer (t : Station) (n : Byte) (target : Station) (badge : Badge) (areas : AreaSet)
    (xs : List OfferSummary) : Keeps c P s (s.applyOffer t n target badge areas xs) := by
  unfold State.applyOffer
  refine .ite (fun _ => .refl c P s) fun _ => .ite (fun _ => .queueIfRoom _) fun _ => .ite (fun _ => .queueIfRoom _) fun _ => ?_
  exact .trans (.handover_same { s.handover with incoming := .presented ⟨t, n, areas, xs, badge, s.now⟩ } rfl rfl)
    (.latch _)

/-- An offer that stands is of an ACTIVE station. -/
theorem active_of_outgoing (hs : s.Sound) {x : Outgoing} (h : s.handover.outgoing = x) (hx : x ≠ .idle) :
    s.node.mode = .active := by
  refine Classical.byContradiction fun hmode => ?_
  exact hx (h ▸ (hs.handover.inactive hmode).1)

theorem Keeps.answerAccepted (t : Station) (badge : Badge) {o : OutOffer} (ho : s.handover.outgoing = .offered o) :
    Keeps c P s (s.answerAccepted t badge o) := by
  unfold State.answerAccepted
  refine .ite (fun _ => (Keeps.queueIfRoom _).trans (.endOut _ _)) fun _ => .ite (fun _ => .endOut _ _) fun hroom => ?_
  refine .trans (.queue _ fun _ => by simpa using hroom) (.handover _ fun _ hs => ?_)
  refine ⟨hs.handover.rebadge, nofun, fun o' h a ha => ?_, fun hmode => ?_⟩
  · cases h
    rw [getLsbD_areaSetOf] at ha
    simp only [Bool.and_eq_true] at ha
    exact ha.2.2
  · exact absurd (active_of_outgoing hs (x := .offered o) ho nofun) hmode

theorem Keeps.applyAnswer (t origin : Station) (n decision reason : Byte) (badge : Badge) :
    Keeps c P s (s.applyAnswer t origin n decision reason badge) := by
  unfold State.applyAnswer
  split
  · next o ho =>
    refine .ite (fun _ => .ite (fun _ => .answerAccepted t badge ho) fun _ => ?_) fun _ => .refl c P s
    exact .ite (fun _ => .endOut _ _) fun _ => .refl c P s
  · exact .refl c P s
  · exact .refl c P s

theorem Keeps.applyWithdraw (t : Station) (n : Byte) (target : Station) : Keeps c P s (s.applyWithdraw t n target) := by
  unfold State.applyWithdraw
  split
  · exact .ite (fun _ => .endIn _ _) fun _ => .refl c P s
  · exact .ite (fun _ => .endIn _ _) fun _ => .refl c P s
  · exact .refl c P s

theorem Keeps.lossNotice (t : Station) : Keeps c P s (s.lossNotice t) := by
  have hout : Keeps c P s (s.lossOut t) := by
    unfold State.lossOut
    split
    · exact .ite (fun _ => .dropOffer _ _) fun _ => .refl c P s
    · exact .refl c P s
    · exact .refl c P s
  have hin : ∀ u : State, Keeps c P u (u.lossIn t) := fun u => by
    unfold State.lossIn
    split
    · exact .ite (fun _ => .endIn _ _) fun _ => .refl c P u
    · exact .ite (fun _ => .endIn _ _) fun _ => .refl c P u
    · exact .refl c P u
  exact hout.trans (hin _)

theorem Keeps.ownDark : Keeps c P s s.ownDark := by
  have hout : Keeps c P s s.ownDarkOut := by
    unfold State.ownDarkOut
    split
    · exact .dropOffer _ _
    · exact .refl c P s
    · exact .refl c P s
  have hin : ∀ u : State, Keeps c P u u.ownDarkIn := fun u => by
    unfold State.ownDarkIn
    split
    · exact .ite (fun _ => .refl c P u) fun _ => (Keeps.queueIfRoom _).trans (.endIn _ _)
    · exact .refl c P u
    · exact .refl c P u
  exact hout.trans (hin _)

theorem Keeps.operatorGone : Keeps c P s s.operatorGone := by
  unfold State.operatorGone
  split
  · exact .ite (fun _ => .refl c P s) fun _ => (Keeps.queueIfRoom _).trans (.endIn _ _)
  · exact .refl c P s
  · exact .refl c P s

theorem Keeps.reliefGone : Keeps c P s s.reliefGone := by
  unfold State.reliefGone
  split
  · exact .ite (fun _ => .endSeat _ _) fun _ => .refl c P s
  · exact .refl c P s
  · exact .refl c P s

/-! ### Timers -/

theorem Keeps.offerTimer : Keeps c P s s.offerTimer := by
  unfold State.offerTimer
  split
  · exact .ite (fun _ => .bySecond (.dropOffer _ _)) fun _ => .refl c P s
  · exact .refl c P s
  · exact .refl c P s

theorem Keeps.decisionTimer : Keeps c P s s.decisionTimer := by
  unfold State.decisionTimer
  split
  · refine .ite (fun _ => .ite (fun _ => .bySecond (.endSeat _ _)) fun _ => ?_) fun _ => .refl c P s
    exact (Keeps.queueIfRoom _).trans (.endIn _ _)
  · exact .refl c P s
  · exact .refl c P s

theorem Keeps.commitTimer : Keeps c P s s.commitTimer := by
  unfold State.commitTimer
  split
  · exact .ite (fun _ => .endIn _ _) fun _ => .refl c P s
  · exact .refl c P s
  · exact .refl c P s

/-! ### The sign-on table -/

/-- A sign-on table in place, with the routed sets taken anew (R74). -/
theorem Keeps.signOn_reroute (x : SignOn) : Keeps c P s ({ s with signOn := x } : State).reroute :=
  .of_same (fun _ hs => ⟨hs.list, hs.loads, queuesSound_of_view hs.queues rfl, hs.clock,
    calendarSound_of_view hs.calendar rfl, windowSound_of_view hs.window rfl, hs.port, peersSound_of_view hs.peers rfl,
    stationSound_of_view hs.station rfl, reroute_annunciatorSound _, handoverSound_of_view hs.handover rfl⟩)
    rfl rfl rfl rfl rfl rfl

theorem Keeps.activeChanged (x : SignOn) : Keeps c P s ({ s with signOn := x } : State).activeChanged :=
  (Keeps.clock_overdue false).trans (.signOn_reroute x)

/-- A sign-on table with the same active badge rank routes the same records (R14, R74). -/
theorem Keeps.signOn_same (x : SignOn)
    (h : x.active.any (fun o => o.rank == 0) = s.signOn.active.any fun o => o.rank == 0) :
    Keeps c P s { s with signOn := x } := by
  have hrouted : State.routed { s with signOn := x } = s.routed := by
    have hzero : State.rankZero { s with signOn := x } = s.rankZero := h
    funext r
    unfold State.routed
    rw [hzero]
    rfl
  exact .of_same (fun _ hs => ⟨hs.list, hs.loads, queuesSound_of_view hs.queues rfl, hs.clock,
    calendarSound_of_view hs.calendar rfl, windowSound_of_view hs.window rfl, hs.port, peersSound_of_view hs.peers rfl,
    stationSound_of_view hs.station rfl, annunciatorSound_of_view hs.output
      (by simp only [outputView, State.routedUnack, State.routedAck, hrouted]),
    handoverSound_of_view hs.handover rfl⟩) rfl rfl rfl rfl rfl rfl

theorem Keeps.promote : Keeps c P s s.promote := by
  unfold State.promote
  split
  · exact .refl c P s
  · exact .activeChanged _

/-! ### Re-badge claims and the seat change (R127) -/

theorem Keeps.rebadgeOne : Keeps c P s s.rebadgeOne := by
  unfold State.rebadgeOne
  split
  · exact .refl c P s
  · refine .ite (fun hroom => .trans (.queue _ fun _ => hroom) (.handover _ fun _ hs => ?_)) fun _ => .refl c P s
    refine ⟨fun b hb => hs.handover.rebadge b (getLsbD_of_dropArea hb), hs.handover.offered, hs.handover.committing,
      fun hmode => ?_⟩
    obtain ⟨hidle, hnone⟩ := hs.handover.inactive hmode
    exact ⟨hidle, (congrArg (dropArea · _) hnone).trans BitVec.zero_and⟩

theorem Keeps.rebadgeMany (n : Nat) : ∀ s : State, Keeps c P s (s.rebadgeMany n) := by
  induction n with
  | zero => exact .refl c P
  | succ n ih => exact fun s => Keeps.rebadgeOne.trans (ih _)

theorem holds_of_heldSet {a : Nat} (h : s.heldSet.getLsbD a = true) : s.holds a = true := by
  rw [State.heldSet, getLsbD_areaSetOf, Bool.and_eq_true] at h
  exact h.2

/-- What an area's holder is depends on the area table and the station's number. -/
theorem holds_congr {u : State} (hareas : u.areas = s.areas) (hnode : u.node = s.node) : u.holds = s.holds := by
  funext a
  unfold State.holds State.area State.isOwn
  rw [hareas, hnode]

theorem Keeps.commitSeat (n : Byte) (hactive : s.node.mode = .active) : Keeps c P s (s.commitSeat n) := by
  have hended : Keeps c P s (s.promote.endSeat n (.committed s.heldSet)) := Keeps.promote.trans (.endSeat _ _)
  refine (hended.trans (.handover _ fun _ hs => ?_)).trans (.rebadgeMany _ _)
  refine ⟨fun a ha => ?_, hs.handover.offered, hs.handover.committing, fun hmode => ?_⟩
  · have hsame : State.holds { s.promote.endSeat n (.committed s.heldSet) with handover :=
        { (s.promote.endSeat n (.committed s.heldSet)).handover with rebadge := s.heldSet } } = s.holds :=
      holds_congr (by simp) (by simp)
    rw [hsame]
    exact holds_of_heldSet ha
  · exact absurd hactive (by simpa using hmode)

/-! ### The scheduled offer (R128, R129) -/

theorem Keeps.makeRemoteOffer {target : Station} {areas : AreaSet} (hactive : s.node.mode = .active)
    (hheld : ∀ a, areas.getLsbD a = true → s.holds a = true) (hroom : s.hasRoom = true) :
    Keeps c P s (s.makeRemoteOffer target areas) := by
  refine .trans (.queue _ fun _ => hroom) (.handover _ fun _ hs => ?_)
  refine ⟨hs.handover.rebadge, fun o h a ha => ?_, nofun, fun hmode => absurd hactive hmode⟩
  cases h
  exact hheld a ha

theorem Keeps.makeSeatOffer (hactive : s.node.mode = .active) : Keeps c P s s.makeSeatOffer := by
  refine .trans (.handover _ fun _ hs => ?_) (.latch _)
  refine ⟨hs.handover.rebadge, fun o h a ha => ?_, nofun, fun hmode => absurd hactive hmode⟩
  cases h
  exact holds_of_heldSet ha

/-- What the checks of an offer leave standing (R115, R126). -/
theorem offer_passed {flooded : Nat → Bool} {target : Station} {areas : AreaSet}
    (h : s.offerRefusalIn flooded target areas = none) : s.node.mode = .active ∧
      (s.isOwn target = false → (∀ a, areas.getLsbD a = true → s.holds a = true) ∧ s.hasRoom = true) := by
  have hchecks := (firstFail_none_iff _).mp h
  have hactive : s.isActive = true := by
    simpa using hchecks (!s.isActive, .badState) (by simp [State.offerChecks])
  refine ⟨by simpa [State.isActive] using hactive, fun hother => ⟨fun a ha => ?_, ?_⟩⟩
  · have hall := hchecks ((areaList areas).any fun a => !s.holds a, .notHeld) (by simp [hother, State.remoteChecks])
    simp only [List.any_eq_false, Bool.not_eq_true', Bool.not_eq_false] at hall
    refine hall a (List.mem_filter.mpr ⟨List.mem_range.mpr ?_, ha⟩)
    refine Classical.byContradiction fun hlarge => ?_
    rw [BitVec.getLsbD_of_ge _ _ (Nat.le_of_not_lt hlarge)] at ha
    cases ha
  · simpa using hchecks (!s.hasRoom, .queueFull) (by simp [hother, State.remoteChecks])

theorem Keeps.makeOffer {flooded : Nat → Bool} {target : Station} {areas : AreaSet}
    (h : s.offerRefusalIn flooded target areas = none) : Keeps c P s (s.makeOffer target areas) := by
  obtain ⟨hactive, hremote⟩ := offer_passed h
  refine .ite (fun _ => .makeSeatOffer hactive) fun hother => ?_
  obtain ⟨hheld, hroom⟩ := hremote (by simpa using hother)
  exact .makeRemoteOffer hactive hheld hroom

theorem Keeps.fired (r : FireResult) : Keeps c P s (s.fired r) := by
  have hempty : Keeps c P s { s with handover := { s.handover with
      scheduled := .empty, fireResult := some r, fireBySecond := false } } := .handover_same _ rfl rfl
  exact hempty.trans (.latch _)

theorem Keeps.fireSchedule : Keeps c P s s.fireSchedule := by
  have hused : Keeps c P s s.useFireChoices := .ite (fun _ => .refl c P s) fun _ => .freeCount _
  unfold State.fireSchedule
  split
  · next o _ =>
    refine .ite (fun _ => .ite (fun _ => .fired _) fun _ => ?_) fun _ => .refl c P s
    split
    · exact hused.trans (.fired _)
    · next hnone =>
      have hsame : s.useFireChoices.offerRefusalIn s.floodAtFire o.target o.areas = none := by
        rw [← hnone]
        unfold State.useFireChoices
        split <;> rfl
      exact (hused.trans (.makeOffer hsame)).trans (.fired _)
  · exact .refl c P s
  · exact .refl c P s

end Sys2Proof.Keep

/-! PROOF. What the claim rule, the line supervision, the picture transfer and the peer table keep (chapters 6, 9, 10 and
11). -/

namespace Sys2Proof.Keep

open Sys2Proof.Machine Sys2Proof.Claims

variable {c : Instr} {P : Prop} {s t : State}

/-! ### Claims and orphans (chapter 6) -/

theorem Keeps.claimLost (a : Nat) : Keeps c P s (s.claimLost a) :=
  (Keeps.lastLost (some a)).trans (.latch _)

/-- An accepted claim lets no serial fall (R88). -/
theorem serial_le_of_claimAccepted {r : Area} {x : Claim} (h : claimAccepted r x = true) :
    r.serial.toNat ≤ x.serial.toNat := by
  unfold claimAccepted at h
  split at h
  · omega
  · split at h
    · next hsame => exact Nat.le_of_eq (congrArg BitVec.toNat hsame.symm)
    · cases h

theorem Keeps.acceptClaim (src : ClaimSource) (own orphan : Bool) {x : Claim}
    (hlive : P → s.Sound → s.node.mode.receives = true) (haccepted : claimAccepted (s.area x.area) x = true) :
    Keeps c P s (s.acceptClaim src own orphan x) := by
  have hserial := serial_le_of_claimAccepted haccepted
  have hput : ∀ u : State, u.node = s.node → u.areas = s.areas →
      Keeps c (P ∧ s.node.mode.receives = true) u (u.setHold x.area (claimHold u.now orphan x) x.serial) := by
    intro u hnode hareas
    refine .setHold (fun hp _ => by rw [hnode]; exact hp.2) ?_
    simp only [State.area, hareas]
    exact hserial
  refine Keeps.assuming (Q := P ∧ s.node.mode.receives = true) ?_ fun hp hs => ⟨hp, hlive hp hs⟩
  unfold State.acceptClaim
  refine .trans ?_ (.latchIf _ _)
  split
  · exact (Keeps.claimLost x.area).trans (hput (s.claimLost x.area) (by simp) (by simp))
  · exact hput s rfl rfl

theorem Keeps.rejectClaim (src : ClaimSource) (own : Bool) (x : Claim) : Keeps c P s (s.rejectClaim src own x) :=
  .ite (fun _ => .claimLost _) fun _ => .refl c P s

theorem Keeps.applyClaim (src : ClaimSource) (own orphan : Bool) (x : Claim) (hlive : P → s.node.mode.receives = true) :
    Keeps c P s (s.applyClaim src own orphan x) := by
  unfold State.applyClaim
  exact .ite (fun _ => .ite (fun h => .acceptClaim src own orphan (fun hp _ => hlive hp) h) fun _ => .rejectClaim ..)
    fun _ => .refl c P s

/-- A held area means that the receivers are on (R147). -/
theorem receives_of_hold {a : Nat} (hs : s.Sound) (h : (s.area a).hold ≠ .unheld) : s.node.mode.receives = true := by
  cases hoff : s.node.mode.receives with
  | true => rfl
  | false =>
    obtain hmem | hinitial := area_mem_or_initial s a
    · exact absurd (hs.station.holds hoff _ hmem) h
    · exact absurd (by rw [hinitial]; rfl) h

theorem Keeps.orphanArea (t : Station) (a : Nat) : Keeps c P s (s.orphanArea t a) := by
  unfold State.orphanArea
  split
  · next hheld =>
    refine .ite (fun _ => .setHold (fun _ hs => receives_of_hold (a := a) hs ?_) (Nat.le_refl _)) fun _ => .refl c P s
    rw [hheld]
    nofun
  · exact .refl c P s
  · exact .refl c P s

theorem Keeps.orphanAll (t : Station) : Keeps c P s (s.orphanAll t) := .foldl (fun _ a => .orphanArea t a) _ s

theorem Keeps.applyDarkClaim (x : Claim) (hlive : P → s.node.mode.receives = true) :
    Keeps c P s (s.applyDarkClaim x) := by
  refine .ite (fun h => .acceptClaim _ _ _ (fun hp _ => hlive hp) ?_) fun _ => .refl c P s
  simp only [Bool.and_eq_true] at h
  exact h.1.2

theorem Keeps.applyClaimList (t : Station) (p : PresenceBody) (hlive : P → s.node.mode.receives = true) :
    Keeps c P s (s.applyClaimList t p) := by
  refine .ite (fun _ => ?_) fun _ => .foldl_live (fun _ x h => .applyClaim _ _ _ x h) _ s hlive
  have horphans : Keeps c P s (s.orphanAll t) := .orphanAll t
  exact horphans.trans (.foldl_live (fun _ x h => .applyDarkClaim x h) _ _ fun hp => horphans.live (hlive hp))

theorem Keeps.applyCommitEntries (own orphan : Bool) (t : Station) (badge : Badge) (es : List CommitEntry) :
    ∀ (m : AreaSet) (s : State), (P → s.node.mode.receives = true) →
      Keeps c P s (State.applyCommitEntries own orphan t badge es m s).2 := by
  induction es with
  | nil => exact fun _ s _ => .refl c P s
  | cons e rest ih =>
    intro m s hlive
    have hclaim : Keeps c P s (s.applyClaim .commit own orphan (commitClaim t badge e)) := .applyClaim _ _ _ _ hlive
    exact hclaim.trans (ih _ _ fun hp => hclaim.live (hlive hp))

theorem Keeps.commitEndOut (n : Byte) (m : AreaSet) : Keeps c P s (s.commitEndOut n m) := by
  unfold State.commitEndOut
  split
  · exact .ite (fun _ => .endOut _ _) fun _ => .refl c P s
  · exact .refl c P s
  · exact .refl c P s

theorem Keeps.commitEndIn (t : Station) (n : Byte) (m : AreaSet) : Keeps c P s (s.commitEndIn t n m) := by
  have hlast : Keeps c P s (({ s with handover := { s.handover with lastIn := some ⟨n, t, .committed m⟩ } } : State).latch
      .offerEnded) :=
    (Keeps.handover_same { s.handover with lastIn := some ⟨n, t, .committed m⟩ } rfl rfl).trans (.latch _)
  unfold State.commitEndIn
  dsimp only
  split
  · exact .ite (fun _ => .endIn _ _) fun _ => hlast
  · exact hlast
  · exact hlast

theorem Keeps.applyCommit (t : Station) (n : Byte) (incoming : Station) (badge : Badge) (es : List CommitEntry)
    (hlive : P → s.node.mode.receives = true) : Keeps c P s (s.applyCommit t n incoming badge es) := by
  unfold State.applyCommit
  exact ((Keeps.applyCommitEntries _ _ _ _ es 0 s hlive).orElse fun _ => .commitEndOut _ _).orElse
    fun _ => .commitEndIn _ _ _

/-- A grace that has run out is a change of hold fields that nothing else follows (R97, R98). -/
theorem setRunOut_withHold {a : Nat} {t : Station} {b : Badge} {since : Sec} {grace : Grace}
    (h : (s.area a).hold = .orphaned t b since grace) :
    s.setArea a { s.area a with hold := .orphaned t b since .runOut } =
      withHold a (.orphaned t b since .runOut) (s.area a).serial s := by
  have hholds : s.holds a = (withHold a (.orphaned t b since .runOut) (s.area a).serial s).holds a := by
    unfold State.holds
    obtain hself | hself := area_withHold_self_or a (.orphaned t b since .runOut) (s.area a).serial s
    all_goals rw [hself, h]
  have hwindow : (withHold a (.orphaned t b since .runOut) (s.area a).serial s).window = s.window := by
    refine if_neg ?_
    rw [show (s.setArea a { s.area a with hold := .orphaned t b since .runOut }).holds a = s.holds a from hholds.symm]
    simp
  have hpicture : (withHold a (.orphaned t b since .runOut) (s.area a).serial s).picture = s.picture :=
    if_neg (by simp [h, Hold.holderStatus])
  calc s.setArea a { s.area a with hold := .orphaned t b since .runOut }
    _ = { withHold a (.orphaned t b since .runOut) (s.area a).serial s with
          window := s.window, picture := s.picture } := rfl
    _ = withHold a (.orphaned t b since .runOut) (s.area a).serial s := by rw [← hwindow, ← hpicture]

theorem Keeps.setRunOut (a : Nat) : Keeps c P s (s.setRunOut a) := by
  unfold State.setRunOut
  split
  · next t b since grace hold =>
    rw [setRunOut_withHold hold]
    refine .putHold (fun _ hs => receives_of_hold (a := a) hs (by rw [hold]; nofun)) (Nat.le_refl _) fun hheld => ?_
    simp [State.holds, hold] at hheld
  · exact .refl c P s
  · exact .refl c P s

theorem Keeps.takeOver (a : Nat) : Keeps c P s (s.takeOver a) := by
  unfold State.takeOver
  refine .ite (fun _ => .refl c P s) fun _ => .ite (fun h => .queue _ fun _ => ?_) fun _ => .latch _
  simp only [State.canTakeOver, Bool.and_eq_true] at h
  exact h.2

theorem Keeps.graceRunOut (a : Nat) : Keeps c P s (s.graceRunOut a) := by
  unfold State.graceRunOut
  refine .ite (fun _ => ?_) fun _ => .refl c P s
  exact .ite (fun _ => (Keeps.setRunOut a).trans (.takeOver a)) fun _ => (Keeps.setRunOut a).trans (.latchIf _ _)

/-! ### Lines (chapter 9) -/

theorem Keeps.setLine (n : LineName) (l : Line) : Keeps c P s (s.setLine n l) := by
  cases n with
  | a => exact .bus_same _ rfl rfl
  | b => exact .bus_same _ rfl rfl

theorem Keeps.setLineState (n : LineName) (x : LineState) : Keeps c P s (s.setLineState n x) :=
  (Keeps.setLine n _).trans (.latchIf _ _)

theorem Keeps.silenceLine (n : LineName) : Keeps c P s (s.silenceLine n) := by
  unfold State.silenceLine
  exact .ite (fun _ => (Keeps.setLine n _).trans (.setLineState n _)) fun _ => .refl c P s

theorem Keeps.markLine (n : LineName) : Keeps c P s (s.markLine n) :=
  ((Keeps.silenceLine n).trans (.setLineState n _)).trans (.setReport _)

theorem Keeps.goodCopyOn (n : LineName) : Keeps c P s (s.goodCopyOn n) := by
  have hsilenced : Keeps c P s (s.silenceLine n) := .silenceLine n
  unfold State.goodCopyOn
  dsimp only
  split
  · exact (hsilenced.trans (.setLine n _)).trans (.setLineState n _)
  · exact hsilenced.trans (.setLine n _)
  · exact hsilenced.trans (.setLine n _)

theorem Keeps.countLines : Keeps c P s s.countLines := .bus_same _ rfl rfl

theorem Keeps.recoverLine (n : LineName) : Keeps c P s (s.recoverLine n) := by
  unfold State.recoverLine
  split
  · exact .ite (fun _ => .setLineState n _) fun _ => .refl c P s
  · exact .refl c P s
  · exact .refl c P s

/-! ### Presence and stream (10.2, chapter 11) -/

theorem Keeps.buildPresence : Keeps c P s s.buildPresence := by
  have hlist : Keeps c P s { s with node := { s.node with listStart := s.claimList.2.headD 0 } } :=
    .node _ rfl rfl rfl rfl
  exact .ite (fun _ => hlist.trans (.tx_le _ (Nat.le_refl _) (Nat.le_refl _)))
    fun _ => hlist.trans (.tx_le _ (Nat.le_refl _) (Nat.le_refl _))

theorem Keeps.setServing (x : Serving) : Keeps c P s (s.setServing x) := .transfer _ id

theorem Keeps.applyPictureRequest (t : Station) : Keeps c P s (s.applyPictureRequest t) := by
  unfold State.applyPictureRequest
  refine .ite (fun _ => ?_) fun _ => .refl c P s
  split
  · exact .setServing _
  · exact .setServing _

theorem Keeps.endStream : Keeps c P s s.endStream := by
  unfold State.endStream
  split
  · exact .refl c P s
  · have hframe : Keeps c P s { s with tx := { s.tx with
        pictureFrame := s.tx.pictureFrame.map fun f => { f with current := false } } } :=
      .tx_le _ (Nat.le_refl _) (Nat.le_refl _)
    exact .ite (fun _ => hframe.trans (.setServing _)) fun _ => hframe.trans (.setServing _)

theorem Keeps.dropRequester (t : Station) : Keeps c P s (s.dropRequester t) := by
  unfold State.dropRequester
  split
  · exact .refl c P s
  · exact (Keeps.setServing _).orElse fun _ => .endStream

/-! ### Refresh and merge (chapter 11) -/

theorem Keeps.setRefresh (x : Option Refresh) : Keeps c P s (s.setRefresh x) := .transfer _ id

theorem Keeps.clearPending : Keeps c P s (s.setPendingEvents []) := .transfer _ fun _ => Nat.zero_le _

theorem Keeps.setValid : Keeps c P s s.setValid := .transfer _ id

theorem Keeps.startRefresh : Keeps c P s s.startRefresh :=
  .ite (fun _ => ((Keeps.queueIfRoom _).trans .clearPending).trans (.setRefresh _)) fun _ => Keeps.setValid.trans (.latch _)

theorem Keeps.endRefresh : Keeps c P s s.endRefresh := (Keeps.setValid.trans .clearPending).trans (.setRefresh none)

theorem Keeps.applyPending (e : PendingEvent) : Keeps c P s (s.applyPending e) := by
  unfold State.applyPending
  split
  · exact .refl c P s
  · next r hr =>
    have hmem := (findRecord_some hr).1
    split
    · exact .clearRecord hmem
    · exact .ite (fun _ => .acknowledgeRecord _ _ hmem) fun _ => .refl c P s

theorem Keeps.matchPending (id : AlarmId) : Keeps c P s (s.matchPending id) :=
  (Keeps.dropPending id).trans (.foldl (fun _ e => .applyPending e) _ _)

/-- A merged record is sound: it is not escalated, and a CLEARED one is not ACK (R166). -/
theorem mergedRecord_sound {now : Sec} {room : Bool} {p : Priority} {r : PictureRecord} {x : AlarmRecord}
    (h : mergedRecord now room p r = some x) : x.Sound ∧ x.id = r.id := by
  unfold mergedRecord at h
  dsimp only at h
  split at h
  · cases h
    exact ⟨⟨fun h => (by simp [Handling.isAck] at h), nofun⟩, rfl⟩
  · split at h
    · cases h
    · next hcleared =>
      cases h
      exact ⟨⟨fun h => hcleared h.2, nofun⟩, rfl⟩
  · split at h
    · cases h
      exact ⟨⟨fun h => (by simp [Handling.isAck] at h), nofun⟩, rfl⟩
    · split at h
      · cases h
      · cases h
        exact ⟨⟨fun h => (by simp [Handling.isAck] at h), nofun⟩, rfl⟩
  · cases h

theorem Keeps.insertPicture {r : PictureRecord} (hlive : P → s.node.mode.receives = true)
    (hnew : ∀ x ∈ s.picture.list, x.id ≠ r.id) : Keeps c P s (s.insertPicture r) := by
  unfold State.insertPicture
  dsimp only
  split
  · exact .refl c P s
  · split
    · exact .refl c P s
    · next x hx =>
      obtain ⟨hsound, hid⟩ := mergedRecord_sound hx
      split
      · exact Keeps.listFull.trans (.dropPending _)
      · next u hu => exact (Keeps.insert hu hlive (hid ▸ hnew) hsound).trans (.matchPending _)

theorem Keeps.mergeRecord (r : PictureRecord) (hlive : P → s.node.mode.receives = true) :
    Keeps c P s (s.mergeRecord r) := by
  unfold State.mergeRecord
  refine .ite (fun _ => .refl c P s) fun _ => ?_
  split
  · next hnone => exact .insertPicture hlive (findRecord_none.mp hnone)
  · refine .ite (fun _ => .refl c P s) fun _ => ?_
    have hdrop : Keeps c P s (s.setList (dropRecord r.id s.picture.list)) := .drop r.id
    refine hdrop.trans (.insertPicture (fun hp => hdrop.live (hlive hp)) fun x hx => ?_)
    exact (mem_dropRecord.mp (by simpa using hx)).2

theorem Keeps.takePicture (t : Station) (rs : List PictureRecord) (x : Refresh) (n : Nat)
    (hlive : P → s.node.mode.receives = true) : Keeps c P s (s.takePicture t rs x n) :=
  .trans (.foldl_live (fun _ r h => .mergeRecord r h) rs s hlive) (.setRefresh _)

theorem Keeps.applyPicture (t : Station) (m : StationSet) (i : Byte) (rs : List PictureRecord)
    (hlive : P → s.node.mode.receives = true) : Keeps c P s (s.applyPicture t m i rs) := by
  unfold State.applyPicture
  refine .ite (fun _ => ?_) fun _ => .refl c P s
  split
  · exact .refl c P s
  · split
    · exact .ite (fun _ => .takePicture t rs _ _ hlive) fun _ => .refl c P s
    · exact .ite (fun _ => .takePicture t rs _ _ hlive) fun _ => .refl c P s

theorem Keeps.completeRefresh (n : Half) (taken : Nat) : Keeps c P s (s.completeRefresh n taken) :=
  (Keeps.endRefresh.trans (.latch _)).trans (.latchIf _ _)

theorem Keeps.applyPictureEnd (t : Station) (m : StationSet) (n : Half) : Keeps c P s (s.applyPictureEnd t m n) := by
  unfold State.applyPictureEnd
  refine .ite (fun _ => ?_) fun _ => .refl c P s
  split
  · exact .refl c P s
  · split
    · exact .ite (fun _ => .completeRefresh _ _) fun _ => .refl c P s
    · exact .ite (fun _ => .completeRefresh _ _) fun _ => .refl c P s

theorem Keeps.refreshFailed (x : Refresh) : Keeps c P s (s.refreshFailed x) := by
  unfold State.refreshFailed
  refine .ite (fun _ => .ite (fun _ => .setRefresh _) fun _ => ?_) fun _ => Keeps.endRefresh.trans (.latch _)
  exact .ite (fun hroom => .trans (.queue _ fun _ => hroom) (.setRefresh _)) fun _ => .setRefresh _

theorem Keeps.refreshWaitTest : Keeps c P s s.refreshWaitTest := by
  unfold State.refreshWaitTest
  split
  · exact .refl c P s
  · split
    · exact .ite (fun _ => .refreshFailed _) fun _ => .refl c P s
    · exact .refl c P s

theorem Keeps.refreshStallTest : Keeps c P s s.refreshStallTest := by
  unfold State.refreshStallTest
  split
  · exact .refl c P s
  · split
    · exact .refl c P s
    · exact .ite (fun _ => .refreshFailed _) fun _ => .refl c P s

theorem Keeps.repeatRequest : Keeps c P s s.repeatRequest := by
  unfold State.repeatRequest
  split
  · exact .refl c P s
  · refine .ite (fun h => .trans (.queue _ fun _ => ?_) (.setRefresh _)) fun _ => .refl c P s
    exact (Bool.and_eq_true_iff.mp h).2

/-! ### The peer table (chapter 10) -/

theorem Keeps.forgetSeq (t : Station) : Keeps c P s (s.forgetSeq t) :=
  .ite (fun _ => .bus_same _ rfl rfl) fun _ => .refl c P s

theorem Keeps.track (t : Station) (hlive : P → s.node.mode.receives = true) (hother : s.isOwn t = false) :
    Keeps c P s (s.track t) := by
  have hnumber : s.node.number ≠ some t := by simpa [State.isOwn] using hother
  unfold State.track
  split
  · exact (Keeps.setPeer t _ (fun hp _ => hlive hp) (fun _ _ => hnumber) (fun _ _ => Nat.zero_le _)
      fun _ _ h => PeerState.noConfusion h).trans (.latch _)
  · refine (Keeps.setPeer t _ (fun hp _ => hlive hp) (fun _ _ => hnumber) (fun _ _ => ?_) fun _ _ h => PeerState.noConfusion h).trans
      (.latchIf _ _)
    show silenceAfter _ ≤ 3
    unfold silenceAfter
    split <;> omega

theorem peer_countPeers (s : State) (n : Station) : s.countPeers.peer n = (s.peer n).map countSilence := by
  unfold State.peer
  split
  · show (s.peers.map (Option.map countSilence)).getD _ ((none : Option PeerRecord).map countSilence) = _
    rw [getD_map]
  · rfl

theorem countSilence_cases (r : PeerRecord) : countSilence r = r ∨
    r.state = .present ∧ countSilence r = { r with silence := min 3 (r.silence + 1) } := by
  unfold countSilence
  split
  · next h => exact .inr ⟨by simpa using h, rfl⟩
  · exact .inl rfl

theorem Keeps.countPeers : Keeps c P s s.countPeers := by
  refine .peers _ (fun _ hs => ⟨by simpa using hs.peers.places, fun n hn => ?own, fun x hx q hq => ?silence,
    fun x hx q hq hlost => ?lost⟩) fun _ hs hoff x hx => ?none
  case own =>
    refine (peer_countPeers s n).trans ?_
    rw [hs.peers.own n hn]
    rfl
  case none =>
    obtain ⟨y, hy, rfl⟩ := List.mem_map.mp hx
    rw [hs.station.peers hoff y hy]
    rfl
  all_goals
    obtain ⟨y, hy, rfl⟩ := List.mem_map.mp hx
    obtain ⟨r, rfl, rfl⟩ := Option.map_eq_some_iff.mp hq
    obtain hsame | ⟨hpresent, hcount⟩ := countSilence_cases r
  case silence.inl =>
    rw [hsame]
    exact hs.peers.silence _ hy r rfl
  case silence.inr =>
    rw [hcount]
    exact Nat.min_le_left _ _
  case lost.inl =>
    rw [hsame] at hlost ⊢
    exact hs.peers.lost _ hy r rfl hlost
  case lost.inr =>
    rw [hcount] at hlost
    cases hpresent.symm.trans hlost

theorem Keeps.losePeer (t : Station) : Keeps c P s (s.losePeer t) := by
  unfold State.losePeer
  split
  · exact .refl c P s
  · next r hr =>
    refine .ite (fun _ => ?_) fun _ => .refl c P s
    have hlost : Keeps c P s (s.setPeer t { r with state := .lost, digestMatch := .notCompared, millDiff := none }) :=
      .setPeer t _ (fun _ hs => receives_of_peer hs hr) (fun _ hs => number_ne_of_peer hs hr)
        (fun _ hs => hs.peers.silence _ (peer_mem hr) r rfl) fun _ _ _ => ⟨rfl, rfl⟩
    exact ((((hlost.trans (.latch _)).trans (.orphanAll t)).trans (.bySecond (.lossNotice t))).trans
      (.forgetSeq t)).trans (.dropRequester t)

theorem Keeps.takePresence (t : Station) (p : PresenceBody) (restarted : Bool) {r : PeerRecord} (hr : s.peer t = some r)
    (hpresent : r.state = .present) : Keeps c P s (s.takePresence t p restarted r) := by
  have hput : Keeps c P s (s.setPeer t (r.withPresence p s.node.digest s.clock.millTime)) :=
    .setPeer t _ (fun _ hs => receives_of_peer hs hr) (fun _ hs => number_ne_of_peer hs hr)
      (fun _ hs => hs.peers.silence _ (peer_mem hr) r rfl) fun _ _ h => by
        cases hpresent.symm.trans h
  have hflags := (((hput.trans (.latchIf (darkChanged r p) .peerChange)).trans
    (.latchIf (s.rankZero && troubleSeen r p) .peerTrouble)).trans
    (.latchIf (digestFlag r p s.node.digest) .configDiffers)).trans (.latchIf (skewFlag r p s.clock.millTime) .timeSkew)
  exact hflags.orElse fun _ => ((Keeps.latch _).trans (.orphanAll t)).trans (.lossNotice t)

end Sys2Proof.Keep

/-! PROOF. What reception, the end of an attempt, an access and the second event keep (chapters 7, 9 and 10). -/

namespace Sys2Proof.Keep

open Sys2Proof.Machine Sys2Proof.Claims

variable {c : Instr} {P : Prop} {s t : State}

/-! ### Reception (R141 to R145) -/

theorem eq_of_peer_setPeer {n : Station} {x r : PeerRecord} (h : (s.setPeer n x).peer n = some r) : r = x := by
  by_cases hok : stationOk n = true
  · have hget : (s.peers.set (n.toNat - 1) (some x)).getD (n.toNat - 1) none = some r := by
      simpa [State.setPeer, State.peer, hok] using h
    rw [List.getD_eq_getElem?_getD, List.getElem?_set_self'] at hget
    cases hold : s.peers[n.toNat - 1]? with
    | none => simp [hold] at hget
    | some y => simpa [hold, eq_comm] using hget
  · simp [State.peer, hok] at h

/-- A peer as it stands in the table once a frame has tracked it is PRESENT (R154, R155). -/
theorem present_of_track {n : Station} {r : PeerRecord} (h : (s.track n).peer n = some r) : r.state = .present := by
  unfold State.track at h
  split at h
  · obtain rfl := eq_of_peer_setPeer (s := s) (n := n) (x := .created) (by simpa [State.peer] using h)
    rfl
  · next r0 _ =>
    obtain rfl := eq_of_peer_setPeer (s := s) (n := n) (x := { r0 with state := .present, silence := silenceAfter r0 })
      (by simpa [State.peer] using h)
    rfl

theorem Keeps.applyPresence (n : Station) (p : PresenceBody) (before : Option PeerRecord)
    (hpresent : ∀ r, s.peer n = some r → r.state = .present) : Keeps c P s (s.applyPresence n p before) := by
  unfold State.applyPresence
  split
  · exact .refl c P s
  · next r hr =>
    have htaken : Keeps c (P ∧ s.node.mode.receives = true) s (s.takePresence n p (restartedPeer before p) r) :=
      .takePresence n p _ hr (hpresent r hr)
    have hclaims := htaken.trans (.applyClaimList n p fun hp => htaken.live hp.2)
    refine Keeps.assuming ((hclaims.orElse fun _ => .lossNotice n).trans (.latchIf _ _)) fun hp hs =>
      ⟨hp, receives_of_peer hs hr⟩

/-- A frame at its owning block, at a station whose receivers are on (R141, R145). -/
theorem Keeps.applyFrame (n : Station) (before : Option PeerRecord) (f : Frame) (hlive : P → s.node.mode.receives = true)
    (hpresent : s.isOwn n = false → ∀ r, s.peer n = some r → r.state = .present) :
    Keeps c P s (s.applyFrame n before f) := by
  cases f with
  | presence p =>
    exact .ite (fun _ => .applyClaimList n p hlive) fun hother =>
      .applyPresence n p before (hpresent (by simpa using hother))
  | alarmChange es => exact .applyChanges n es hlive
  | ack b es => exact .applyAcks n b es
  | shelve id d b => exact .applyShelve n id d b
  | unshelve id => exact .applyUnshelve id
  | claim r a k b => exact .applyClaim _ _ _ _ hlive
  | take a k b => exact .applyClaim _ _ _ _ hlive
  | offer k t b m xs => exact .applyOffer n k t b m xs
  | answer o k d r b => exact .applyAnswer n o k d r b
  | commit k i b es => exact .applyCommit n k i b es hlive
  | withdraw k t => exact .applyWithdraw n k t
  | pictureRequest => exact .applyPictureRequest n
  | picture m i rs => exact .applyPicture n m i rs hlive
  | pictureEnd m k => exact .applyPictureEnd n m k

theorem Keeps.duplicateSeen : Keeps c P s s.duplicateSeen := by
  unfold State.duplicateSeen
  split
  · next hjoining =>
    exact .trans (.enter { s.node with mode := .mute } rfl rfl (.inr rfl) rfl fun _ h => by simp [hjoining] at h)
      (.latch _)
  · exact (Keeps.latch _).trans (.setReport _)
  · exact .latch _
  · exact .refl c P s
  · exact .refl c P s

theorem Keeps.accepted (rx : Rx) (f : Option Frame) (hlive : s.node.mode.receives = true) :
    Keeps c P s (s.accepted rx f) := by
  unfold State.accepted
  refine .ite (fun _ => .duplicateSeen) fun hother => ?_
  have htrack : Keeps c P s (s.track rx.sender) := .track rx.sender (fun _ => hlive) (by simpa using hother)
  dsimp only
  split
  · exact htrack.trans (.applyFrame _ _ _ (fun _ => htrack.live hlive) fun _ r hr => present_of_track hr)
  · exact htrack

theorem Keeps.lineDelivers (n : LineName) (x : Copy) : Keeps c P s (s.lineDelivers n x) := by
  cases x with
  | good => exact .goodCopyOn n
  | bad => exact .markLine n
  | absent => exact .refl c P s

theorem Keeps.noteSeq (n : Station) (k : Byte) : Keeps c P s (s.noteSeq n k) :=
  .ite (fun _ => .bus_same _ rfl rfl) fun _ => .refl c P s

theorem Keeps.receive (rx : Rx) (known : Bool) (f : Option Frame) : Keeps c P s (s.receive rx known f) := by
  unfold State.receive
  refine .ite (fun h => ?_) fun _ => .refl c P s
  simp only [Bool.and_eq_true] at h
  have hlines : Keeps c P s ((s.lineDelivers .a rx.copyA).lineDelivers .b rx.copyB) :=
    (Keeps.lineDelivers _ _).trans (.lineDelivers _ _)
  have hnoted := hlines.trans (.noteSeq rx.sender rx.seq)
  exact .ite (fun _ => .ite (fun _ => hlines) fun _ => hnoted.trans (.accepted rx f (hnoted.live h.1.1))) fun _ => hlines

/-! ### Sending (R134 to R139) -/

theorem length_mapHead (f : TxFrame → TxFrame) (s : State) :
    (s.mapHead f .urgent).tx.urgent.length = s.tx.urgent.length := by
  unfold State.mapHead
  dsimp only
  split
  · next h => rw [h]
  · next h => rw [h, List.length_cons, List.length_cons]

theorem Keeps.access (slot : BitVec 7) (n : Nat) : Keeps (.accessStart slot) P s (s.access n) := by
  unfold State.access
  refine .ite (fun h => ?_) fun _ => .refl _ P s
  have hactive : s.node.mode = .active := by simpa [State.isActive] using (Bool.and_eq_true_iff.mp h).1
  split
  · next k _ =>
    refine .ite (fun _ => ?_) fun _ => .refl _ P s
    have hbuilt : Keeps (.accessStart slot) P s (s.buildFor k) := by
      cases k with
      | urgent => exact .refl _ P s
      | presence => exact .refl _ P s
      | change =>
        unfold State.buildFor State.buildChange
        dsimp only
        split
        · exact .refl _ P s
        · refine .tx_le _ (Nat.le_refl _) ?_
          simp
      | picture =>
        unfold State.buildFor State.buildPicture
        dsimp only
        split
        · exact .refl _ P s
        · split
          · exact .refl _ P s
          · next x _ =>
            exact (Keeps.tx_le { s.tx with pictureFrame := some ⟨⟨(s.streamFrame x).1, none⟩, true⟩ }
              (Nat.le_refl _) (Nat.le_refl _)).trans (.transfer { s.transfer with serving := .streaming (s.streamFrame x).2 } id)
    have hstamped : ∀ (u : State) (f : TxFrame → TxFrame), Keeps (.accessStart slot) P u (u.mapHead f k) := by
      intro u f
      cases k with
      | urgent => exact .tx_le _ (Nat.le_of_eq (length_mapHead f u)) (Nat.le_refl _)
      | change => exact .tx_le _ (Nat.le_refl _) (Nat.le_refl _)
      | presence => exact .tx_le _ (Nat.le_refl _) (Nat.le_refl _)
      | picture => exact .tx_le _ (Nat.le_refl _) (Nat.le_refl _)
    refine (hbuilt.trans (hstamped _ _)).trans (.bus _ id (.inl ⟨⟨slot, rfl⟩, ?_⟩))
    simpa using hactive
  · exact .refl _ P s

theorem Keeps.echoFail (n : LineName) : Keeps c P s (s.echoFail n) := by
  unfold State.echoFail
  split
  · exact .refl c P s
  · next x hx =>
    have hstopped : Keeps c P s { s with bus := { s.bus with sending := some (x.stop n) } } :=
      .bus _ id (.inr fun h => nomatch hx.symm.trans h)
    exact .ite (fun _ => .refl c P s) fun _ => (hstopped.trans (.markLine n)).trans (.setReport _)

theorem Keeps.attemptFailed (x : Sending) : Keeps c P s (s.attemptFailed x) := by
  have hended : Keeps c P s { s with bus := { s.bus with sending := none, fails := min 8 (s.bus.fails + 1) } } :=
    .bus _ (fun _ => Nat.min_le_left _ _) (.inr fun _ => rfl)
  unfold State.attemptFailed
  exact (hended.trans (.latchIf _ _)).orElse fun _ => .tx_le _ (Nat.le_refl _) (Nat.le_refl _)

theorem Keeps.clearReports (p : PresenceTx) : Keeps c P s (s.clearReports p) := by
  unfold State.clearReports
  split
  · exact .node _ rfl rfl rfl rfl
  · exact .refl c P s

theorem Keeps.freePlace (k : TxClass) : Keeps c P s (s.freePlace k) := by
  cases k with
  | urgent => exact .tx_le _ (by simp) (Nat.le_refl _)
  | change => exact .tx_le _ (Nat.le_refl _) (Nat.le_refl _)
  | presence =>
    unfold State.freePlace
    dsimp only
    split
    · exact (Keeps.clearReports _).trans (.tx_le _ (Nat.le_refl _) (Nat.le_refl _))
    · exact .tx_le _ (Nat.le_refl _) (Nat.le_refl _)
  | picture => exact .tx_le _ (Nat.le_refl _) (Nat.le_refl _)

theorem Keeps.streamSent : Keeps c P s s.streamSent := by
  unfold State.streamSent
  split
  · refine .ite (fun _ => ?_) fun _ => .refl c P s
    split
    · exact .endStream
    · exact .setServing _
  · exact .refl c P s

/-- A station's own number has no peer record, so that an own frame finds none (R138, R154). -/
theorem Keeps.attemptSent (x : Sending) (hlive : P → s.node.mode.receives = true) : Keeps c P s (s.attemptSent x) := by
  have hended : Keeps c P s { s with bus := { s.bus with sending := none, fails := 0 } } :=
    .bus _ (fun _ => Nat.zero_le _) (.inr fun _ => rfl)
  unfold State.attemptSent
  refine .trans ?_ (.freePlace _)
  refine Keeps.orElse ?_ fun _ => .streamSent
  dsimp only
  split
  · refine hended.trans (.applyFrame _ _ _ hlive fun hother r hr => ?_)
    have hunset : s.node.number = none := by
      cases hnumber : s.node.number with
      | none => rfl
      | some n => simp [State.isOwn, State.own, hnumber] at hother
    have hzero : s.peer s.own = some r := hr
    simp [State.own, hunset, State.peer, stationOk] at hzero
  · exact hended

/-- Only an ACTIVE station is sending (R147), so that the frame sent is applied where the receivers are on. -/
theorem Keeps.endAttempt : Keeps c P s s.endAttempt := by
  unfold State.endAttempt
  split
  · exact .refl c P s
  · next x hx =>
    refine .ite (fun _ => .attemptFailed x) fun _ => ?_
    refine Keeps.assuming (Q := s.node.mode.receives = true) (.attemptSent x id) fun _ hs => ?_
    cases hmode : s.node.mode with
    | active => rfl
    | _ => cases (hs.station.sending (by simp [hmode])).symm.trans hx

end Sys2Proof.Keep

/-! PROOF. What the work of the second event keeps, row by row, and the second event itself (R102). -/

namespace Sys2Proof.Keep

open Sys2Proof.Machine Sys2Proof.Claims

variable {c : Instr} {P : Prop} {s t : State}

/-! ### The rows -/

theorem Keeps.goDark : Keeps c P s s.goDark := by
  unfold State.goDark
  refine .ite (fun _ => .bySecond ?_) fun _ => .refl c P s
  exact (Keeps.node { s.node with dark := true } rfl rfl rfl rfl).trans .ownDark

theorem Keeps.endListen : Keeps c P s s.endListen := by
  unfold State.endListen
  refine .ite (fun _ => ?_) fun _ => .refl c P s
  have hactive : Keeps c P s { s with node := { s.node with mode := .active, activeSince := s.now } } :=
    .enter _ rfl rfl (.inr rfl) rfl fun h => absurd rfl h
  exact ((hactive.trans .buildPresence).trans .startRefresh).trans .buildPresence

/-- A mark of the last second event is taken off; the calendar's marks are others. -/
theorem Keeps.unmark (f : SecondWork → SecondWork) (hdue : (f s.second).due = s.second.due)
    (hstart : (f s.second).start = s.second.start) : Keeps c P s (s.setSecond f) :=
  .second _ fun hs => calendarSound_of_view hs (by simp only [calendarView, hdue, hstart])

theorem Keeps.shelfWork : Keeps c P s s.shelfWork := by
  unfold State.shelfWork
  exact .ite (fun _ => (Keeps.unmark _ rfl rfl).trans .expireShelves) fun _ => .refl c P s

theorem Keeps.deadlineWork : Keeps c P s s.deadlineWork := by
  unfold State.deadlineWork
  exact .ite (fun _ => (Keeps.unmark _ rfl rfl).trans .testDeadlines) fun _ => .refl c P s

theorem Keeps.repeatWork : Keeps c P s s.repeatWork := by
  unfold State.repeatWork
  exact .ite (fun _ => (Keeps.unmark _ rfl rfl).trans .repeatRequest) fun _ => .refl c P s

theorem Keeps.lineWork : Keeps c P s s.lineWork :=
  (((Keeps.silenceLine .a).trans (.silenceLine .b)).trans (.recoverLine .a)).trans (.recoverLine .b)

theorem Keeps.peerWork : Keeps c P s s.peerWork := .foldl (fun _ _ => .losePeer _) _ s

theorem Keeps.graceWork : Keeps c P s s.graceWork := .foldl (fun _ a => .graceRunOut a) _ s

theorem Keeps.offerWork : Keeps c P s s.offerWork :=
  ((Keeps.offerTimer.trans .decisionTimer).trans .commitTimer).trans .fireSchedule

theorem Keeps.refreshWork : Keeps c P s s.refreshWork :=
  (Keeps.refreshWaitTest.trans .refreshStallTest).trans .repeatWork

theorem Keeps.rebadgeWork : Keeps c P s s.rebadgeWork := .rebadgeMany _ s

theorem Keeps.finishSecond : Keeps c P s s.finishSecond := by
  have hlost : Keeps c P s s.finishCalendar.lineWork.peerWork := (Keeps.finishCalendar.trans .lineWork).trans .peerWork
  have hgrace : Keeps c P s s.finishCalendar.lineWork.peerWork.goDark.endListen.graceWork :=
    ((hlost.trans .goDark).trans .endListen).trans .graceWork
  exact ((((hgrace.trans .offerWork).trans .refreshWork).trans .rebadgeWork).trans .shelfWork).trans .deadlineWork

theorem tick_annunciatorSound {h : Horn} {top : Option Priority}
    (hs : ∀ p half, h = .sounding p half → top.map Priority.pattern = some p) :
    ∀ p half, h.tick = .sounding p half → top.map Priority.pattern = some p := by
  intro p half e
  cases h with
  | quiet => cases e
  | silenced => cases e
  | sounding q k =>
    cases e
    exact hs _ k rfl

theorem Keeps.cadence (which : Annunciator) : Keeps c P s (s.cadence which) := by
  cases which with
  | horn =>
    refine .picture _ rfl fun hs => ⟨hs.flashing, hs.steady, fun h => ?_, tick_annunciatorSound hs.pattern⟩
    show s.picture.horn.tick = .quiet
    rw [hs.quiet h]
    rfl
  | lamp =>
    refine .picture _ rfl fun hs => ⟨?_, ?_, hs.quiet, hs.pattern⟩
    · refine Iff.trans ?_ hs.flashing
      show (∃ high, s.picture.lamp.tick = .flashing high) ↔ _
      cases s.picture.lamp <;> simp [Lamp.tick]
    · refine Iff.trans ?_ hs.steady
      show s.picture.lamp.tick = .steady ↔ _
      cases s.picture.lamp <;> simp [Lamp.tick]

/-! ### The second that begins (R102 to R104) -/

theorem finishSecond_marks (s : State) : s.finishSecond.second.due = false ∧ s.finishSecond.second.start = false := by
  have hshelf : ∀ u : State,
      u.shelfWork.second.due = u.second.due ∧ u.shelfWork.second.start = u.second.start := fun u => by
    unfold State.shelfWork
    split <;> simp
  have hdeadline : ∀ u : State,
      u.deadlineWork.second.due = u.second.due ∧ u.deadlineWork.second.start = u.second.start := fun u => by
    unfold State.deadlineWork
    split <;> simp
  have hrepeat : ∀ u : State,
      u.repeatWork.second.due = u.second.due ∧ u.repeatWork.second.start = u.second.start := fun u => by
    unfold State.repeatWork
    split <;> simp
  obtain ⟨hdue, hstart⟩ := finishCalendar_marks s
  unfold State.finishSecond State.refreshWork
  simp [hshelf, hdeadline, hrepeat, hdue, hstart]

theorem Keeps.markInstants (hdue : s.second.due = false) (hstart : s.second.start = false) :
    Keeps .secondEvent P s (s.setClock Clock.advance).markInstants := by
  have hshape : (s.setClock Clock.advance).markInstants = { s with
      clock := (s.setClock Clock.advance).markInstants.clock
      second := (s.setClock Clock.advance).markInstants.second } := by
    unfold State.markInstants
    split <;> rfl
  have hpattern : (s.setClock Clock.advance).markInstants.clock.pattern = s.clock.pattern := by
    unfold State.markInstants
    split <;> rfl
  rw [hshape]
  refine .clock_now _ _ (.inl rfl) hpattern fun _ hs => ⟨?_, ?_⟩
  · unfold State.markInstants
    split
    · exact clockSound_calendar (clockSound_advance hs.clock) _ _ _
    · exact clockSound_advance hs.clock
  · exact hshape ▸ markInstants_calendarSound hs.clock hs.calendar hdue hstart

theorem Keeps.markTests : Keeps c P s s.markTests := .unmark _ rfl rfl

theorem Keeps.presenceWork : Keeps c P s s.presenceWork := by
  unfold State.presenceWork
  refine .ite (fun _ => .ite (fun _ => ?_) fun _ => .buildPresence) fun _ => .refl c P s
  have hcount : Keeps c P s { s with freeCount := s.freeCount + 1 } := .freeCount _
  exact (hcount.orElse fun _ => .goDark).trans .buildPresence

theorem Keeps.beginSecond (hdue : s.second.due = false) (hstart : s.second.start = false) :
    Keeps .secondEvent P s s.beginSecond :=
  (((((Keeps.markInstants hdue hstart).trans .decayAll).trans .countPeers).trans .countLines).trans .markTests).trans
    .presenceWork

theorem Keeps.secondEvent : Keeps .secondEvent P s s.secondEvent := by
  obtain ⟨hdue, hstart⟩ := finishSecond_marks s
  exact Keeps.finishSecond.trans (.beginSecond hdue hstart)

end Sys2Proof.Keep

/-! PROOF. What each request's rule keeps (12.3, 13.4). -/

namespace Sys2Proof.Keep

open Sys2Proof.Machine Sys2Proof.Claims

variable {c : Instr} {P : Prop} {s t : State}

/-- A refused request keeps the state; one that passes its checks may use that they passed. -/
theorem Keeps.checked {checks : List (Bool × ResultCode)} {effect : State → Reply}
    (h : (∀ x ∈ checks, x.1 = false) → Keeps c P s (effect s).state) : Keeps c P s (checked checks effect s).state := by
  unfold Machine.checked
  split
  · exact .refl c P s
  · next hnone => exact h ((firstFail_none_iff _).mp hnone)

theorem active_of_not_inactive (h : s.inactive = false) : s.node.mode = .active := by
  simpa [State.inactive, State.isActive] using h

/-! ### Setting up in CONFIG (R54, R107, R133, R148) -/

/-- In CONFIG nothing is locked: what a command must keep there is soundness, and what no request of it touches. -/
theorem Keeps.in_config (hmode : s.node.mode = .config) (hsound : P → s.Sound → t.Sound)
    (hserials : t.areas.map Area.serial = s.areas.map Area.serial) (hnow : t.clock.now = s.clock.now)
    (hbus : t.bus = s.bus) (hport : t.port = s.port) (hpending : t.pending = s.pending) : Keeps c P s t where
  sound := hsound
  live := fun h => by simp [hmode, Mode.receives] at h
  locked := fun h => absurd hmode h
  flags := .inr fun f h => by simpa only [State.flagSet, hport] using h
  serials := fun a => Nat.le_of_eq (congrArg BitVec.toNat (area_eq_of_map (s := s) (x := t.areas) hserials a).symm)
  now := .inr hnow
  sending := .inr fun h => by rw [hbus, h]
  started := fun h => hport ▸ h
  pending := hpending

/-- In CONFIG list and peer table are empty and no area is held (R147). -/
theorem empty_in_config (hs : s.Sound) (hmode : s.node.mode = .config) :
    s.picture.list = [] ∧ (∀ r ∈ s.peers, r = none) ∧ ∀ r ∈ s.areas, r.hold = .unheld :=
  have hoff : s.node.mode.receives = false := by rw [hmode]; rfl
  ⟨hs.station.list hoff, hs.station.peers hoff, hs.station.holds hoff⟩

theorem outputView_of_list_nil {u : State} (hlist : s.picture.list = []) (hpicture : u.picture = s.picture) :
    outputView u = outputView s := by
  simp only [outputView, State.routedUnack, State.routedAck, hpicture, hlist, List.filter_nil]

theorem windowView_of_list_nil {u : State} (hlist : s.picture.list = []) (hpicture : u.picture = s.picture)
    (hwindow : u.window = s.window) : windowView u = windowView s := by
  simp only [windowView, State.scoped, hpicture, hwindow, hlist, List.filter_nil]

theorem handoverSound_idle {u : State} (hidle : u.handover.outgoing = .idle) (hnone : u.handover.rebadge = 0) :
    HandoverSound u :=
  ⟨fun a h => by simp [hnone] at h, fun o h => by simp [hidle] at h, fun o h => by simp [hidle] at h,
    fun _ => ⟨hidle, hnone⟩⟩

theorem Keeps.ruleSetStation (number gap : Byte) : Keeps c P s (ruleSetStation number gap s).state := by
  refine .checked fun h => ?_
  have hmode : s.node.mode = .config := by simpa [State.modeIs] using h (!s.modeIs .config, .badState) (by simp)
  refine .in_config hmode (fun _ hs => ?_) rfl rfl rfl rfl rfl
  obtain ⟨hlist, hpeers, hholds⟩ := empty_in_config hs hmode
  obtain ⟨hidle, hnone⟩ := hs.handover.inactive (by simp [hmode])
  refine ⟨hs.list, hs.loads, queuesSound_of_view hs.queues rfl, hs.clock, calendarSound_of_view hs.calendar rfl,
    windowSound_of_view hs.window (windowView_of_list_nil hlist rfl rfl), hs.port,
    ⟨hs.peers.places, fun n _ => ?own, hs.peers.silence, hs.peers.lost⟩, stationSound_of_view hs.station rfl,
    annunciatorSound_of_view hs.output (outputView_of_list_nil hlist rfl), handoverSound_idle hidle hnone⟩
  case own =>
    cases hpeer : State.peer _ n with
    | none => rfl
    | some r =>
      have hmem : some r ∈ s.peers := peer_mem (s := s) hpeer
      cases hpeers _ hmem

theorem configure_fields (r : Area) (x : Option AreaConfig) :
    (r.configure x).hold = r.hold ∧ (r.configure x).serial = r.serial := by
  cases x <;> exact ⟨rfl, rfl⟩

theorem configure_load_zero {r : Area} (x : Option AreaConfig) (h : r.load = 0 ∧ r.flood = false) :
    (r.configure x).load = 0 ∧ (r.configure x).flood = false := by
  cases x with
  | none => exact ⟨rfl, rfl⟩
  | some k => exact h

theorem Keeps.ruleSetArea (area configured : Byte) (settings : Option AreaSettings) :
    Keeps c P s (ruleSetArea area configured settings s).state := by
  refine .checked fun h => ?_
  have hmode : s.node.mode = .config := by simpa [State.modeIs] using h (!s.modeIs .config, .badState) (by simp)
  obtain ⟨hhold, hserial⟩ := configure_fields (s.area area.toNat) (settings.map storedConfig)
  refine .in_config hmode (fun _ hs => ?_) (map_set_area hserial) rfl rfl rfl rfl
  obtain ⟨hlist, -, hholds⟩ := empty_in_config hs hmode
  have hzero : (s.area area.toNat).load = 0 ∧ (s.area area.toNat).flood = false := by
    obtain hmem | hinitial := area_mem_or_initial s area.toNat
    · exact hs.station.loads hmode _ hmem
    · rw [hinitial]
      exact ⟨rfl, rfl⟩
  have hconfigured : ((s.area area.toNat).configure (settings.map storedConfig)).LoadSound :=
    configure_loadSound settings hzero.1 hzero.2
  have hsame : State.holds (s.setArea area.toNat ((s.area area.toNat).configure (settings.map storedConfig))) = s.holds :=
    holds_of_map (map_set_area hhold)
  refine ⟨hs.list, LoadsSound.setArea hs.loads _ hconfigured, queuesSound_of_view hs.queues rfl, hs.clock,
    calendarSound_of_view hs.calendar rfl, windowSound_of_view hs.window (windowView_of_list_nil hlist rfl rfl), hs.port,
    peersSound_of_view hs.peers rfl, ⟨?length, hs.station.sending, hs.station.list, hs.station.peers,
      fun _ r hr => ?unheld, fun _ r hr => ?zero⟩, annunciatorSound_of_view hs.output (outputView_of_list_nil hlist rfl),
    handoverSound_of_view hs.handover (congrArg (fun f => (s.handover.rebadge, s.handover.outgoing, f, s.node.mode)) hsame)⟩
  case length => exact (State.setArea_length s _ _).trans hs.station.areas
  all_goals obtain hold | rfl := List.mem_or_eq_of_mem_set hr
  case unheld.inl => exact hholds r hold
  case unheld.inr =>
    rw [hhold]
    obtain hmem | hinitial := area_mem_or_initial s area.toNat
    · exact hholds _ hmem
    · rw [hinitial]
      rfl
  case zero.inl => exact hs.station.loads hmode r hold
  case zero.inr => exact configure_load_zero _ hzero

theorem clampLead_le (x : Byte) : clampLead x ≤ 120 := Nat.min_le_left _ _

theorem Keeps.ruleSetShiftPattern (perDay : Byte) (first : Half) (lead grace : Byte) :
    Keeps c P s (ruleSetShiftPattern perDay first lead grace s).state := by
  refine .checked fun h => ?_
  have hmode : s.node.mode = .config := by simpa [State.modeIs] using h (!s.modeIs .config, .badState) (by simp)
  have hvalues := h (perDay.toNat < 1 || 4 < perDay.toNat || 1439 < first.toNat, .badValue)
    (List.mem_cons_of_mem _ List.mem_cons_self)
  simp only [Bool.or_eq_false_iff, decide_eq_false_iff_not, Nat.not_lt] at hvalues
  obtain ⟨⟨hone, hfour⟩, hfirst⟩ := hvalues
  obtain ⟨hdue, hstart⟩ := finishCalendar_marks s
  refine Keeps.finishCalendar.trans (.in_config (by simpa using hmode) (fun _ hs => ?_) rfl rfl rfl rfl rfl)
  exact ⟨hs.list, hs.loads, queuesSound_of_view hs.queues rfl,
    ⟨hs.clock.mill, hs.clock.phase, hs.clock.trim, ⟨hone, hfour⟩, hfirst, clampLead_le lead, clampLead_le grace⟩,
    calendarSound_of_marks hdue hstart rfl rfl, windowSound_of_view hs.window rfl, hs.port,
    peersSound_of_view hs.peers rfl, stationSound_of_view hs.station rfl, annunciatorSound_of_view hs.output rfl,
    handoverSound_of_view hs.handover rfl⟩

theorem Keeps.ruleSetClock (millTime : Quad) : Keeps c P s (ruleSetClock millTime s).state := by
  refine .checked fun h => .stepClock ?_
  have := h (Config.lastMillTime < millTime.toNat, .badValue) (by simp)
  simpa using this

theorem clampTrim_range (x : Byte) : -63 ≤ clampTrim x ∧ clampTrim x ≤ 63 := by
  unfold clampTrim
  omega

theorem Keeps.ruleSetTrim (trim : Byte) : Keeps c P s (ruleSetTrim trim s).state :=
  .clock { s.clock with trim := clampTrim trim } s.second rfl rfl fun _ hs =>
    ⟨⟨hs.clock.mill, hs.clock.phase, clampTrim_range trim, hs.clock.perDay, hs.clock.first, hs.clock.lead,
      hs.clock.grace⟩, calendarSound_of_view hs.calendar rfl⟩

theorem Keeps.ruleJoin : Keeps c P s (ruleJoin s).state := by
  refine .checked fun h => ?_
  have hmode : s.node.mode = .config ∨ s.node.mode = .ready := by
    have := h (!s.modeIs .config && !s.modeIs .ready, .badState) (by simp)
    simp only [State.modeIs, Bool.and_eq_false_iff, Bool.not_eq_false', beq_iff_eq] at this
    exact this
  refine .enter _ rfl rfl ?_ rfl fun _ hactive => by simp [hactive] at hmode
  obtain hconfig | hready := hmode
  · exact .inl hconfig
  · exact .inr (by simp [State.joinDigest, State.modeIs, hready])

/-! ### Reading -/

theorem Keeps.ruleReadAttention : Keeps .readAttention P s (ruleReadAttention s).state :=
  .port _ (.inl rfl) id fun h => ⟨h.number, h.busy⟩

theorem Keeps.ruleReadWindow : Keeps c P s (ruleReadWindow s).state := .window_view _ rfl

theorem Keeps.ruleReadPeer (n : Byte) : Keeps c P s (ruleReadPeer n s).state := by
  unfold Machine.ruleReadPeer
  split
  · split <;> exact .refl c P s
  · exact .refl c P s

theorem Keeps.ruleReadArea (a : Byte) : Keeps c P s (ruleReadArea a s).state := by
  unfold Machine.ruleReadArea
  split <;> exact .refl c P s

theorem Keeps.ruleReadAlarm (id : AlarmId) : Keeps c P s (ruleReadAlarm id s).state := by
  unfold Machine.ruleReadAlarm
  split
  · split <;> exact .refl c P s
  · exact .refl c P s

theorem Keeps.ruleReadList (start : Half) : Keeps c P s (ruleReadList start s).state := by
  unfold Machine.ruleReadList
  split <;> exact .refl c P s

/-! ### The sign-on table (chapter 5) -/

theorem Keeps.ruleSignOn (badge : Badge) (rank : Byte) (q : AreaSet) : Keeps c P s (ruleSignOn badge rank q s).state :=
  .checked fun _ => .activeChanged _

theorem Keeps.ruleSignOnRelief (badge : Badge) (rank : Byte) (q : AreaSet) :
    Keeps c P s (ruleSignOnRelief badge rank q s).state := .checked fun _ => .signOn_same _ rfl

theorem Keeps.ruleSignOffActive : Keeps c P s (ruleSignOffActive s).state :=
  .checked fun _ => (Keeps.activeChanged _).trans .operatorGone

theorem Keeps.ruleSignOffRelief (slot : Byte) : Keeps c P s (ruleSignOffRelief slot s).state :=
  .checked fun _ => (Keeps.signOn_same { s.signOn with relief := none } rfl).trans .reliefGone

theorem Keeps.ruleSetActingRank (slot rank : Byte) : Keeps c P s (ruleSetActingRank slot rank s).state := by
  refine .checked fun _ => ?_
  split
  · exact .refl c P s
  · next o ho =>
    unfold State.slot at ho
    refine .ite (fun hslot => .signOn_same _ ?_) fun _ => .signOn_same _ rfl
    rw [if_pos hslot] at ho
    rw [ho]
    rfl

/-! ### Alarms (chapters 1 and 2) -/

theorem Keeps.post (e : ChangeEntry) (h : s.changeFull = false) : Keeps c P s (s.post e).state := by
  refine .tx _ (fun _ => id) fun _ _ => ?_
  have hroom : ¬32 ≤ s.tx.change.length := of_decide_eq_false h
  simp only [List.length_append, List.length_singleton]
  omega

theorem Keeps.rulePostRaise (id : AlarmId) (p : Byte) : Keeps c P s (rulePostRaise id p s).state :=
  .checked fun h => .post _ (h (s.changeFull, .queueFull) (by simp))

theorem Keeps.rulePostClear (id : AlarmId) : Keeps c P s (rulePostClear id s).state :=
  .checked fun h => .post _ (h (s.changeFull, .queueFull) (by simp))

theorem Keeps.sendPermitted (act : Action) (area : Nat) (f : Frame) (b : AnswerBody) :
    Keeps c P s (s.sendPermitted act area f b).state :=
  .checked fun h => .queue f fun _ => by simpa using h (!s.hasRoom, .queueFull) (by simp)

theorem Keeps.ruleAcknowledge (id : AlarmId) (n : Byte) : Keeps c P s (ruleAcknowledge id n s).state := by
  refine .checked fun _ => ?_
  split
  · exact .refl c P s
  · split
    · exact .sendPermitted ..
    · exact .refl c P s

theorem length_ackFrames_le (badge : Badge) (n : Nat) : ∀ es, (ackFrames badge n es).length ≤ n := by
  induction n with
  | zero => exact fun es => Nat.le_refl _
  | succ n ih =>
    intro es
    cases es with
    | nil => exact Nat.zero_le _
    | cons e rest => exact Nat.succ_le_succ (ih _)

theorem Keeps.queueAll (fs : List Frame) : ∀ s : State, fs.length ≤ s.urgentFree → Keeps c P s (s.queueAll fs) := by
  induction fs with
  | nil => exact fun s _ => .refl c P s
  | cons f rest ih =>
    intro s hfree
    simp only [State.urgentFree, Config.urgentCapacity, List.length_cons] at hfree
    refine (Keeps.queue f fun _ => ?_).trans (ih (s.queue f) ?_)
    · exact decide_eq_true (show s.tx.urgent.length < 8 by omega)
    · simp only [State.urgentFree, Config.urgentCapacity, State.queue, List.length_append, List.length_singleton]
      omega

theorem Keeps.ruleAcknowledgeArea (area : Byte) : Keeps c P s (ruleAcknowledgeArea area s).state := by
  refine .checked fun _ => ?_
  split
  · exact .refl c P s
  · exact .checked fun _ => .queueAll _ s (length_ackFrames_le ..)

theorem Keeps.ruleShelve (id : AlarmId) (m : Half) : Keeps c P s (ruleShelve id m s).state :=
  .checked fun h => .queue _ fun _ => by simpa using h (!s.hasRoom, .queueFull) (by simp)

theorem Keeps.ruleUnshelve (id : AlarmId) : Keeps c P s (ruleUnshelve id s).state := by
  refine .checked fun _ => ?_
  split
  · exact .refl c P s
  · split
    · exact .sendPermitted ..
    · exact .refl c P s

theorem Keeps.ruleSilenceHorn : Keeps c P s (ruleSilenceHorn s).state := by
  refine .checked fun _ => .picture _ rfl fun hs => ⟨hs.flashing, hs.steady, fun h => ?_, fun p half h => ?_⟩
  · show s.picture.horn.silence = .quiet
    rw [hs.quiet h]
    rfl
  · have h : s.picture.horn.silence = .sounding p half := h
    cases hhorn : s.picture.horn <;> simp [hhorn, Horn.silence] at h

/-! ### The acknowledge window (chapter 3) -/

/-- A placement keeps the window within its list where the change of position does (R42, R50). -/
theorem Keeps.place {f : State → State} (w : Window) (hf : f s = { s with window := w })
    (h : WindowSound s → WindowSound (f s)) : Keeps c P s (s.place f) := by
  have hput : Keeps c P s (f s) := hf ▸ .window w fun _ hs => hf ▸ h hs
  unfold State.place
  exact (hput.trans (.window_view _ rfl)).trans (.window_view _ rfl)

theorem Keeps.rulePlaceCursor (row : Byte) : Keeps c P s (rulePlaceCursor row s).state := by
  refine .checked fun h => ?_
  have hrow := h (7 < row.toNat, .badValue) (by simp)
  refine (Keeps.window { s.window with row := row.toNat } fun _ hs => ⟨?_, hs.top⟩).trans (.window_view _ rfl)
  simpa using hrow

theorem Keeps.ruleScroll (offset : Half) : Keeps c P s (ruleScroll offset s).state := by
  refine .checked fun _ => .place _ rfl fun hs => ⟨hs.row, ?_⟩
  show scrolledTop s.window.top s.scoped.length offset.toInt ≤ s.scoped.length - 1
  unfold scrolledTop
  omega

theorem clampTop_windowSound (hrow : s.window.row ≤ 7) : WindowSound s.clampTop := by
  refine ⟨hrow, ?_⟩
  show lastPage s.window.top s.scoped.length ≤ s.scoped.length - 1
  unfold lastPage
  omega

theorem Keeps.ruleSetScope (scope : Byte) : Keeps c P s (ruleSetScope scope s).state := by
  refine .checked fun _ => ?_
  split
  · exact .refl c P s
  · next x _ =>
    exact .place (f := fun s => (s.setWindow fun w => { w with scope := x }).clampTop) _ rfl
      fun hs => clampTop_windowSound hs.row

theorem Keeps.ruleSetFocus (area : Byte) : Keeps c P s (ruleSetFocus area s).state := by
  refine .checked fun _ => ?_
  dsimp only
  split
  · exact .place (f := fun s => (s.setWindow fun w => { w with focus := focusOf area }).clampTop) _ rfl
      fun hs => clampTop_windowSound hs.row
  · next hscope =>
    have hscoped : State.scoped (s.setWindow fun w => { w with focus := focusOf area }) = s.scoped := by
      unfold State.scoped
      congr 1
      funext r
      unfold State.admits
      cases hcase : s.window.scope <;> simp_all [State.setWindow, State.holds, State.area, State.isOwn]
    exact .window_view _ (congrArg (fun l => (s.window.row, s.window.top, l.length)) hscoped)

theorem Keeps.ruleSetEntryMode (d f : Byte) : Keeps c P s (ruleSetEntryMode d f s).state := by
  refine .checked fun _ => ?_
  split
  · exact .window_view _ rfl
  · exact .refl c P s
  · exact .refl c P s

theorem advanced_windowSound {w : Window} {n : Nat} (hrow : w.row ≤ 7) (htop : w.top ≤ n - 1) :
    (w.advanced n).row ≤ 7 ∧ (w.advanced n).top ≤ n - 1 := by
  unfold Window.advanced
  split
  · split
    · exact ⟨by simp only; omega, htop⟩
    · split
      · next h =>
        simp only [Bool.and_eq_true, decide_eq_true_eq] at h
        exact ⟨hrow, by simp only; omega⟩
      · exact ⟨hrow, htop⟩
  · split
    · exact ⟨by simp only; omega, htop⟩
    · split
      · exact ⟨hrow, by simp only; omega⟩
      · exact ⟨hrow, htop⟩

theorem advanced_scope (w : Window) (n : Nat) :
    (w.advanced n).scope = w.scope ∧ (w.advanced n).focus = w.focus := by
  unfold Window.advanced
  repeat' split
  all_goals exact ⟨rfl, rfl⟩

/-- The scope and the focus area alone say what the window admits (R40). -/
theorem scoped_of_window {w : Window} (hscope : w.scope = s.window.scope) (hfocus : w.focus = s.window.focus) :
    State.scoped { s with window := w } = s.scoped := by
  unfold State.scoped
  congr 1
  funext r
  unfold State.admits
  dsimp only
  rw [hscope, hfocus]
  rfl

theorem Keeps.advance : Keeps c P s s.advance := by
  obtain ⟨hscope, hfocus⟩ := advanced_scope s.window s.scoped.length
  refine .place (f := fun s => s.setWindow (Window.advanced s.scoped.length)) (s.window.advanced s.scoped.length) rfl
    fun hs => ?_
  obtain ⟨hrow, htop⟩ := advanced_windowSound hs.row hs.top
  have hmoved : WindowSound { s with window := s.window.advanced s.scoped.length } :=
    ⟨hrow, by rw [scoped_of_window hscope hfocus]; exact htop⟩
  exact hmoved

theorem Keeps.ruleAcknowledgeAtCursor : Keeps c P s (ruleAcknowledgeAtCursor s).state := by
  refine .checked fun _ => ?_
  split
  · exact .refl c P s
  · unfold State.acknowledgeSnapshot
    split
    · exact .window_view _ rfl
    · split
      · exact .window_view _ rfl
      · split
        · exact .advance
        · exact .checked fun h => .trans (.queue _ fun _ => by simpa using h (!s.hasRoom, .queueFull) (by simp)) .advance

/-! ### Areas and offers (chapters 6 and 8) -/

theorem Keeps.claimOrAnswer (act : Action) (wrong : Bool) (a : Nat) (f : Frame) :
    Keeps c P s (s.claimOrAnswer act wrong a f).state := by
  unfold State.claimOrAnswer
  split
  · exact .refl c P s
  · exact .checked fun h => .queue f fun _ => by simpa using h (!s.hasRoom, .queueFull) (by simp [State.claimChecks])

theorem Keeps.ruleClaimArea (a : Byte) : Keeps c P s (ruleClaimArea a s).state := .checked fun _ => .claimOrAnswer ..

theorem Keeps.ruleTakeArea (a : Byte) : Keeps c P s (ruleTakeArea a s).state := .checked fun _ => .claimOrAnswer ..

theorem Keeps.ruleOffer (target : Station) (areas : AreaSet) : Keeps c P s (ruleOffer target areas s).state := by
  unfold Machine.ruleOffer
  split
  · exact .refl c P s
  · next hnone => exact .makeOffer hnone

theorem Keeps.decide {rest : InOffer → State → Reply} (n : Byte)
    (h : s.node.mode = .active → ∀ o, Keeps c P s (rest o s).state) : Keeps c P s (s.decide n rest).state := by
  refine .checked fun hchecks => ?_
  have hactive := active_of_not_inactive (hchecks (s.inactive, .badState) (by simp))
  split
  · exact .refl c P s
  · split
    · exact h hactive _
    · exact .refl c P s

theorem Keeps.ruleAccept (n : Byte) : Keeps c P s (ruleAccept n s).state := by
  refine .decide n fun hactive o => ?_
  split
  · exact .checked fun _ => .commitSeat _ hactive
  · refine .checked fun h => .trans (.queue (answerAccept o.origin o.number s.activeBadge) fun _ => ?_)
      (.handover_same _ rfl rfl)
    simpa using h (!s.hasRoom, .queueFull) (by simp)

theorem Keeps.ruleDecline (n : Byte) : Keeps c P s (ruleDecline n s).state := by
  refine .decide n fun _ o => ?_
  split
  · exact .endSeat o.number (.declined reasonDeclined)
  · refine .checked fun h => (Keeps.queue (answerDecline o.origin o.number reasonDeclined) fun _ => ?_).trans
      (.endIn o (.declined reasonDeclined))
    simpa using h (!s.hasRoom, .queueFull) (by simp)

theorem Keeps.ruleWithdraw : Keeps c P s (ruleWithdraw s).state := by
  refine .checked fun _ => ?_
  split
  · exact .refl c P s
  · exact .refl c P s
  · exact .dropOffer _ _

theorem Keeps.setScheduled (x : Scheduled) : Keeps c P s (s.setScheduled x) :=
  (Keeps.handover_same { s.handover with scheduled := x, fireBySecond := false } rfl rfl).trans
    (.unmark (fun w => { w with schedule := false }) rfl rfl)

theorem Keeps.ruleSchedule (target : Station) (areas : AreaSet) (fire : FireTime) :
    Keeps c P s (ruleSchedule target areas fire s).state := .checked fun _ => .setScheduled _

theorem Keeps.ruleCancelSchedule : Keeps c P s (ruleCancelSchedule s).state := .checked fun _ => .setScheduled _

end Sys2Proof.Keep

/-! PROOF. What every command keeps: the case split over the commands, each a short use of what its operation keeps; the
resets; and the statements about every step that follow from it. -/

namespace Sys2Proof.Keep

open Sys2Proof.Machine Sys2Proof.Claims

variable {c : Instr} {P : Prop} {s t : State}

/-! ### A request (R172, R173, R175) -/

/-- The pending answer of a part that has started. -/
theorem Keeps.answer (code : Byte) (result : ResultCode) (body : AnswerBody) (hstarted : s.port.started = true) :
    Keeps c P s (s.answer code result body) :=
  .port _ (.inr fun _ => id) id fun _ => ⟨rfl, fun _ => hstarted⟩

theorem Keeps.request {code : Byte} {rule : State → Reply} (h : ∀ s, Keeps c P s (rule s).state) :
    Keeps c P s (request code rule s) := by
  refine .ite (fun hopen => ?_) fun _ => .refl c P s
  have hcheckIn : Keeps c P s s.checkIn := .node _ rfl rfl rfl rfl
  have hrule := hcheckIn.trans (h s.checkIn)
  refine hrule.trans (.answer code _ _ (hrule.started ?_))
  exact (Bool.and_eq_true_iff.mp hopen).1

/-! ### Every command but the resets -/

/-- A power-on reset, RESET_N and RESTART, which empty the station. -/
def Resets (c : Instr) : Prop := c = .powerOnReset ∨ c = .resetN ∨ c = .restart

/-- A command answers a next state, and keeps what `Keeps` gathers. -/
def Kept (c : Instr) (s : State) : Prop := ∃ t, exec c s = .next t ∧ Keeps c True s t

theorem Kept.request {code : Byte} {rule : State → Reply} (hexec : exec c s = .next (request code rule s))
    (h : ∀ s, Keeps c True s (rule s).state) : Kept c s := ⟨_, hexec, .request h⟩

theorem exec_kept (h : ¬Resets c) : Kept c s := by
  cases c with
  | powerOnReset => exact absurd (.inl rfl) h
  | resetN => exact absurd (.inr (.inl rfl)) h
  | restart => exact absurd (.inr (.inr rfl)) h
  | partStart => exact ⟨_, rfl, .port _ (.inr fun _ => id) (fun _ => rfl) fun h => ⟨h.number, fun _ => rfl⟩⟩
  | discardedTransaction => exact ⟨_, rfl, .refl ..⟩
  | busyPeriodEnd => exact ⟨_, rfl, .port _ (.inr fun _ => id) id fun h => ⟨h.number, nofun⟩⟩
  | unknownRequest | nop | readStatus | readHandover => exact .request rfl fun s => .refl _ _ s
  | readAttention => exact .request rfl fun s => .ruleReadAttention
  | readPeer n => exact .request rfl fun s => .ruleReadPeer n
  | readArea a => exact .request rfl fun s => .ruleReadArea a
  | readAlarm a p => exact .request rfl fun s => .ruleReadAlarm ⟨a, p⟩
  | readList n => exact .request rfl fun s => .ruleReadList n
  | readWindow => exact .request rfl fun s => .ruleReadWindow
  | setTrim x => exact .request rfl fun s => .ruleSetTrim x
  | setStation n g => exact .request rfl fun s => .ruleSetStation n g
  | setArea a k x => exact .request rfl fun s => .ruleSetArea a k x
  | setShiftPattern d f l g => exact .request rfl fun s => .ruleSetShiftPattern d f l g
  | setClock x => exact .request rfl fun s => .ruleSetClock x
  | join => exact .request rfl fun s => .ruleJoin
  | signOn b r q => exact .request rfl fun s => .ruleSignOn b r q
  | signOnRelief b r q => exact .request rfl fun s => .ruleSignOnRelief b r q
  | signOffActive => exact .request rfl fun s => .ruleSignOffActive
  | signOffRelief x => exact .request rfl fun s => .ruleSignOffRelief x
  | setActingRank x r => exact .request rfl fun s => .ruleSetActingRank x r
  | postRaise a p x => exact .request rfl fun s => .rulePostRaise ⟨a, p⟩ x
  | postClear a p => exact .request rfl fun s => .rulePostClear ⟨a, p⟩
  | acknowledge a p n => exact .request rfl fun s => .ruleAcknowledge ⟨a, p⟩ n
  | acknowledgeArea a => exact .request rfl fun s => .ruleAcknowledgeArea a
  | acknowledgeAtCursor => exact .request rfl fun s => .ruleAcknowledgeAtCursor
  | shelve a p m => exact .request rfl fun s => .ruleShelve ⟨a, p⟩ m
  | unshelve a p => exact .request rfl fun s => .ruleUnshelve ⟨a, p⟩
  | silenceHorn => exact .request rfl fun s => .ruleSilenceHorn
  | placeCursor r => exact .request rfl fun s => .rulePlaceCursor r
  | scroll x => exact .request rfl fun s => .ruleScroll x
  | setScope x => exact .request rfl fun s => .ruleSetScope x
  | setFocus a => exact .request rfl fun s => .ruleSetFocus a
  | setEntryMode d f => exact .request rfl fun s => .ruleSetEntryMode d f
  | claimArea a => exact .request rfl fun s => .ruleClaimArea a
  | takeArea a => exact .request rfl fun s => .ruleTakeArea a
  | offerHandover n m => exact .request rfl fun s => .ruleOffer n m
  | offerSeatChange m => exact .request rfl fun s => .ruleOffer s.own m
  | acceptHandover n => exact .request rfl fun s => .ruleAccept n
  | declineHandover n => exact .request rfl fun s => .ruleDecline n
  | withdrawOffer => exact .request rfl fun s => .ruleWithdraw
  | scheduleOffer n m f => exact .request rfl fun s => .ruleSchedule n m (fireTimeOf f)
  | cancelSchedule => exact .request rfl fun s => .ruleCancelSchedule
  | secondEvent => exact ⟨_, rfl, .secondEvent⟩
  | shelfExpiry => exact ⟨_, rfl, .shelfWork⟩
  | responseDeadline => exact ⟨_, rfl, .deadlineWork⟩
  | orphanGraceRunOut a => exact ⟨_, rfl, .graceRunOut _⟩
  | peerLost n => exact ⟨_, rfl, .losePeer n⟩
  | consoleDark => exact ⟨_, rfl, .goDark⟩
  | listenEnd => exact ⟨_, rfl, .endListen⟩
  | lineRecovery n => exact ⟨_, rfl, .recoverLine n⟩
  | lineSilent n => exact ⟨_, rfl, .silenceLine n⟩
  | dueInstant => exact ⟨_, rfl, .dueWork⟩
  | shiftStart => exact ⟨_, rfl, .startWork⟩
  | overdueInstant => exact ⟨_, rfl, .overdueWork⟩
  | scheduleReached => exact ⟨_, rfl, .scheduleWork⟩
  | scheduledOfferFire => exact ⟨_, rfl, .fireSchedule⟩
  | offerTimeout => exact ⟨_, rfl, .offerTimer⟩
  | decisionWindow => exact ⟨_, rfl, .decisionTimer⟩
  | commitWait => exact ⟨_, rfl, .commitTimer⟩
  | refreshWaitFailure => exact ⟨_, rfl, .refreshWaitTest⟩
  | refreshStallFailure => exact ⟨_, rfl, .refreshStallTest⟩
  | pictureRequestRepeat => exact ⟨_, rfl, .repeatWork⟩
  | rebadgeClaimBuild => exact ⟨_, rfl, .rebadgeOne⟩
  | accessStart slot => exact ⟨_, rfl, .access slot _⟩
  | echoCheckFailure n => exact ⟨_, rfl, .echoFail n⟩
  | attemptEnd => exact ⟨_, rfl, .endAttempt⟩
  | annunciatorHalfSecond which => exact ⟨_, rfl, .cadence which⟩
  | malformedFrame | duplicateFrame | presence | alarmChange | ackFrame | shelveFrame | unshelveFrame | claimFrame
  | takeFrame | offerFrame | answerFrame | commitFrame | withdrawFrame | pictureRequest | picture | pictureEnd =>
    exact ⟨_, rfl, .receive ..⟩

/-- What a command that is no reset keeps. -/
theorem keeps_of_exec (hexec : exec c s = .next t) (h : ¬Resets c) : Keeps c True s t := by
  obtain ⟨u, hu, hkeeps⟩ := exec_kept (s := s) h
  cases hexec.symm.trans hu
  exact hkeeps

/-! ### The resets -/

/-- A station with an empty list, no peers, no held area, no offer and empty queues is sound, whatever its settings and
its clock. -/
theorem reset_like_sound (n : Node) (areas : List Area) (k : Clock) (p : Port) (q : List Instr) (free : Nat)
    (hlength : areas.length = 32) (hloads : ∀ r ∈ areas, r.LoadSound)
    (hholds : ∀ r ∈ areas, r.hold = .unheld ∧ r.load = 0 ∧ r.flood = false) (hclock : ClockSound k)
    (hshift : k.shift = k.pattern.shiftOf k.millTime) (hlead : k.inLead = k.pattern.inLead k.millTime)
    (hport : PortSound p) :
    State.Sound { State.reset with node := n, areas := areas, clock := k, port := p, pending := q, freeCount := free } where
  list := listSound_nil
  loads := hloads
  queues := ⟨Nat.zero_le _, Nat.zero_le _, Nat.zero_le _, Nat.zero_le _⟩
  clock := hclock
  calendar := calendarSound_of_marks rfl rfl hshift hlead
  window := ⟨Nat.zero_le _, Nat.zero_le _⟩
  port := hport
  peers := ⟨rfl, fun m _ => (by
      cases hpeer : State.peer _ m with
      | none => rfl
      | some r => cases List.eq_of_mem_replicate (peer_mem hpeer)),
    fun r hr p hp => (by cases (List.eq_of_mem_replicate hr).symm.trans hp),
    fun r hr p hp => (by cases (List.eq_of_mem_replicate hr).symm.trans hp)⟩
  station := ⟨hlength, fun _ => rfl, fun _ => rfl, fun _ r hr => List.eq_of_mem_replicate hr,
    fun _ r hr => (hholds r hr).1, fun _ r hr => (hholds r hr).2⟩
  output := ⟨iff_of_false (fun ⟨_, h⟩ => nomatch h) (fun h => h rfl),
    iff_of_false (fun h => nomatch h) (fun ⟨_, _, hr, _⟩ => nomatch hr), fun _ => rfl, fun _ _ h => nomatch h⟩
  handover := handoverSound_idle rfl rfl

theorem initial_clockSound : ClockSound Clock.initial :=
  ⟨by decide, by decide, by decide, by decide, by decide, by decide, by decide⟩

theorem hardReset_sound (s : State) : s.hardReset.Sound := by
  refine reset_like_sound Node.initial (List.replicate 32 .initial) Clock.initial State.reset.port s.pending s.freeCount
    (List.length_replicate ..) reset_loadsSound (fun r hr => ?_) initial_clockSound rfl rfl ⟨rfl, fun h => Bool.noConfusion h⟩
  rw [List.eq_of_mem_replicate hr]
  exact ⟨rfl, rfl, rfl⟩

theorem reset_sound : State.reset.Sound := hardReset_sound State.reset

theorem restarted_sound (hs : s.Sound) : s.restarted.Sound := by
  refine reset_like_sound s.node.restarted (s.areas.map Area.restarted) s.clock.restarted Port.restarted s.pending
    s.freeCount ?_ (restarted_loadsSound hs.loads) (fun r hr => ?_) ?_ rfl rfl ⟨rfl, fun _ => rfl⟩
  · simpa using hs.station.areas
  · obtain ⟨y, -, rfl⟩ := List.mem_map.mp hr
    exact ⟨rfl, rfl, rfl⟩
  · exact ⟨hs.clock.mill, Nat.zero_le _, hs.clock.trim, hs.clock.perDay, hs.clock.first, hs.clock.lead, hs.clock.grace⟩

/-- What RESTART does: nothing while the port is not open (R150, R173). -/
theorem exec_restart (s : State) : exec .restart s = .next (if s.portOpen then s.restarted else s) := rfl

theorem sound_of_exec (hexec : exec c s = .next t) (hs : s.Sound) : t.Sound := by
  by_cases hreset : Resets c
  · obtain rfl | rfl | rfl := hreset
    · cases hexec
      exact hardReset_sound s
    · cases hexec
      exact hardReset_sound s
    · rw [exec_restart] at hexec
      cases hexec
      split
      · exact restarted_sound hs
      · exact hs
  · exact (keeps_of_exec hexec hreset).sound trivial hs

/-- The waiting commands are no part of a sound state. -/
theorem withPending_sound (hs : s.Sound) (q : List Instr) : (s.withPending q).Sound :=
  ⟨hs.list, hs.loads, queuesSound_of_view hs.queues rfl, hs.clock, calendarSound_of_view hs.calendar rfl,
    windowSound_of_view hs.window rfl, hs.port, peersSound_of_view hs.peers rfl, stationSound_of_view hs.station rfl,
    annunciatorSound_of_view hs.output rfl, handoverSound_of_view hs.handover rfl⟩

theorem step_cons {q : List Instr} (h : s.pending = c :: q) : step s = exec c (s.withPending q) := by
  simp only [step, h]

theorem step_nil (h : s.pending = []) : step s = .next s := by
  simp only [step, h]

/-- Every step keeps a sound state sound. -/
theorem step_sound (hs : s.Sound) (hstep : step s = .next t) : t.Sound := by
  cases hqueue : s.pending with
  | nil =>
    rw [step_nil hqueue] at hstep
    cases hstep
    exact hs
  | cons c q =>
    rw [step_cons hqueue] at hstep
    exact sound_of_exec hstep (withPending_sound hs q)

/-! ### The queue of commands -/

theorem exec_next (c : Instr) (s : State) : ∃ t, exec c s = .next t := by
  by_cases hreset : Resets c
  · obtain rfl | rfl | rfl := hreset
    all_goals exact ⟨_, rfl⟩
  · obtain ⟨t, ht, -⟩ := exec_kept (s := s) hreset
    exact ⟨t, ht⟩

theorem pending_of_exec (hexec : exec c s = .next t) : t.pending = s.pending := by
  by_cases hreset : Resets c
  · obtain rfl | rfl | rfl := hreset
    · cases hexec
      rfl
    · cases hexec
      rfl
    · rw [exec_restart] at hexec
      cases hexec
      split <;> rfl
  · exact (keeps_of_exec hexec hreset).pending

/-- A queue runs out command by command. -/
theorem safeRun_of_pending (q : List Instr) : ∀ s : State, s.pending = q → ∃ t, SafeRun s t ∧ t.pending = [] := by
  induction q with
  | nil => exact fun s h => ⟨s, .done s h, h⟩
  | cons c q ih =>
    intro s h
    obtain ⟨u, hu⟩ := exec_next c (s.withPending q)
    have hstep : Steps s u := (step_cons h).trans hu
    obtain ⟨t, hrun, hnone⟩ := ih u (pending_of_exec hu)
    exact ⟨t, .more s u t (by simp [h]) hstep hrun, hnone⟩

/-! ### Routing (R14) -/

theorem holds_iff (s : State) (a : Nat) :
    s.holds a = true ↔ ∃ n b, (s.area a).hold = .held n b ∧ s.node.number = some n := by
  unfold State.holds
  cases h : (s.area a).hold with
  | held n b => simp [State.isOwn]
  | unheld => simp
  | orphaned => simp

theorem heldSet_iff (s : State) (a : Nat) : s.heldSet.getLsbD a = true ↔ a < 32 ∧ s.holds a = true := by
  rw [State.heldSet, getLsbD_areaSetOf, Bool.and_eq_true, decide_eq_true_eq]

theorem targets_iff (s : State) (a : Nat) : (s.isStandby a || s.rankZero) = true ↔ Targets s a := by
  unfold Targets State.isStandby State.rankZero
  rw [Bool.or_eq_true]
  refine or_congr ?_ ?_
  · cases h : (s.area a).config with
    | none => simp
    | some k => cases hk : k.standby <;> simp [hk, State.isOwn]
  · cases h : s.signOn.active <;> simp

theorem routed_iff (s : State) (r : AlarmRecord) : s.routed r = true ↔
    (∃ n b, (s.area r.id.area.toNat).hold = .held n b ∧ s.node.number = some n) ∨
    ((s.area r.id.area.toNat).hold = .unheld ∧ Targets s r.id.area.toNat) ∨
    ((∃ n b f g, (s.area r.id.area.toNat).hold = .orphaned n b f g) ∧ Targets s r.id.area.toNat) ∨
    (r.escalated = true ∧ Targets s r.id.area.toNat) := by
  rw [← targets_iff]
  unfold State.routed
  dsimp only
  cases h : (s.area r.id.area.toNat).hold with
  | held n b => simp [State.isOwn]
  | unheld => simp
  | orphaned n b f g => simp

theorem highest_some {l : List AlarmRecord} {p : Priority} (h : highest l = some p) :
    (∃ r ∈ l, r.priority = p) ∧ ∀ r ∈ l, p.num ≤ r.priority.num := by
  induction l generalizing p with
  | nil => cases h
  | cons x rest ih =>
    unfold highest at h
    cases hrest : highest rest with
    | none =>
      rw [hrest] at h
      cases h
      rw [highest_eq_none_iff] at hrest
      simp [hrest]
    | some q =>
      obtain ⟨⟨y, hy, hyq⟩, hleast⟩ := ih hrest
      rw [hrest] at h
      dsimp only at h
      split at h
      · next hle =>
        cases h
        refine ⟨⟨x, List.mem_cons_self, rfl⟩, fun r hr => ?_⟩
        obtain rfl | hr := List.mem_cons.mp hr
        · exact Nat.le_refl _
        · exact Nat.le_trans hle (hleast r hr)
      · next hle =>
        cases h
        refine ⟨⟨y, List.mem_cons_of_mem _ hy, hyq⟩, fun r hr => ?_⟩
        obtain rfl | hr := List.mem_cons.mp hr
        · omega
        · exact hleast r hr

theorem mem_routedUnack_iff (s : State) (r : AlarmRecord) :
    r ∈ s.routedUnack ↔ r ∈ s.picture.list ∧ r.handling = .unack ∧ s.routed r = true := by
  have hunack : r.handling.isUnack = true ↔ r.handling = .unack := by cases r.handling <;> simp [Handling.isUnack]
  rw [State.routedUnack, List.mem_filter, Bool.and_eq_true, hunack]

theorem mem_routedAck_iff (s : State) (r : AlarmRecord) :
    r ∈ s.routedAck ↔ r ∈ s.picture.list ∧ (∃ n b, r.handling = .ack n b) ∧ s.routed r = true := by
  have hack : r.handling.isAck = true ↔ ∃ n b, r.handling = .ack n b := by cases r.handling <;> simp [Handling.isAck]
  rw [State.routedAck, List.mem_filter, Bool.and_eq_true, hack]

/-! ### Station-seconds (R103) -/

theorem secondEvent_now (s : State) : s.secondEvent.clock.now = s.clock.now + 1 := by
  have hleft : s.finishSecond.clock.now = s.clock.now :=
    (Keeps.finishSecond (c := .nop) (P := True)).now.resolve_left nofun
  have hmarks : ((s.finishSecond.setClock Clock.advance).markInstants).clock.now = s.finishSecond.clock.now + 1 := by
    unfold State.markInstants
    split <;> rfl
  have hrest : s.finishSecond.beginSecond.clock.now =
      ((s.finishSecond.setClock Clock.advance).markInstants).clock.now := by
    simp [State.beginSecond]
  rw [State.secondEvent, hrest, hmarks, hleft]

/-! ### The statements about every step and every command -/

/-- Settles O1: the step's two cases, by the shape of the queue. -/
theorem stepRunsTheFrontCommand : Obligations.StepRunsTheFrontCommand := by
  unfold Obligations.StepRunsTheFrontCommand
  exact ⟨fun _ _ _ h => step_cons h, fun _ h => step_nil h⟩

/-- Settles O2, by induction on the queue: every command answers a next state and leaves the queue. -/
theorem everyQueueRunsOut : Obligations.EveryQueueRunsOut := by
  unfold Obligations.EveryQueueRunsOut
  exact ⟨fun s => safeRun_of_pending s.pending s rfl, fun _ _ _ h => pending_of_exec h⟩

/-- Settles O3. -/
theorem resetIsSound : Obligations.ResetIsSound := by
  unfold Obligations.ResetIsSound
  exact reset_sound

/-- Settles O4: every step keeps a sound state sound (`step_sound`). -/
theorem stepKeepsList : Obligations.StepKeepsList := by
  unfold Obligations.StepKeepsList
  exact fun _ _ hs hstep => (step_sound hs hstep).list

/-- Settles O6: every step keeps a sound state sound (`step_sound`). -/
theorem stepKeepsCalendar : Obligations.StepKeepsCalendar := by
  unfold Obligations.StepKeepsCalendar
  exact fun _ _ hs hstep => ⟨(step_sound hs hstep).clock, (step_sound hs hstep).calendar⟩

/-- Settles O7: every step keeps a sound state sound (`step_sound`). -/
theorem stepKeepsQueuesAndWindow : Obligations.StepKeepsQueuesAndWindow := by
  unfold Obligations.StepKeepsQueuesAndWindow
  exact fun _ _ hs hstep => ⟨(step_sound hs hstep).queues, (step_sound hs hstep).window⟩

/-- Settles O8: every step keeps a sound state sound (`step_sound`), and R14 case by case. -/
theorem stepKeepsAnnunciator : Obligations.StepKeepsAnnunciator := by
  unfold Obligations.StepKeepsAnnunciator
  exact ⟨fun _ _ hs hstep => (step_sound hs hstep).output, fun s => ⟨holds_iff s, heldSet_iff s, routed_iff s,
    mem_routedUnack_iff s, mem_routedAck_iff s, fun _ => highest_some⟩⟩

/-- Settles O9: every step keeps a sound state sound (`step_sound`). -/
theorem stepKeepsOffers : Obligations.StepKeepsOffers := by
  unfold Obligations.StepKeepsOffers
  exact fun _ _ hs hstep => (step_sound hs hstep).handover

/-- Settles O10: every step keeps a sound state sound (`step_sound`). -/
theorem stepKeepsStation : Obligations.StepKeepsStation := by
  unfold Obligations.StepKeepsStation
  exact fun _ _ hs hstep => ⟨(step_sound hs hstep).station, (step_sound hs hstep).peers, (step_sound hs hstep).port⟩

/-- Settles O11: a command that is no reset keeps what is locked (`keeps_of_exec`), and RESTART takes it over. -/
theorem configurationIsLocked : Obligations.ConfigurationIsLocked := by
  unfold Obligations.ConfigurationIsLocked
  intro c s t hexec hmode hpower hreset
  by_cases h : Resets c
  · obtain rfl | rfl | rfl := h
    · exact absurd rfl hpower
    · exact absurd rfl hreset
    · rw [exec_restart] at hexec
      cases hexec
      split
      · exact ⟨List.map_map.trans rfl, rfl, rfl, rfl, rfl⟩
      · exact ⟨rfl, rfl, rfl, rfl, rfl⟩
  · have hlocked := (keeps_of_exec hexec h).locked hmode
    exact ⟨hlocked.areas, hlocked.pattern, hlocked.number, hlocked.gap, hlocked.digest⟩

/-- Settles O12: every command but the four keeps the flags (`keeps_of_exec`). -/
theorem flagsStayLatched : Obligations.FlagsStayLatched := by
  unfold Obligations.FlagsStayLatched
  intro c s t f hexec hset hread hrestart hpower hreset
  have h : ¬Resets c := by rintro (h | h | h) <;> contradiction
  exact (keeps_of_exec hexec h).flags.resolve_left hread f hset

/-- Settles O13: every command but the resets lets no serial fall (`keeps_of_exec`). -/
theorem claimSerialNeverFalls : Obligations.ClaimSerialNeverFalls := by
  unfold Obligations.ClaimSerialNeverFalls
  intro c s t a hexec hrestart hpower hreset
  have h : ¬Resets c := by rintro (h | h | h) <;> contradiction
  exact (keeps_of_exec hexec h).serials a

/-- Settles O14: every command but the resets and the second event leaves station-seconds (`keeps_of_exec`). -/
theorem stationSecondsMoveByOne : Obligations.StationSecondsMoveByOne := by
  unfold Obligations.StationSecondsMoveByOne
  intro c s t hexec
  by_cases h : Resets c
  · obtain rfl | rfl | rfl := h
    · cases hexec
      exact .inr (.inr ⟨rfl, .inr (.inl rfl)⟩)
    · cases hexec
      exact .inr (.inr ⟨rfl, .inr (.inr rfl)⟩)
    · rw [exec_restart] at hexec
      cases hexec
      split
      · exact .inr (.inr ⟨rfl, .inl rfl⟩)
      · exact .inl rfl
  · obtain rfl | hsame := (keeps_of_exec hexec h).now
    · cases hexec
      exact .inr (.inl ⟨rfl, secondEvent_now s⟩)
    · exact .inl hsame

/-- Settles O15: every command but an access starts no transmission (`keeps_of_exec`), and an access looks at the
station's state first. -/
theorem onlyAnActiveStationSends : Obligations.OnlyAnActiveStationSends := by
  unfold Obligations.OnlyAnActiveStationSends
  intro c s t hexec hidle hsends
  by_cases h : Resets c
  · obtain rfl | rfl | rfl := h
    · cases hexec
      exact absurd rfl hsends
    · cases hexec
      exact absurd rfl hsends
    · rw [exec_restart] at hexec
      cases hexec
      split at hsends
      · exact absurd rfl hsends
      · exact absurd hidle hsends
  · obtain ⟨slot, rfl⟩ | hkept := (keeps_of_exec hexec h).sending
    · refine ⟨?_, slot, rfl⟩
      cases hexec
      refine Classical.byContradiction fun hmode => ?_
      refine hsends ?_
      have hinactive : s.isActive = false := by simpa [State.isActive] using hmode
      unfold State.access
      simpa [hinactive] using hidle
    · exact absurd (hkept hidle) hsends

end Sys2Proof.Keep

/-! PROOF. Console requests: a request's rule on an open port, the bytes of multi-byte fields, and the set-up requests
with the resets (chapters 6, 7, 9, 10 and 12). -/

namespace Sys2Proof.Answers

open Sys2Proof.Machine Sys2Proof.Claims

variable {c : Instr} {code : Byte} {rule : State → Reply} {s u : State}

/-! ### A request's rule on an open port -/

theorem firstFail_cons (b : Bool) (r : ResultCode) (rest : List (Bool × ResultCode)) :
    firstFail ((b, r) :: rest) = if b then some r else firstFail rest := rfl

theorem refuses_of_rule {r : ResultCode} (hexec : exec c s = .next (request code rule s)) (hopen : Open s)
    (hrule : rule s.checkIn = .refuse s.checkIn r) : Refuses c code r s := by
  rw [Refuses, hexec, request_of_refuse hopen hrule]

theorem exec_of_rule {r : ResultCode} {b : AnswerBody} (hexec : exec c s = .next (request code rule s)) (hopen : Open s)
    (hrule : rule s.checkIn = ⟨u, r, b⟩) : exec c s = .next (u.answer code r b) := by
  rw [hexec, request_open code rule s hopen.portOpen, hrule]

/-- The tests that look at the station's state read it as the check-in found it. -/
theorem checkIn_modeIs (s : State) (m : Mode) : s.checkIn.modeIs m = s.modeIs m := rfl

theorem modeIs_eq_true_iff (s : State) (m : Mode) : s.modeIs m = true ↔ s.node.mode = m := by
  simp [State.modeIs]

theorem modeIs_eq_false_iff (s : State) (m : Mode) : s.modeIs m = false ↔ s.node.mode ≠ m := by
  simp [State.modeIs]

theorem stationOk_iff (n : Station) : stationOk n = true ↔ 1 ≤ n.toNat ∧ n.toNat ≤ 16 := by
  simp [stationOk]

theorem stationOk_eq_false_iff (n : Station) : stationOk n = false ↔ ¬(1 ≤ n.toNat ∧ n.toNat ≤ 16) := by
  rw [← stationOk_iff, Bool.not_eq_true]

/-! ### Bytes of multi-byte fields (13) -/

/-- One byte of a number, as its digit and as bits of the field. -/
theorem byte_at (n k w : Nat) (h : k + 8 ≤ w) :
    BitVec.ofNat 8 (n / 2 ^ k) = (BitVec.ofNat w n).extractLsb' k 8 := by
  refine BitVec.eq_of_getLsbD_eq fun i hi => ?_
  have hlow : k + i < w := by omega
  rw [BitVec.getLsbD_extractLsb', BitVec.getLsbD_ofNat, BitVec.getLsbD_ofNat, Nat.testBit_div_two_pow]
  simp [hi, hlow, Nat.add_comm]

theorem octets_two (n : Nat) : octets 2 n = bytes2 (BitVec.ofNat 16 n) := by
  simp only [octets, bytes2, List.range_succ, List.range_zero, List.nil_append, List.map_cons,
    List.map_nil, List.cons_append, List.cons.injEq, and_true]
  exact ⟨byte_at n 8 16 (by decide), byte_at n 0 16 (by decide)⟩

theorem bytes2_eq_octets (x : Half) : bytes2 x = octets 2 x.toNat := by
  rw [octets_two, BitVec.ofNat_toNat, BitVec.setWidth_eq]

theorem octets_three (n : Nat) : octets 3 n = bytes3 (BitVec.ofNat 24 n) := by
  simp only [octets, bytes3, List.range_succ, List.range_zero, List.nil_append, List.map_cons,
    List.map_nil, List.cons_append, List.cons.injEq, and_true]
  exact ⟨byte_at n 16 24 (by decide), byte_at n 8 24 (by decide), byte_at n 0 24 (by decide)⟩

theorem bytes3_eq_octets (x : BitVec 24) : bytes3 x = octets 3 x.toNat := by
  rw [octets_three, BitVec.ofNat_toNat, BitVec.setWidth_eq]

theorem octets_four (n : Nat) : octets 4 n = bytes4 (BitVec.ofNat 32 n) := by
  simp only [octets, bytes4, List.range_succ, List.range_zero, List.nil_append, List.map_cons,
    List.map_nil, List.cons_append, List.cons.injEq, and_true]
  exact ⟨byte_at n 24 32 (by decide), byte_at n 16 32 (by decide), byte_at n 8 32 (by decide), byte_at n 0 32 (by decide)⟩

theorem bytes4_eq_octets (x : Quad) : bytes4 x = octets 4 x.toNat := by
  rw [octets_four, BitVec.ofNat_toNat, BitVec.setWidth_eq]

/-- The bits of two fields side by side, as a number. -/
theorem toNat_append_eq {n m : Nat} (x : BitVec n) (y : BitVec m) : (x ++ y).toNat = x.toNat * 2 ^ m + y.toNat := by
  rw [BitVec.toNat_append, ← Nat.shiftLeft_add_eq_or_of_lt y.isLt, Nat.shiftLeft_eq]

/-! ### Resets (chapter 12) -/

theorem getD_replicate_none {α : Type} (n i : Nat) : (List.replicate n (none : Option α)).getD i none = none := by
  rw [List.getD_eq_getElem?_getD, List.getElem?_replicate]
  split <;> rfl


/-- Settles O20: both commands leave the state after reset. -/
theorem hardResetsEmptyTheStation : Obligations.HardResetsEmptyTheStation := by
  unfold Obligations.HardResetsEmptyTheStation
  intro c s hc
  have harea : ∀ a, s.hardReset.area a = .initial := fun a => by
    obtain hmem | hinitial := area_mem_or_initial s.hardReset a
    · exact List.eq_of_mem_replicate hmem
    · exact hinitial
  have hseq : ∀ n, s.hardReset.lastSeq n = none := fun n => by
    unfold State.lastSeq
    split
    · exact getD_replicate_none 16 _
    · rfl
  have hpeer : ∀ n, s.hardReset.peer n = none := fun n => by
    unfold State.peer
    split
    · exact getD_replicate_none 16 _
    · rfl
  refine ⟨s.hardReset, ?_, rfl, rfl, rfl, rfl, rfl, rfl, rfl, rfl, rfl, rfl, rfl, harea, rfl, rfl, rfl, rfl, rfl, rfl, rfl,
    rfl, rfl, rfl, rfl, rfl, rfl, rfl, rfl, rfl, hseq, rfl, rfl, rfl, hpeer, rfl, rfl, rfl, rfl, rfl, rfl⟩
  obtain rfl | rfl := hc
  · rfl
  · rfl

/-- Settles O21: RESTART on an open port leaves the restarted station. -/
theorem restartKeepsTheConfiguration : Obligations.RestartKeepsTheConfiguration := by
  unfold Obligations.RestartKeepsTheConfiguration
  intro s hopen
  have hmode : s.restarted.node.mode = if s.node.mode = .config then .config else .ready := by
    show s.node.mode.restarted = _
    cases s.node.mode <;> rfl
  refine ⟨s.restarted, ?_, rfl, hmode, rfl, rfl, rfl, rfl, rfl, rfl, rfl, rfl, rfl, rfl, rfl, rfl, rfl, rfl, rfl, rfl, rfl,
    rfl, rfl, rfl, rfl, rfl, rfl, rfl, rfl, rfl⟩
  rw [Keep.exec_restart, if_pos hopen.portOpen]

/-! ### SET TRIM and SET STATION -/

/-- Settles O26: SET TRIM has no check; SET STATION has the station's state and the two values. -/
theorem trimAndStationAreStored : Obligations.TrimAndStationAreStored := by
  unfold Obligations.TrimAndStationAreStored
  intro s hopen
  refine ⟨fun b => exec_of_rule (rule := ruleSetTrim b) rfl hopen rfl, fun n g => ⟨fun hmode => ?wrongState,
    fun hmode hvalue => ?wrongValue, fun hmode ⟨hlow, hhigh, hgap⟩ => ?stored⟩⟩
  case wrongState =>
    have hnot : s.modeIs .config = false := (modeIs_eq_false_iff s _).mpr hmode
    exact refuses_of_rule rfl hopen (checked_refuse _ _ (by simp [firstFail_cons, checkIn_modeIs, hnot]))
  all_goals have hconfig : s.modeIs .config = true := (modeIs_eq_true_iff s _).mpr hmode
  case wrongValue =>
    refine refuses_of_rule rfl hopen (checked_refuse _ _ ?_)
    simp only [firstFail_cons, checkIn_modeIs, hconfig, stationOk]
    rw [if_neg (by simp), if_pos]
    simp only [Bool.or_eq_true, Bool.not_eq_true', Bool.and_eq_false_iff, decide_eq_false_iff_not, decide_eq_true_eq]
    omega
  case stored =>
    have hok : stationOk n = true := (stationOk_iff n).mpr ⟨hlow, hhigh⟩
    have hrule : ruleSetStation n g s.checkIn = .ok { s.checkIn with
        node := { s.checkIn.node with number := some n, gap := BitVec.ofNat 2 g.toNat } } :=
      checked_pass _ _ (by simp [firstFail_cons, checkIn_modeIs, hconfig, hok, Nat.not_lt.mpr hgap])
    refine (exec_of_rule rfl hopen hrule).trans ?_
    rw [BitVec.ofNat_toNat]
    rfl

/-! ### SET AREA -/

theorem settingsValid_iff (v : AreaSettings) : settingsValid v = true ↔ (1 ≤ v.feed.toNat ∧ v.feed.toNat ≤ 16) ∧
    (v.standby = 0 ∨ (1 ≤ v.standby.toNat ∧ v.standby.toNat ≤ 16)) ∧ v.ackRank.toNat ≤ 3 ∧ v.shelveRank.toNat ≤ 3 ∧
    v.holdRank.toNat ≤ 3 ∧ v.takeRank.toNat ≤ 3 := by
  simp only [settingsValid, stationOk, Bool.and_eq_true, Bool.or_eq_true, decide_eq_true_eq, beq_iff_eq, and_assoc]

theorem setArea_refuses {a k : Byte} {x : Option AreaSettings} (hopen : Open s) (hmode : s.node.mode = .config)
    (h : areaOk a = false ∨ areaValueOk k x = false ∨ x.any (fun v => !settingsValid v) = true) :
    Refuses (.setArea a k x) 0x11 .badValue s := by
  have hconfig : s.modeIs .config = true := (modeIs_eq_true_iff s _).mpr hmode
  refine refuses_of_rule rfl hopen (checked_refuse _ _ ?_)
  rw [checkIn_modeIs, hconfig, Bool.not_true, firstFail_pass, firstFail_cons, firstFail_cons]
  obtain h | h | h := h
  · simp [h]
  · simp [h]
  · simp [h]

theorem setArea_stores {a k : Byte} {x : Option AreaSettings} (hopen : Open s) (hmode : s.node.mode = .config)
    (harea : a.toNat < 32) (hvalue : areaValueOk k x = true) (hsettings : x.any (fun v => !settingsValid v) = false) :
    exec (.setArea a k x) s = .next { told s 0x11 .ok (.areaConfig (x.map storedConfig)) with
      areas := s.areas.set a.toNat ((s.area a.toNat).configure (x.map storedConfig)) } := by
  have hconfig : s.modeIs .config = true := (modeIs_eq_true_iff s _).mpr hmode
  have hok : areaOk a = true := decide_eq_true harea
  have hrule : ruleSetArea a k x s.checkIn = .ok (s.checkIn.setArea a.toNat
      ((s.checkIn.area a.toNat).configure (x.map storedConfig))) (.areaConfig (x.map storedConfig)) :=
    checked_pass _ _ (by simp [checkIn_modeIs, hconfig, hok, hvalue, hsettings])
  exact (exec_of_rule rfl hopen hrule).trans rfl

/-- Settles O27: the three checks of R85, and what a configuration is stored as. -/
theorem setAreaStoresTheConfiguration : Obligations.SetAreaStoresTheConfiguration := by
  unfold Obligations.SetAreaStoresTheConfiguration
  intro s a k x hopen
  refine ⟨fun hmode => ?wrongState, fun hmode ha => ?wrongArea, fun hmode hzero hone => ?wrongByte,
    fun hmode ha => setArea_stores (x := none) hopen hmode ha rfl rfl, fun v hmode ha hv => ?stored, settingsValid_iff,
    fun v hmode ha hv => setArea_refuses hopen hmode (.inr (.inr (by simp [hv]))),
    fun v hmode ha => ⟨setArea_refuses hopen hmode (.inr (.inl rfl)), setArea_refuses hopen hmode (.inr (.inl rfl))⟩⟩
  case wrongState =>
    have hnot : s.modeIs .config = false := (modeIs_eq_false_iff s _).mpr hmode
    exact refuses_of_rule rfl hopen (checked_refuse _ _ (by simp [checkIn_modeIs, hnot]))
  case wrongArea => exact setArea_refuses hopen hmode (.inl (decide_eq_false (Nat.not_lt.mpr ha)))
  case wrongByte =>
    refine setArea_refuses hopen hmode (.inr (.inl ?_))
    cases x with
    | none => exact beq_eq_false_iff_ne.mpr hzero
    | some v => exact beq_eq_false_iff_ne.mpr hone
  case stored =>
    exact ⟨storedConfig v, setArea_stores (x := some v) hopen hmode ha rfl (by simp [hv]), rfl, rfl, rfl, rfl, rfl, rfl, rfl,
      rfl, rfl⟩

/-! ### JOIN -/

theorem ranksByte_eq (k : AreaConfig) : ranksByte k = BitVec.ofNat 8
    (64 * (k.ackRank % 4) + 16 * (k.shelveRank % 4) + 4 * (k.holdRank % 4) + k.takeRank % 4) := by
  apply BitVec.eq_of_toNat_eq
  simp only [ranksByte, toNat_append_eq, BitVec.toNat_ofNat]
  omega

theorem digestInput_eq (s : State) : s.digestInput =
    (List.range 32).flatMap (fun a => match (s.area a).config with
      | none => [0x00]
      | some k => [0x01, k.feed, k.standby.getD 0, BitVec.ofNat 8
          (64 * (k.ackRank % 4) + 16 * (k.shelveRank % 4) + 4 * (k.holdRank % 4) + k.takeRank % 4)] ++
          octets 2 k.floodOn ++ octets 2 k.floodOff ++ [BitVec.ofNat 8 k.shelveLimit]) ++
    BitVec.ofNat 8 s.clock.pattern.perDay :: octets 2 s.clock.pattern.firstStart ++
    [BitVec.ofNat 8 s.clock.pattern.lead, BitVec.ofNat 8 s.clock.pattern.grace] := by
  have harea : ∀ a, areaDigestBytes (s.area a) = match (s.area a).config with
      | none => [0x00]
      | some k => [0x01, k.feed, k.standby.getD 0, BitVec.ofNat 8
          (64 * (k.ackRank % 4) + 16 * (k.shelveRank % 4) + 4 * (k.holdRank % 4) + k.takeRank % 4)] ++
          octets 2 k.floodOn ++ octets 2 k.floodOff ++ [BitVec.ofNat 8 k.shelveLimit] := by
    intro a
    unfold areaDigestBytes
    cases (s.area a).config with
    | none => rfl
    | some k => simp [ranksByte_eq, octets_two]
  unfold State.digestInput patternDigestBytes
  rw [funext harea, octets_two]
  simp

theorem join_wrongState (hopen : Open s) (hconfig : s.node.mode ≠ .config) (hready : s.node.mode ≠ .ready) :
    Refuses .join 0x14 .badState s := by
  have hc : s.modeIs .config = false := (modeIs_eq_false_iff s _).mpr hconfig
  have hr : s.modeIs .ready = false := (modeIs_eq_false_iff s _).mpr hready
  exact refuses_of_rule rfl hopen (checked_refuse _ _ (by simp [checkIn_modeIs, hc, hr]))

theorem anyConfigured_iff (s : State) :
    (List.range 32).any s.configured = true ↔ ∃ a, a < 32 ∧ (s.area a).config ≠ none := by
  simp [State.configured, Option.isSome_iff_ne_none]

/-- Settles O30: the two checks of JOIN, the digest over its bytes, and the listen. -/
theorem joinStartsTheListen : Obligations.JoinStartsTheListen := by
  unfold Obligations.JoinStartsTheListen
  refine ⟨digestInput_eq, fun s hopen => ⟨join_wrongState hopen, fun hmode hnone => ?unset, fun a n ha hconfig hn =>
    ⟨fun hmode => ?fromConfig, fun hmode => ?fromReady⟩⟩⟩
  case unset =>
    have hstate : (!s.modeIs .config && !s.modeIs .ready) = false := by
      obtain h | h := hmode
      · simp [(modeIs_eq_true_iff s _).mpr h]
      · simp [(modeIs_eq_true_iff s _).mpr h]
    have hset : (s.node.number.isNone || !(List.range 32).any s.configured) = true := by
      obtain h | h := hnone
      · simp [h]
      · have : (List.range 32).any s.configured = false := by
          rw [← Bool.not_eq_true, anyConfigured_iff]
          exact fun ⟨a, ha, hne⟩ => hne (h a ha)
        simp [this]
    refine refuses_of_rule rfl hopen (checked_refuse _ _ ?_)
    show firstFail [(!s.modeIs .config && !s.modeIs .ready, .badState),
      (s.node.number.isNone || !(List.range 32).any s.configured, .badValue)] = _
    rw [hstate, hset, firstFail_pass, firstFail_fail]
  all_goals
    have hset : (s.node.number.isNone || !(List.range 32).any s.configured) = false := by
      rw [hn, (anyConfigured_iff s).mpr ⟨a, ha, hconfig⟩]
      rfl
    have hpass : firstFail [(!s.modeIs .config && !s.modeIs .ready, .badState),
        (s.node.number.isNone || !(List.range 32).any s.configured, .badValue)] = none := by
      rw [hset]
      simp [State.modeIs, hmode]
    have hrule : ruleJoin s.checkIn = .ok { s.checkIn with node := { s.checkIn.node with
        mode := .joining, digest := s.joinDigest, listenStart := s.now } } (.digest s.joinDigest) :=
      checked_pass _ _ hpass
    refine (exec_of_rule rfl hopen hrule).trans ?_
  case fromConfig =>
    have hdigest : s.joinDigest = some (crc16 s.digestInput) := if_pos ((modeIs_eq_true_iff s _).mpr hmode)
    rw [hdigest]
    rfl
  case fromReady =>
    have hdigest : s.joinDigest = s.node.digest := if_neg (by simp [State.modeIs, hmode])
    rw [hdigest]
    rfl

end Sys2Proof.Answers

/-! PROOF. Flags, and the clock's set-up: SET SHIFT PATTERN and SET CLOCK (chapter 7). -/

namespace Sys2Proof.Answers

open Sys2Proof.Machine Sys2Proof.Claims Sys2Proof.Keep

variable {s t u : State}

/-! ### Flags and whole states -/

theorem bit_lt (f : Flag) : f.bit < 24 := by cases f <;> decide

theorem bit_inj {f g : Flag} (h : f.bit = g.bit) : f = g := by
  revert h
  cases f <;> cases g <;> decide

theorem getLsbD_plus (x : BitVec 24) (f g : Flag) :
    (plus x g).getLsbD f.bit = true ↔ x.getLsbD f.bit = true ∨ f = g := by
  rw [plus, BitVec.getLsbD_or, BitVec.getLsbD_twoPow, Bool.or_eq_true, Bool.and_eq_true, decide_eq_true_eq,
    decide_eq_true_eq]
  exact or_congr_right ⟨fun ⟨_, h⟩ => bit_inj h.symm, fun h => ⟨bit_lt g, h ▸ rfl⟩⟩

theorem flagSet_latch_iff (s : State) (f g : Flag) : (s.latch g).flagSet f = true ↔ s.flagSet f = true ∨ f = g :=
  getLsbD_plus s.port.attention f g

theorem flagSet_latchIf_iff (s : State) (b : Bool) (f g : Flag) :
    (s.latchIf b g).flagSet f = true ↔ s.flagSet f = true ∨ (f = g ∧ b = true) := by
  cases b with
  | true => simpa [State.latchIf] using flagSet_latch_iff s f g
  | false => simp [State.latchIf]

/-- Two states whose every part is the same are the same. -/
theorem state_ext (hnode : t.node = s.node) (hpicture : t.picture = s.picture) (hwindow : t.window = s.window)
    (hareas : t.areas = s.areas) (hlost : t.lastLost = s.lastLost) (hsignOn : t.signOn = s.signOn)
    (hclock : t.clock = s.clock) (hhandover : t.handover = s.handover) (hbus : t.bus = s.bus) (htx : t.tx = s.tx)
    (hpeers : t.peers = s.peers) (htransfer : t.transfer = s.transfer) (hport : t.port = s.port)
    (hsecond : t.second = s.second) (hfree : t.freeCount = s.freeCount) (hpending : t.pending = s.pending) : t = s := by
  cases s
  cases t
  simp_all

/-! ### The calendar of a pattern (R107 to R109) -/

/-- A whole day holds whole shifts: the starts day by day. -/
theorem isStart_iff_day {p : ShiftPattern} (h1 : 1 ≤ p.perDay) (h4 : p.perDay ≤ 4) (T : Nat) : p.isStart T = true ↔
    ∃ day i, i < p.perDay ∧ T = 60 * p.firstStart + 86400 * day + i * (60 * (1440 / p.perDay)) := by
  have hday : 86400 = p.perDay * p.seconds := by rw [Nat.mul_comm, seconds_mul_perDay h1 h4]
  rw [isStart_iff]
  constructor
  · rintro ⟨k, rfl⟩
    refine ⟨k / p.perDay, k % p.perDay, Nat.mod_lt _ h1, ?_⟩
    show _ = _ + _ + k % p.perDay * p.seconds
    rw [hday, Nat.mul_right_comm, Nat.add_assoc, ← Nat.add_mul, Nat.div_add_mod]
  · rintro ⟨day, i, -, rfl⟩
    refine ⟨p.perDay * day + i, ?_⟩
    show _ + _ + i * p.seconds = _
    rw [hday, Nat.mul_right_comm, Nat.add_assoc, ← Nat.add_mul]

/-- How the starts are crossed, with a pattern of any kind: one that has no shift length starts once. -/
theorem crossesStart_iff (p : ShiftPattern) (t0 t1 : Nat) :
    p.crossesStart t0 t1 = true ↔ Crosses p.isStart t0 t1 := by
  rw [ShiftPattern.crossesStart, decide_eq_true_eq]
  by_cases hq : 0 < p.seconds
  · rw [starts_lt_iff hq]
    exact ⟨fun ⟨S, hS, hlt, hle⟩ => ⟨S, hlt, hle, hS⟩, fun ⟨S, hlt, hle, hS⟩ => ⟨S, hS, hlt, hle⟩⟩
  · have hzero : p.seconds = 0 := by omega
    have hstarts : ∀ t, p.starts t = if t < 60 * p.firstStart then 0 else 1 := fun t => by
      simp [ShiftPattern.starts, hzero]
    have hisStart : ∀ t, p.isStart t = true ↔ t = 60 * p.firstStart := fun t => by
      simp only [ShiftPattern.isStart, hzero, Nat.mod_zero, Bool.and_eq_true, decide_eq_true_eq, beq_iff_eq]
      omega
    simp only [hstarts]
    constructor
    · intro h
      refine ⟨60 * p.firstStart, ?_, ?_, (hisStart _).mpr rfl⟩ <;> split at h <;> split at h <;> omega
    · rintro ⟨S, hlt, hle, hS⟩
      obtain rfl := (hisStart S).mp hS
      rw [if_pos hlt, if_neg (by omega)]
      decide

theorem crossesDue_iff (p : ShiftPattern) (t0 t1 : Nat) : p.crossesDue t0 t1 = true ↔ Crosses p.isDue t0 t1 := by
  refine (crossesStart_iff p (t0 + 60 * p.lead) (t1 + 60 * p.lead)).trans ?_
  constructor
  · rintro ⟨S, hlt, hle, hS⟩
    exact ⟨S - 60 * p.lead, by omega, by omega, by rwa [ShiftPattern.isDue, Nat.sub_add_cancel (by omega)]⟩
  · rintro ⟨i, hlt, hle, hi⟩
    exact ⟨i + 60 * p.lead, by omega, by omega, hi⟩

theorem starts_pos_iff (p : ShiftPattern) (t : Nat) : 0 < p.starts t ↔ ∃ S, p.isStart S = true ∧ S ≤ t := by
  unfold ShiftPattern.starts
  split
  · next h =>
    refine iff_of_false (Nat.lt_irrefl 0) fun ⟨S, hS, hle⟩ => ?_
    obtain ⟨k, rfl⟩ := (isStart_iff S).mp hS
    omega
  · next h => exact iff_of_true (Nat.succ_pos _) ⟨60 * p.firstStart, (isStart_iff _).mpr ⟨0, by omega⟩, by omega⟩

theorem crossesOverdue_iff (p : ShiftPattern) (t0 t1 : Nat) :
    p.crossesOverdue t0 t1 = true ↔ Crosses p.isOverdue t0 t1 := by
  rw [ShiftPattern.crossesOverdue, decide_eq_true_eq]
  unfold ShiftPattern.overdues Crosses
  simp only [isOverdue_iff]
  by_cases h1 : t1 < 60 * p.grace
  · rw [if_pos h1]
    exact iff_of_false (Nat.not_lt_zero _) fun ⟨i, _, hle, S, _, e⟩ => by omega
  · rw [if_neg h1]
    by_cases h0 : t0 < 60 * p.grace
    · rw [if_pos h0, starts_pos_iff]
      constructor
      · rintro ⟨S, hS, hle⟩
        exact ⟨S + 60 * p.grace, by omega, by omega, S, hS, rfl⟩
      · rintro ⟨i, hlt, hle, S, hS, rfl⟩
        exact ⟨S, hS, by omega⟩
    · rw [if_neg h0]
      have hstarts := crossesStart_iff p (t0 - 60 * p.grace) (t1 - 60 * p.grace)
      rw [ShiftPattern.crossesStart, decide_eq_true_eq] at hstarts
      rw [hstarts]
      constructor
      · rintro ⟨S, hlt, hle, hS⟩
        exact ⟨S + 60 * p.grace, by omega, by omega, S, hS, rfl⟩
      · rintro ⟨i, hlt, hle, S, hS, rfl⟩
        exact ⟨S, by omega, by omega, hS⟩

/-! ### The calendar's work with no instant marked -/

/-- No instant of the last second event is marked. -/
def Unmarked (w : SecondWork) : Prop := w.due = false ∧ w.start = false ∧ w.overdue = false ∧ w.schedule = false

theorem finishCalendar_of_unmarked (h : Unmarked s.second) : s.finishCalendar = s := by
  obtain ⟨hdue, hstart, hoverdue, hschedule⟩ := h
  have h1 : s.dueWork = s := if_neg (by simp [hdue])
  have h2 : s.startWork = s := by
    unfold State.startWork
    rw [h1, if_neg (by simp [hstart])]
  have h3 : s.overdueWork = s := by
    unfold State.overdueWork
    rw [h2, if_neg (by simp [hoverdue])]
  unfold State.finishCalendar
  rw [h3]
  exact if_neg (by simp [hschedule])

/-! ### SET SHIFT PATTERN -/

theorem exec_setShiftPattern_wrong {n : Byte} {m : Half} {l g : Byte} (hopen : Open s) (hmode : s.node.mode = .config)
    (hvalue : ¬(1 ≤ n.toNat ∧ n.toNat ≤ 4 ∧ m.toNat ≤ 1439)) : Refuses (.setShiftPattern n m l g) 0x12 .badValue s := by
  have hconfig : s.modeIs .config = true := (modeIs_eq_true_iff s _).mpr hmode
  refine refuses_of_rule rfl hopen (checked_refuse _ _ ?_)
  rw [checkIn_modeIs, hconfig, Bool.not_true, firstFail_pass, firstFail_cons, if_pos]
  simp only [Bool.or_eq_true, decide_eq_true_eq]
  omega

/-- Settles O28: the calendar's definitions as the starts tell them, and the request's checks and effect. -/
theorem setShiftPatternRecomputes : Obligations.SetShiftPatternRecomputes := by
  unfold Obligations.SetShiftPatternRecomputes
  refine ⟨fun p T h1 h4 => ?calendar, fun s n m l g hopen => ⟨fun hmode => ?wrongState,
    fun hmode hvalue => exec_setShiftPattern_wrong hopen hmode hvalue,
    fun hmode ⟨hlow, hhigh, hfirst⟩ hdue hstart hoverdue hschedule => ⟨_, rfl, ?stored⟩⟩⟩
  case calendar =>
    have hq : 0 < p.seconds := Nat.lt_of_lt_of_le (by decide) (seconds_ge h1 h4)
    exact ⟨rfl, isStart_iff_day h1 h4 T, Iff.rfl, isOverdue_iff T, inLead_iff hq T,
      nextStart_isStart T, lt_nextStart hq T, fun S hS hlt => nextStart_le hq hS hlt⟩
  case wrongState =>
    have hnot : s.modeIs .config = false := (modeIs_eq_false_iff s _).mpr hmode
    exact refuses_of_rule rfl hopen (checked_refuse _ _ (by simp [checkIn_modeIs, hnot]))
  case stored =>
    have hconfig : s.modeIs .config = true := (modeIs_eq_true_iff s _).mpr hmode
    have hvalues : (decide (n.toNat < 1) || decide (4 < n.toNat) || decide (1439 < m.toNat)) = false := by
      simp only [Bool.or_eq_false_iff, decide_eq_false_iff_not]
      omega
    have hpass : firstFail [(!s.checkIn.modeIs .config, .badState),
        (n.toNat < 1 || 4 < n.toNat || 1439 < m.toNat, .badValue)] = none := by
      rw [checkIn_modeIs, hconfig, hvalues]
      rfl
    have hleft : s.checkIn.finishCalendar = s.checkIn :=
      finishCalendar_of_unmarked (s := s.checkIn) ⟨hdue, hstart, hoverdue, hschedule⟩
    refine (exec_of_rule (rule := ruleSetShiftPattern n m l g) rfl hopen (checked_pass _ _ hpass)).trans ?_
    dsimp only
    rw [hleft]
    rfl

end Sys2Proof.Answers

/-! PROOF. SET CLOCK: what a step of the clock leaves (7.2, 7.4, 7.5). -/

namespace Sys2Proof.Answers

open Sys2Proof.Machine Sys2Proof.Claims Sys2Proof.Keep

variable {s t u : State}

/-! ### The calendar's work changes shift number, lead state and overdue flag -/

/-- Two clocks that differ in shift number, lead state and overdue flag only. -/
def SameTime (k l : Clock) : Prop :=
  l = { k with shift := l.shift, inLead := l.inLead, overdue := l.overdue }

theorem SameTime.trans {k l m : Clock} (h : SameTime k l) (h' : SameTime l m) : SameTime k m := by
  unfold SameTime at *
  rw [h', h]

theorem testOverdue_clock (s : State) :
    s.testOverdue.clock = { s.clock with overdue := s.clock.overdue || s.isOverdue } := by
  unfold State.testOverdue
  split
  · next h => simp [State.setClock, h]
  · next h => simp [h]

theorem testOverdue_port (s : State) : s.testOverdue.port = (s.latchIf s.isOverdue .handoverOverdue).port := by
  unfold State.testOverdue State.latchIf
  split <;> rfl

theorem dueWork_sameTime (s : State) : SameTime s.clock s.dueWork.clock := by
  unfold State.dueWork
  split
  · simp [SameTime, State.reachDue, State.setClock, State.setSecond]
  · rfl

theorem startWork_sameTime (s : State) : SameTime s.clock s.startWork.clock := by
  refine (dueWork_sameTime s).trans ?_
  unfold State.startWork
  split
  · simp [SameTime, State.reachStart, State.setClock, State.setSecond]
  · rfl

theorem finishCalendar_sameTime (s : State) : SameTime s.clock s.finishCalendar.clock := by
  refine (startWork_sameTime s).trans ?_
  rw [State.finishCalendar, (State.scheduleWork_frame s.overdueWork).2.2.2.2.2.2.1, State.overdueWork]
  split
  · rw [testOverdue_clock]
    rfl
  · rfl

/-! ### A forward step (R111) -/

/-- The shift number after a forward step. -/
def shiftAfter (s : State) (t0 t1 : Nat) : Nat :=
  if s.clock.pattern.crossesStart t0 t1 then s.clock.pattern.shiftOf t1 else s.clock.shift

/-- A forward step crosses an overdue instant at which the station is overdue. -/
def lateAfter (s : State) (t0 t1 : Nat) : Bool :=
  s.clock.pattern.crossesOverdue t0 t1 && (s.signOn.active.any (fun o => o.shift < shiftAfter s t0 t1) && s.holdsAny)

/-- A forward step's state before the overdue test, which sees the new shift number. -/
def started (s : State) (t0 t1 : Nat) : State :=
  let u := (s.setClock fun c => { c with millTime := t1 }).latchIf
    (s.clock.pattern.crossesDue t0 t1 && s.seated) .handoverDue
  if s.clock.pattern.crossesStart t0 t1 then
    (u.setClock fun c => { c with shift := c.pattern.shiftOf t1 }).startNotice else u

theorem started_clock (s : State) (t0 t1 : Nat) :
    (started s t0 t1).clock = { s.clock with millTime := t1, shift := shiftAfter s t0 t1 } := by
  unfold started shiftAfter
  split <;> simp [State.setClock]

theorem started_port (s : State) (t0 t1 : Nat) : (started s t0 t1).port =
    (s.latchIf (s.clock.pattern.crossesDue t0 t1 && s.seated) .handoverDue).port := by
  unfold started
  rw [← setClock_latchIf]
  split <;> simp [State.setClock]

theorem started_isOverdue (s : State) (t0 t1 : Nat) : (started s t0 t1).isOverdue =
    (s.signOn.active.any (fun o => o.shift < shiftAfter s t0 t1) && s.holdsAny) := by
  have hframe : (started s t0 t1).signOn = s.signOn ∧ (started s t0 t1).areas = s.areas ∧
      (started s t0 t1).node = s.node := by
    unfold started
    split <;> simp [State.setClock]
  obtain ⟨hsignOn, hareas, hnode⟩ := hframe
  have hany : (started s t0 t1).holdsAny = s.holdsAny := by
    unfold State.holdsAny
    rw [holds_congr hareas hnode]
  rw [State.isOverdue, started_clock, hsignOn, hany]

theorem forwardStep_of_started (s : State) (t0 t1 : Nat) : s.forwardStep t0 t1 =
    ((if s.clock.pattern.crossesOverdue t0 t1 then (started s t0 t1).testOverdue else started s t0 t1).setClock
      fun c => { c with inLead := c.pattern.inLead t1 }).reachSchedule := rfl

theorem forwardStep_clock (s : State) (t0 t1 : Nat) : (s.forwardStep t0 t1).clock = { s.clock with
    millTime := t1, shift := shiftAfter s t0 t1, inLead := s.clock.pattern.inLead t1
    overdue := s.clock.overdue || lateAfter s t0 t1 } := by
  rw [forwardStep_of_started]
  unfold lateAfter
  cases s.clock.pattern.crossesOverdue t0 t1 <;>
    simp [State.setClock, testOverdue_clock, started_clock, started_isOverdue]

theorem latchIf_port_congr (h : t.port = s.port) (b : Bool) (f : Flag) :
    (t.latchIf b f).port = (s.latchIf b f).port := by
  unfold State.latchIf
  split
  · simp [State.latch, h]
  · exact h

theorem forwardStep_port (s : State) (t0 t1 : Nat) : (s.forwardStep t0 t1).port =
    ((s.latchIf (s.clock.pattern.crossesDue t0 t1 && s.seated) .handoverDue).latchIf (lateAfter s t0 t1)
      .handoverOverdue).port := by
  rw [← latchIf_port_congr (started_port s t0 t1), forwardStep_of_started, lateAfter, ← started_isOverdue]
  cases s.clock.pattern.crossesOverdue t0 t1
  · simp [State.setClock, State.latchIf]
  · simp [State.setClock, testOverdue_port]

theorem lateAfter_iff (s : State) (t0 t1 : Nat) : lateAfter s t0 t1 = true ↔
    Crosses s.clock.pattern.isOverdue t0 t1 ∧
      ∃ x a, s.signOn.active = some x ∧ x.shift < shiftAfter s t0 t1 ∧ a < 32 ∧ s.holds a = true := by
  simp only [lateAfter, Bool.and_eq_true, crossesOverdue_iff, Option.any_eq_true, decide_eq_true_eq, State.holdsAny,
    List.any_eq_true, List.mem_range]
  exact and_congr_right fun _ =>
    ⟨fun ⟨⟨x, hx, hlt⟩, a, ha, hholds⟩ => ⟨x, a, hx, hlt, ha, hholds⟩,
      fun ⟨x, a, hx, hlt, ha, hholds⟩ => ⟨⟨x, hx, hlt⟩, a, ha, hholds⟩⟩

/-! ### An ARMED offer at a step (R129) -/

/-- An ARMED offer that a step of the clock takes to WAITING. -/
def comesDue (o : SchedOffer) (start : Bool) (t : Nat) : Bool :=
  match o.fire with
  | .nextShiftStart => start
  | .at i => decide (i ≤ t)

theorem startNotice_armed {o : SchedOffer} (h : s.handover.scheduled = .armed o) : s.startNotice.handover =
    if o.fire = .nextShiftStart then { s.handover with scheduled := .waiting o } else s.handover := by
  unfold State.startNotice
  rw [h]
  dsimp only
  split <;> simp_all

theorem startNotice_unarmed (h : ∀ o, s.handover.scheduled ≠ .armed o) : s.startNotice = s := by
  unfold State.startNotice
  split
  · next o ho => exact absurd ho (h o)
  · rfl
  · rfl

theorem reachSchedule_armed {o : SchedOffer} (h : s.handover.scheduled = .armed o) : s.reachSchedule.handover =
    if comesDue o false s.clock.millTime then { s.handover with scheduled := .waiting o } else s.handover := by
  have hcome : s.fireTimeCome = comesDue o false s.clock.millTime := by
    unfold State.fireTimeCome comesDue
    rw [h]
    dsimp only
    cases o.fire <;> rfl
  unfold State.reachSchedule
  rw [hcome, h]
  dsimp only
  split <;> rfl

theorem reachSchedule_unarmed (h : ∀ o, s.handover.scheduled ≠ .armed o) : s.reachSchedule = s := by
  unfold State.reachSchedule
  split
  · next o ho => exact absurd ho (h o)
  · rfl
  · rfl

theorem started_handover_unarmed (h : ∀ o, s.handover.scheduled ≠ .armed o) (t0 t1 : Nat) :
    (started s t0 t1).handover = s.handover := by
  unfold started
  dsimp only
  split
  · rw [startNotice_unarmed] <;> simp [State.setClock, h]
  · simp [State.setClock]

theorem started_handover_armed {o : SchedOffer} (h : s.handover.scheduled = .armed o) (t0 t1 : Nat) :
    (started s t0 t1).handover = if o.fire = .nextShiftStart ∧ s.clock.pattern.crossesStart t0 t1 = true then
      { s.handover with scheduled := .waiting o } else s.handover := by
  unfold started
  dsimp only
  split
  · next hstart =>
    rw [startNotice_armed (o := o)] <;> simp [State.setClock, h, hstart]
  · next hstart => simp [State.setClock, hstart]

/-- What a forward step does after the start notice reads the schedule as that notice left it. -/
theorem forwardStep_eq_reach (s : State) (t0 t1 : Nat) : ∃ u : State, s.forwardStep t0 t1 = u.reachSchedule ∧
    u.handover = (started s t0 t1).handover ∧ u.clock.millTime = t1 := by
  refine ⟨_, forwardStep_of_started s t0 t1, ?_⟩
  split
  · simp [State.setClock, testOverdue_clock, started_clock]
  · simp [State.setClock, started_clock]

theorem forwardStep_handover_unarmed (h : ∀ o, s.handover.scheduled ≠ .armed o) (t0 t1 : Nat) :
    (s.forwardStep t0 t1).handover = s.handover := by
  obtain ⟨u, heq, hu, -⟩ := forwardStep_eq_reach s t0 t1
  rw [started_handover_unarmed h] at hu
  rw [heq, reachSchedule_unarmed (hu ▸ h), hu]

theorem forwardStep_handover_armed {o : SchedOffer} (h : s.handover.scheduled = .armed o) (t0 t1 : Nat) :
    (s.forwardStep t0 t1).handover = if comesDue o (s.clock.pattern.crossesStart t0 t1) t1 then
      { s.handover with scheduled := .waiting o } else s.handover := by
  obtain ⟨u, heq, hu, htime⟩ := forwardStep_eq_reach s t0 t1
  rw [started_handover_armed h] at hu
  rw [heq]
  by_cases hstart : o.fire = .nextShiftStart ∧ s.clock.pattern.crossesStart t0 t1 = true
  · rw [if_pos hstart] at hu
    rw [reachSchedule_unarmed (fun x => by rw [hu]; nofun), hu, comesDue, hstart.1, if_pos hstart.2]
  · rw [if_neg hstart] at hu
    rw [reachSchedule_armed (hu ▸ h), hu, htime]
    unfold comesDue
    rcases hfire : o.fire with i | _
    · rfl
    · simp_all

theorem comesDue_iff (o : SchedOffer) (b : Bool) (T : Nat) : comesDue o b T = true ↔
    (o.fire = .nextShiftStart ∧ b = true) ∨ ∃ i, o.fire = .at i ∧ i ≤ T := by
  unfold comesDue
  cases o.fire <;> simp

theorem flagSet_congr (h : t.port = s.port) (f : Flag) : t.flagSet f = s.flagSet f := by
  unfold State.flagSet
  rw [h]

/-- What a forward step leaves, told by the instants it crosses. -/
theorem forwardStep_spec (s : State) {t0 t1 : Nat} {due start late : Prop}
    (hdue : due ↔ Crosses s.clock.pattern.isDue t0 t1) (hstart : start ↔ Crosses s.clock.pattern.isStart t0 t1)
    (hlate : late ↔ Crosses s.clock.pattern.isOverdue t0 t1 ∧ ∃ x a, s.signOn.active = some x ∧
      x.shift < (s.forwardStep t0 t1).clock.shift ∧ a < 32 ∧ s.holds a = true) :
    (start → (s.forwardStep t0 t1).clock.shift = s.clock.pattern.shiftOf t1) ∧
    (¬start → (s.forwardStep t0 t1).clock.shift = s.clock.shift) ∧
    ((s.forwardStep t0 t1).clock.overdue = true ↔ s.clock.overdue = true ∨ late) ∧
    (s.forwardStep t0 t1).clock = { s.clock with
      millTime := t1, shift := (s.forwardStep t0 t1).clock.shift, inLead := s.clock.pattern.inLead t1
      overdue := (s.forwardStep t0 t1).clock.overdue } ∧
    (∀ f, (s.forwardStep t0 t1).flagSet f = true ↔ s.flagSet f = true ∨
      (f = .handoverDue ∧ due ∧ s.signOn.active ≠ none) ∨ (f = .handoverOverdue ∧ late)) ∧
    ((∀ o, s.handover.scheduled ≠ .armed o) → (s.forwardStep t0 t1).handover = s.handover) ∧
    ∀ o, s.handover.scheduled = .armed o →
      ((o.fire = .nextShiftStart ∧ start) ∨ (∃ i, o.fire = .at i ∧ i ≤ t1) →
        (s.forwardStep t0 t1).handover = { s.handover with scheduled := .waiting o }) ∧
      ((o.fire = .nextShiftStart ∧ ¬start) ∨ (∃ i, o.fire = .at i ∧ t1 < i) →
        (s.forwardStep t0 t1).handover = s.handover) := by
  rw [← crossesDue_iff] at hdue
  rw [← crossesStart_iff] at hstart
  have hclock := forwardStep_clock s t0 t1
  have hshift : (s.forwardStep t0 t1).clock.shift = shiftAfter s t0 t1 := by rw [hclock]
  have hoverdue : (s.forwardStep t0 t1).clock.overdue = (s.clock.overdue || lateAfter s t0 t1) := by rw [hclock]
  rw [hshift, ← lateAfter_iff] at hlate
  refine ⟨fun h => ?_, fun h => ?_, ?_, ?_, fun f => ?_, fun h => forwardStep_handover_unarmed h _ _, fun o ho => ?_⟩
  · rw [hshift, shiftAfter, if_pos (hstart.mp h)]
  · rw [hshift, shiftAfter, if_neg fun h' => h (hstart.mpr h')]
  · rw [hoverdue, Bool.or_eq_true, hlate]
  · rw [hshift, hoverdue, hclock]
  · rw [flagSet_congr (forwardStep_port s t0 t1) f, flagSet_latchIf_iff, flagSet_latchIf_iff, Bool.and_eq_true, ← hdue,
      ← hlate, seated_eq_true_iff, or_assoc]
  · rw [forwardStep_handover_armed ho]
    refine ⟨fun h => if_pos ((comesDue_iff _ _ _).mpr (h.imp_left (And.imp_right hstart.mp))), fun h => if_neg fun h' => ?_⟩
    rw [comesDue_iff, ← hstart] at h'
    obtain ⟨hfire, hno⟩ | ⟨i, hfire, hlt⟩ := h
    · simp [hfire, hno] at h'
    · simp [hfire] at h'
      omega

/-! ### The request -/

theorem stepClock_time (s : State) (T : Nat) : (s.stepClock T).clock.millTime = T ∧
    (s.stepClock T).clock.now = s.clock.now ∧ (s.stepClock T).clock.phase = s.clock.phase ∧
    (s.stepClock T).clock.secondPeriods = s.clock.secondPeriods := by
  have hsame := finishCalendar_sameTime s
  unfold State.stepClock
  dsimp only
  split
  · rw [forwardStep_clock, hsame]
    exact ⟨rfl, rfl, rfl, rfl⟩
  · split
    · rw [State.backwardStep, State.recompute, State.setClock_eq, State.setClock_eq, hsame]
      exact ⟨rfl, rfl, rfl, rfl⟩
    · exact ⟨by omega, by rw [hsame], by rw [hsame], by rw [hsame]⟩

theorem isActive_iff : s.isActive = true ↔ Active s := by
  simp [State.isActive]

theorem setClock_firstFail_pass {v : Quad} (hv : v.toNat ≤ 3155759999) (h : s.node.mode = .config ∨ s.node.mode = .ready ∨
    (Active s ∧ ∃ o, s.signOn.active = some o ∧ o.stepOne = 0)) :
    firstFail [(!clockSettable s.node.mode, .badState), (Config.lastMillTime < v.toNat, .badValue),
      (s.isActive && !s.seated, .notSignedOn), (s.isActive && !s.clockPermitted, .notPermitted)] = none := by
  have hlast : ¬Config.lastMillTime < v.toNat := Nat.not_lt.mpr hv
  rw [firstFail_cons, firstFail_cons, decide_eq_false hlast]
  obtain h | h | ⟨h, o, ho, hstep⟩ := h
  · rw [State.isActive, h]
    rfl
  · rw [State.isActive, h]
    rfl
  · simp [h, clockSettable, State.clockPermitted, State.seated, ho, hstep]

/-- Settles O29: the four checks, and a step of the clock backward, forward or to the same value. -/
theorem setClockSteps : Obligations.SetClockSteps := by
  unfold Obligations.SetClockSteps
  refine fun s v hopen => ⟨fun hmode => ?wrongState, fun h1 h2 hlate => ?late, fun hactive hv hnone => ?noOperator,
    fun o hactive hv ho hstep => ?weak, fun hv hallowed => ⟨_, exec_of_rule (rule := ruleSetClock v) rfl hopen
      (checked_pass _ _ (setClock_firstFail_pass hv hallowed)), ?done⟩⟩
  case wrongState =>
    refine refuses_of_rule rfl hopen (checked_refuse _ _ ?_)
    obtain h | h := hmode <;> simp [h, clockSettable]
  case late =>
    refine refuses_of_rule rfl hopen (checked_refuse _ _ ?_)
    have hsettable : clockSettable s.node.mode = true := by
      cases h : s.node.mode <;> simp_all [clockSettable]
    simp [hsettable, Config.lastMillTime, hlate]
  case noOperator =>
    refine refuses_of_rule rfl hopen (checked_refuse _ _ ?_)
    simp [hactive, clockSettable, Config.lastMillTime, Nat.not_lt.mpr hv, State.seated, hnone, isActive_iff.mpr hactive]
  case weak =>
    refine refuses_of_rule rfl hopen (checked_refuse _ _ ?_)
    rw [firstFail_cons, firstFail_cons, firstFail_cons, firstFail_cons]
    simp [hactive, clockSettable, Config.lastMillTime, Nat.not_lt.mpr hv, State.seated, ho, State.clockPermitted, hstep,
      isActive_iff.mpr hactive]
  case done =>
    obtain ⟨hmill, hnow, hphase, hperiods⟩ := stepClock_time s.checkIn v.toNat
    refine ⟨hmill, hnow, hphase, hperiods, rfl, ?body, ?_, fun h1 h2 h3 h4 => ?_⟩
    case body =>
      show AnswerBody.clock _ _ = .clock _ _
      rw [hmill]
      rfl
    · exact state_ext (State.stepClock_frame _ _).1 (by simp) (by simp) (by simp) (by simp) (by simp) rfl rfl (by simp)
        (by simp) (by simp) (by simp) rfl rfl (by simp) (by simp)
    have hleft : s.checkIn.finishCalendar = s.checkIn := finishCalendar_of_unmarked (s := s.checkIn) ⟨h1, h2, h3, h4⟩
    refine ⟨fun heq => ?same, fun hlt => ?back, fun due start late hlt hdue hstart hlate => ?forward⟩
    case same =>
      have hstep : s.checkIn.stepClock v.toNat = s.checkIn := by
        unfold State.stepClock
        rw [hleft, heq]
        simp
      rw [hstep]
      exact ⟨rfl, rfl⟩
    case back =>
      have hstep : s.checkIn.stepClock v.toNat = s.checkIn.backwardStep v.toNat := by
        unfold State.stepClock
        rw [hleft]
        exact (if_neg (Nat.lt_asymm hlt)).trans (if_pos hlt)
      rw [hstep]
      exact ⟨rfl, rfl, rfl⟩
    case forward =>
      have hstep : s.checkIn.stepClock v.toNat = s.checkIn.forwardStep s.clock.millTime v.toNat := by
        unfold State.stepClock
        rw [hleft]
        simp [hlt]
      rw [hstep] at hlate ⊢
      obtain ⟨hyes, hno, hoverdue, hclock, hflags, hun, harmed⟩ := forwardStep_spec s.checkIn hdue hstart hlate
      have hsecond : (s.checkIn.forwardStep s.clock.millTime v.toNat).second = s.second := by simp
      generalize s.checkIn.forwardStep s.clock.millTime v.toNat = u at *
      exact ⟨hsecond, hyes, hno, hoverdue, hclock, hflags, hun, harmed⟩

end Sys2Proof.Answers

/-! PROOF. Operators: permission checks, SIGN ON, SIGN OFF, acting ranks (chapter 5), and the posts (R11, R12). -/

namespace Sys2Proof.Answers

open Sys2Proof.Machine Sys2Proof.Claims Sys2Proof.Keep

variable {c : Instr} {code : Byte} {s t u : State}

/-! ### Requests that are a table of checks and an effect -/

section checks

variable {checks : State → List (Bool × ResultCode)} {effect : State → Reply}

/-- The checks read the state as the check-in found it. -/
theorem refuses_of_checks {r : ResultCode}
    (hexec : exec c s = .next (request code (fun u => checked (checks u) effect u) s))
    (hsame : checks s.checkIn = checks s) (hopen : Open s) (h : firstFail (checks s) = some r) : Refuses c code r s :=
  refuses_of_rule hexec hopen (checked_refuse effect s.checkIn (hsame.symm ▸ h))

theorem exec_of_checks {r : ResultCode} {b : AnswerBody}
    (hexec : exec c s = .next (request code (fun u => checked (checks u) effect u) s))
    (hsame : checks s.checkIn = checks s) (hopen : Open s) (h : firstFail (checks s) = none)
    (heffect : effect s.checkIn = ⟨u, r, b⟩) : exec c s = .next (u.answer code r b) :=
  exec_of_rule hexec hopen ((checked_pass effect s.checkIn (hsame.symm ▸ h)).trans heffect)

end checks

theorem firstFail_inactive (h : ¬Active s) (r : ResultCode) (rest : List (Bool × ResultCode)) :
    firstFail ((s.inactive, r) :: rest) = some r := by
  rw [(inactive_eq_true_iff s).mpr h, firstFail_fail]

theorem firstFail_active (h : Active s) (r : ResultCode) (rest : List (Bool × ResultCode)) :
    firstFail ((s.inactive, r) :: rest) = firstFail rest := by
  rw [(inactive_eq_false_iff s).mpr h, firstFail_pass]

theorem firstFail_refuse {b : Bool} (h : b = true) (r : ResultCode) (rest : List (Bool × ResultCode)) :
    firstFail ((b, r) :: rest) = some r := by
  rw [h, firstFail_fail]

theorem firstFail_skip {b : Bool} (h : b = false) (r : ResultCode) (rest : List (Bool × ResultCode)) :
    firstFail ((b, r) :: rest) = firstFail rest := by
  rw [h, firstFail_pass]

theorem rerouted_eq (s : State) : s.reroute = rerouted s := rfl

/-! ### Permission checks (R76 to R79) -/

theorem stepOne_eq (o : Operator) : o.stepOne = max o.rank (o.acting.getD o.rank) := by
  unfold Operator.stepOne
  cases o.acting <;> simp

theorem longWatch_iff (s : State) (o : Operator) :
    s.longWatch o = true ↔ 2 * (60 * (1440 / s.clock.pattern.perDay)) ≤ elapsed s.clock.now o.since :=
  decide_eq_true_iff

/-- What long watch adds, for the actions it weakens. -/
theorem effectiveRank_watched (s : State) (o : Operator) {act : Action} (h : act = .shelve ∨ act = .take) (a : Nat) :
    s.effectiveRank o act a = min 4 (s.effectiveRank o .hold a + if s.longWatch o = true then 1 else 0) := by
  obtain rfl | rfl := h
  all_goals
    simp only [State.effectiveRank]
    cases s.longWatch o <;> simp
    omega

theorem effectiveRank_unwatched (s : State) (o : Operator) {act : Action} (h : act = .acknowledge ∨ act = .hold) (a : Nat) :
    s.effectiveRank o act a = min 4 (if !o.qualified.getLsbD a then o.stepOne + 2
      else if !s.holds a && o.rank != 0 then o.stepOne + 1 else o.stepOne) := by
  obtain rfl | rfl := h <;> rfl

theorem permits_iff (s : State) (o : Operator) (act : Action) (a : Nat) : s.permits o act a = true ↔
    s.effectiveRank o act a ≤ s.requiredRank act a ∧ s.effectiveRank o act a < 4 := by
  simp [State.permits]

/-- Settles O31: the effective rank from its three tests, the verdict from the required rank of each action. -/
theorem permissionCheckFollowsTheRanks : Obligations.PermissionCheckFollowsTheRanks := by
  unfold Obligations.PermissionCheckFollowsTheRanks
  rintro s o act a e rfl
  simp only [permits_iff, ← stepOne_eq]
  refine ⟨fun hq hheld hact => ?_, fun hq hheld hrank hact => ?_, fun hq hact => ?_, fun hact => ?_, fun k hk hact => ?_,
    fun k hk hact => ?_, fun k hk hact => ?_, fun k hk hact => ?_, fun hk => ?_, trivial⟩
  · rw [effectiveRank_unwatched s o hact, hq]
    obtain h | h := hheld <;> simp [h]
  · simp [effectiveRank_unwatched s o hact, hq, hheld, hrank]
  · simp [effectiveRank_unwatched s o hact, hq]
  · rw [effectiveRank_watched s o hact]
    simp [longWatch_iff]
  all_goals subst_vars
  · rw [State.requiredRank, hk]
    exact Iff.rfl
  · simp [State.requiredRank, hk]
  · simp [State.requiredRank, hk]
  · simp [State.requiredRank, hk]
  · simp only [State.requiredRank, hk]
    omega

/-! ### SIGN ON and SIGN ON RELIEF -/

theorem peerSeats_iff (b : Badge) (y : PeerRecord) : peerSeats b y = true ↔
    y.state = .present ∧ ∃ i, y.info = some i ∧ (i.activeBadge = b ∨ i.reliefBadge = b) := by
  simp only [peerSeats, Bool.and_eq_true, beq_iff_eq, Option.any_eq_true, Bool.or_eq_true]

theorem badgeTaken_iff (s : State) (b : Badge) : s.badgeTaken b = true ↔
    (∃ x, (s.signOn.active = some x ∨ s.signOn.relief = some x) ∧ x.badge = b) ∨
      ∃ y i, some y ∈ s.peers ∧ y.state = .present ∧ y.info = some i ∧ (i.activeBadge = b ∨ i.reliefBadge = b) := by
  simp only [State.badgeTaken, Bool.or_eq_true, Option.any_eq_true, List.any_eq_true, peerSeats_iff, beq_iff_eq]
  refine or_congr ?slots ?peers
  case slots =>
    rw [← exists_or]
    exact exists_congr fun x => or_and_right.symm
  case peers =>
    constructor
    · rintro ⟨p, hp, y, rfl, hstate, i, hi, hbadge⟩
      exact ⟨y, i, hp, hstate, hi, hbadge⟩
    · rintro ⟨y, i, hp, hstate, hi, hbadge⟩
      exact ⟨some y, hp, y, rfl, hstate, i, hi, hbadge⟩

/-- A badge and a rank byte that no request refuses pass the value check. -/
theorem signOn_value {b : Badge} {r : Byte} (hb : b ≠ 0) (hr : r.toNat ≤ 3) :
    (b == 0 || decide (3 < r.toNat)) = false := by
  simpa [hr] using hb

/-- Settles O32: the two requests check the same values, then each its own slots, then the badge. -/
theorem signOnSeatsTheOperator : Obligations.SignOnSeatsTheOperator := by
  unfold Obligations.SignOnSeatsTheOperator
  intro s b r q hopen
  refine ⟨badgeTaken_iff s b,
    fun hmode => ⟨refuses_of_checks rfl rfl hopen (firstFail_inactive hmode _ _),
      refuses_of_checks rfl rfl hopen (firstFail_inactive hmode _ _)⟩,
    fun hactive hv => ?wrongValue, fun hactive hb hr hseat => ?occupied,
    fun hactive hb hr hseat => ?occupiedRelief, fun hactive hb hr hseat htaken => ?inUse,
    fun hactive hb hr hseat hrelief htaken => ?inUseRelief, ?seated⟩
  case wrongValue =>
    have hvalue : (b == 0 || decide (3 < r.toNat)) = true := by simpa using hv
    exact ⟨refuses_of_checks rfl rfl hopen ((firstFail_active hactive _ _).trans (firstFail_refuse hvalue _ _)),
      refuses_of_checks rfl rfl hopen ((firstFail_active hactive _ _).trans (firstFail_refuse hvalue _ _))⟩
  case occupied =>
    refine refuses_of_checks rfl rfl hopen ?_
    rw [firstFail_active hactive, firstFail_skip (signOn_value hb hr), firstFail_refuse ((seated_eq_true_iff s).mpr hseat)]
  case occupiedRelief =>
    refine refuses_of_checks rfl rfl hopen ?_
    rw [firstFail_active hactive, firstFail_skip (signOn_value hb hr), firstFail_refuse]
    simpa [Option.isSome_iff_ne_none] using hseat
  case inUse =>
    refine refuses_of_checks rfl rfl hopen ?_
    rw [firstFail_active hactive, firstFail_skip (signOn_value hb hr),
      firstFail_skip ((seated_eq_false_iff s).mpr hseat), firstFail_refuse htaken]
  case inUseRelief =>
    refine refuses_of_checks rfl rfl hopen ?_
    rw [firstFail_active hactive, firstFail_skip (signOn_value hb hr), firstFail_skip, firstFail_refuse htaken]
    simp [(seated_eq_true_iff s).mpr hseat, hrelief]
  case seated =>
    rintro o rfl hactive hb hr hfree
    refine ⟨fun hseat => (exec_of_checks rfl rfl hopen ?_ rfl).trans rfl,
      fun hseat hrelief => (exec_of_checks rfl rfl hopen ?_ rfl).trans rfl⟩
    · rw [firstFail_active hactive, firstFail_skip (signOn_value hb hr),
        firstFail_skip ((seated_eq_false_iff s).mpr hseat), firstFail_skip hfree, firstFail_nil]
    · rw [firstFail_active hactive, firstFail_skip (signOn_value hb hr), firstFail_skip, firstFail_skip hfree, firstFail_nil]
      simp [(seated_eq_true_iff s).mpr hseat, hrelief]

/-! ### POST RAISE and POST CLEAR -/

theorem isFeed_iff (s : State) (a : Nat) : s.isFeed a = true ↔
    ∃ k, (s.area a).config = some k ∧ s.node.number = some k.feed := by
  unfold State.isFeed
  cases (s.area a).config <;> simp [State.isOwn]

theorem idOk_iff (id : AlarmId) : idOk id = true ↔ id.area.toNat < 32 ∧ id.point.toNat < 4096 := by
  simp [idOk, areaOk, pointOk]

theorem priorityOf_isNone_iff (n : Nat) : (priorityOf n).isNone = true ↔ n = 0 ∨ 4 < n := by
  match n with
  | 0 | 1 | 2 | 3 | 4 => decide
  | m + 5 => exact iff_of_true rfl (.inr (by omega))

/-- Settles O34: both requests check the identification, the feed station and the change queue's places. -/
theorem postsJoinTheChangeQueue : Obligations.PostsJoinTheChangeQueue := by
  unfold Obligations.PostsJoinTheChangeQueue
  intro s a p q hopen
  refine ⟨fun hmode => ⟨refuses_of_checks rfl rfl hopen (firstFail_inactive hmode _ _),
      refuses_of_checks rfl rfl hopen (firstFail_inactive hmode _ _)⟩,
    fun hactive hv => ?wrongId, fun hactive hq => ?wrongPriority, fun hactive ha hp h1 h4 hfeed => ?notFeed,
    fun k hactive ha hp h1 h4 hk hown => ⟨fun hfull => ?full, fun hroom => ?posted⟩⟩
  case wrongId =>
    have hid : idOk ⟨a, p⟩ = false := by
      rw [← Bool.not_eq_true, idOk_iff]
      dsimp only
      omega
    constructor
    · refine refuses_of_checks rfl rfl hopen ?_
      rw [firstFail_active hactive, firstFail_refuse (by rw [hid]; rfl)]
    · refine refuses_of_checks rfl rfl hopen ?_
      rw [firstFail_active hactive, firstFail_refuse (by rw [hid]; rfl)]
  case wrongPriority =>
    refine refuses_of_checks rfl rfl hopen ?_
    rw [firstFail_active hactive, firstFail_refuse (by rw [(priorityOf_isNone_iff _).mpr hq, Bool.or_true])]
  all_goals
    have hid : (!idOk ⟨a, p⟩) = false := by rw [(idOk_iff _).mpr ⟨ha, hp⟩]; rfl
    have hvalue : (!idOk ⟨a, p⟩ || (priorityOf q.toNat).isNone) = false := by
      rw [hid, Bool.false_or, ← Bool.not_eq_true, priorityOf_isNone_iff]
      omega
  case notFeed =>
    have hnot : (!s.isFeed a.toNat) = true := by
      rw [Bool.not_eq_true', ← Bool.not_eq_true, isFeed_iff]
      exact fun ⟨k, hk, hown⟩ => hfeed k hk hown
    constructor
    · refine refuses_of_checks rfl rfl hopen ?_
      rw [firstFail_active hactive, firstFail_skip hvalue, firstFail_refuse hnot]
    · refine refuses_of_checks rfl rfl hopen ?_
      rw [firstFail_active hactive, firstFail_skip hid, firstFail_refuse hnot]
  all_goals
    have hfeed : (!s.isFeed a.toNat) = false := by rw [(isFeed_iff s _).mpr ⟨k, hk, hown⟩]; rfl
  case full =>
    have hchange : s.changeFull = true := decide_eq_true hfull
    constructor
    · refine refuses_of_checks rfl rfl hopen ?_
      rw [firstFail_active hactive, firstFail_skip hvalue, firstFail_skip hfeed, firstFail_refuse hchange]
    · refine refuses_of_checks rfl rfl hopen ?_
      rw [firstFail_active hactive, firstFail_skip hid, firstFail_skip hfeed, firstFail_refuse hchange]
  case posted =>
    have hchange : s.changeFull = false := decide_eq_false (Nat.not_le.mpr hroom)
    have hplaces : 32 - (s.tx.change.length + 1) = 31 - s.tx.change.length := by omega
    rw [← hplaces]
    refine ⟨(exec_of_checks rfl rfl hopen ?_ rfl).trans rfl, (exec_of_checks rfl rfl hopen ?_ rfl).trans rfl⟩
    · rw [firstFail_active hactive, firstFail_skip hvalue, firstFail_skip hfeed, firstFail_skip hchange, firstFail_nil]
    · rw [firstFail_active hactive, firstFail_skip hid, firstFail_skip hfeed, firstFail_skip hchange, firstFail_nil]

end Sys2Proof.Answers

/-! PROOF. Ending offers and queueing built frames, and SIGN OFF with its notices and SET ACTING RANK (chapter 5, R125). -/

namespace Sys2Proof.Answers

open Sys2Proof.Machine Sys2Proof.Claims Sys2Proof.Keep

variable {c : Instr} {code : Byte} {s t u : State}

/-! ### Stations, places and offers -/

theorem isOwn_iff (s : State) (n : Station) : s.isOwn n = true ↔ s.node.number = some n := by
  simp [State.isOwn]

theorem isOwn_eq_false_iff (s : State) (n : Station) : s.isOwn n = false ↔ s.node.number ≠ some n := by
  simp [State.isOwn]

theorem own_of_number {n : Station} (h : s.node.number = some n) : s.own = n := by
  simp [State.own, h]

theorem hasRoom_eq_true (h : s.tx.urgent.length < 8) : s.hasRoom = true := decide_eq_true h

theorem hasRoom_eq_false (h : 8 ≤ s.tx.urgent.length) : s.hasRoom = false := decide_eq_false (Nat.not_lt.mpr h)

theorem queueIfRoom_room (h : s.tx.urgent.length < 8) (f : Frame) : s.queueIfRoom f = { s with tx := queued s f } :=
  if_pos (hasRoom_eq_true h)

theorem queueIfRoom_full (h : 8 ≤ s.tx.urgent.length) (f : Frame) : s.queueIfRoom f = s :=
  if_neg (by simp [hasRoom_eq_false h])

theorem outIdle_eq_true (h : s.handover.outgoing = .idle) : s.outIdle = true := by
  rw [State.outIdle, h]
  rfl

theorem outIdle_eq_false (h : s.handover.outgoing ≠ .idle) : s.outIdle = false := beq_eq_false_iff_ne.mpr h

theorem inIdle_eq_true (h : s.handover.incoming = .idle) : s.inIdle = true := by
  rw [State.inIdle, h]
  rfl

theorem inIdle_eq_false (h : s.handover.incoming ≠ .idle) : s.inIdle = false := beq_eq_false_iff_ne.mpr h

/-! ### Holding and claims in the urgent queue -/

theorem holdsAny_iff (s : State) : s.holdsAny = true ↔ ∃ a, a < 32 ∧ s.holds a = true := by
  simp [State.holdsAny]

theorem claimOfFrame_isSome_iff (f : Frame) : (claimOfFrame f).isSome = true ↔
    (∃ r a n b, f = .claim r a n b) ∨ ∃ a n b, f = .take a n b := by
  cases f <;> simp [claimOfFrame]

theorem claimsQueued_iff (s : State) : s.claimsQueued = true ↔
    ∃ x ∈ s.tx.urgent, (∃ r a n b, x.frame = .claim r a n b) ∨ ∃ a n b, x.frame = .take a n b := by
  simp only [State.claimsQueued, List.any_eq_true, claimOfFrame_isSome_iff]

/-! ### The notices of SIGN OFF (R125) -/

theorem operatorGone_idle (h : s.handover.incoming = .idle) : s.operatorGone = s := by
  unfold State.operatorGone
  rw [h]

theorem operatorGone_remote {o : InOffer} (h : s.handover.incoming = .presented o) (hn : s.node.number ≠ some o.origin) :
    s.operatorGone = (s.queueIfRoom (answerDecline o.origin o.number 0x03)).endIn o (.autoDeclined 0x03) := by
  unfold State.operatorGone
  rw [h]
  exact if_neg (by simp [(isOwn_eq_false_iff s _).mpr hn])

theorem reliefGone_other (h : ∀ o, s.handover.outgoing = .offered o → s.node.number ≠ some o.target) :
    s.reliefGone = s := by
  unfold State.reliefGone
  split
  · next o ho => exact if_neg (by simp [(isOwn_eq_false_iff s _).mpr (h o ho)])
  · rfl
  · rfl

theorem reliefGone_seat {o : OutOffer} (h : s.handover.outgoing = .offered o) (hn : s.node.number = some o.target) :
    s.reliefGone = s.endSeat o.number (.autoDeclined 0x03) := by
  unfold State.reliefGone
  rw [h]
  exact if_pos ((isOwn_iff s _).mpr hn)

/-- A seat change that ends: the same outcome on both sides, under this station's number. -/
theorem endSeat_eq {n : Station} (hn : s.node.number = some n) (number : Byte) (e : OfferEnd) :
    s.endSeat number e = ({ s with handover := { s.handover with
      outgoing := .idle, incoming := .idle, lastOut := some ⟨number, n, e⟩, lastIn := some ⟨number, n, e⟩ } }).latchOpt
      (seatFlag e) := by
  rw [State.endSeat, own_of_number hn]

/-! ### SIGN OFF and SET ACTING RANK -/

theorem signOff_passed (hactive : Active s) (hseat : s.signOn.active ≠ none) (hheld : ∀ a, a < 32 → s.holds a = false)
    (hclaims : s.claimsQueued = false) (hin : s.inAnswered = false) (hout : s.handover.outgoing = .idle) :
    firstFail [(s.inactive, .badState), (!s.seated, .notSignedOn), (s.holdsAny, .holding), (s.claimsQueued, .holding),
      (s.inAnswered, .holding), (!s.outIdle, .handoverBusy)] = none := by
  have hnone : s.holdsAny = false := by
    rw [← Bool.not_eq_true, holdsAny_iff]
    exact fun ⟨a, ha, h⟩ => by simp [hheld a ha] at h
  rw [firstFail_active hactive, (seated_eq_true_iff s).mpr hseat, hnone, hclaims, hin, outIdle_eq_true hout]
  rfl

theorem inAnswered_eq_false (h : ∀ o f, s.handover.incoming ≠ .answered o f) : s.inAnswered = false := by
  unfold State.inAnswered
  split
  · next o f ho => exact absurd ho (h o f)
  · rfl
  · rfl

/-- A state whose active operator has signed off, before the notice to the offers. -/
def unseated (s : State) : State := State.activeChanged { s.checkIn with signOn := { s.signOn with active := none } }

theorem exec_signOff (hopen : Open s) (hactive : Active s) (hseat : s.signOn.active ≠ none)
    (hheld : ∀ a, a < 32 → s.holds a = false) (hclaims : s.claimsQueued = false)
    (hin : ∀ o f, s.handover.incoming ≠ .answered o f) (hout : s.handover.outgoing = .idle) :
    exec .signOffActive s = .next ((unseated s).operatorGone.answer 0x22 .ok .empty) :=
  exec_of_checks rfl rfl hopen (signOff_passed hactive hseat hheld hclaims (inAnswered_eq_false hin) hout) rfl

theorem setActingRank_passed {slot r : Byte} (hactive : Active s) (hslot : slot.toNat ≤ 1) (hr : r.toNat ≤ 3 ∨ r = 0xFF) :
    firstFail [(s.inactive, .badState), (1 < slot.toNat || (3 < r.toNat && r != 0xFF), .badValue)] = none := by
  rw [firstFail_active hactive, firstFail_skip, firstFail_nil]
  obtain h | rfl := hr
  · simp [hslot, Nat.not_lt.mpr h]
  · simp [hslot]

theorem setActingRank_none {slot r : Byte} (hopen : Open s) (hactive : Active s) (hslot : slot.toNat ≤ 1)
    (hr : r.toNat ≤ 3 ∨ r = 0xFF) (hnone : s.slot slot = none) : Refuses (.setActingRank slot r) 0x23 .notSignedOn s := by
  refine refuses_of_rule rfl hopen ((checked_pass _ _ (setActingRank_passed (s := s.checkIn) hactive hslot hr)).trans ?_)
  rw [show s.checkIn.slot slot = none from hnone]

theorem setActingRank_some {slot r : Byte} {o : Operator} (hopen : Open s) (hactive : Active s) (hslot : slot.toNat ≤ 1)
    (hr : r.toNat ≤ 3 ∨ r = 0xFF) (hsome : s.slot slot = some o) : exec (.setActingRank slot r) s =
      .next ((s.checkIn.setSlot slot { o with acting := actingOf r }).answer 0x23 .ok
        (.rank (Operator.stepOne { o with acting := actingOf r }))) := by
  refine exec_of_rule rfl hopen ((checked_pass _ _ (setActingRank_passed (s := s.checkIn) hactive hslot hr)).trans ?_)
  rw [show s.checkIn.slot slot = some o from hsome]
  rfl

theorem actingOf_rank {r : Byte} (h : r.toNat ≤ 3) : actingOf r = some r.toNat := by
  refine if_neg ?_
  rintro rfl
  exact absurd h (by decide)

/-- A state whose relief has signed off, before the notice to the offers. -/
def unrelieved (s : State) : State := { s.checkIn with signOn := { s.signOn with relief := none } }

theorem exec_signOffRelief (hopen : Open s) (hactive : Active s) (hrelief : s.signOn.relief ≠ none) :
    exec (.signOffRelief 0x01) s = .next ((unrelieved s).reliefGone.answer 0x22 .ok .empty) := by
  refine exec_of_checks rfl rfl hopen ?_ rfl
  rw [firstFail_active hactive, firstFail_skip (bne_self_eq_false _), firstFail_skip, firstFail_nil]
  simpa [Option.isSome_iff_ne_none] using hrelief

/-- Settles O33: SIGN OFF of either slot in its table of checks, then the slot emptied and the offer told; SET ACTING RANK
slot by slot. -/
theorem signOffAndActingRank : Obligations.SignOffAndActingRank := by
  unfold Obligations.SignOffAndActingRank
  intro s hopen
  refine ⟨fun hmode => ⟨refuses_of_checks rfl rfl hopen (firstFail_inactive hmode _ _),
      fun slot => refuses_of_checks rfl rfl hopen (firstFail_inactive hmode _ _),
      fun slot r => refuses_of_checks rfl rfl hopen (firstFail_inactive hmode _ _)⟩,
    fun hactive hseat => ?noOperator, fun hactive hseat hheld => ?holding, fun hactive hseat hclaims => ?claims,
    claimsQueued_iff s, fun o f hactive hseat hin => ?answered,
    fun hactive hseat hheld hclaims hin hout => ?busy,
    fun hactive hseat hheld hclaims hout u hu => ⟨fun hin => ?signedOff, fun o v hin hn hv => ?declined⟩,
    fun slot hactive hslot => ?wrongSlot, fun hactive hnone => ?noRelief,
    fun hactive hrelief => ⟨fun hother => ?relief, fun o hout hn => ?seatEnds⟩,
    fun slot r hactive hv => ?wrongRank, fun r hactive hr => ⟨fun hnone => ?emptyActive, fun hnone => ?emptyRelief⟩,
    fun o r hactive ho hr => ?_, fun o hactive ho => ?_, fun o r hactive ho hr => ?_, fun o hactive ho => ?_⟩
  case noOperator =>
    refine refuses_of_checks rfl rfl hopen ?_
    rw [firstFail_active hactive, (seated_eq_false_iff s).mpr hseat]
    rfl
  case holding =>
    refine refuses_of_checks rfl rfl hopen ?_
    rw [firstFail_active hactive, (seated_eq_true_iff s).mpr hseat, (holdsAny_iff s).mpr hheld]
    rfl
  case claims =>
    refine refuses_of_checks rfl rfl hopen ?_
    rw [firstFail_active hactive, (seated_eq_true_iff s).mpr hseat, hclaims]
    cases s.holdsAny <;> rfl
  case answered =>
    refine refuses_of_checks rfl rfl hopen ?_
    have hans : s.inAnswered = true := by
      unfold State.inAnswered
      rw [hin]
    rw [firstFail_active hactive, (seated_eq_true_iff s).mpr hseat, hans]
    cases s.holdsAny
    · cases s.claimsQueued <;> rfl
    · rfl
  case busy =>
    refine refuses_of_checks rfl rfl hopen ?_
    have hnone : s.holdsAny = false := by
      rw [← Bool.not_eq_true, holdsAny_iff]
      exact fun ⟨a, ha, h⟩ => by simp [hheld a ha] at h
    rw [firstFail_active hactive, (seated_eq_true_iff s).mpr hseat, hnone, hclaims, inAnswered_eq_false hin,
      outIdle_eq_false hout]
    rfl
  case signedOff =>
    rw [exec_signOff hopen hactive hseat hheld hclaims (by simp [hin]) hout, operatorGone_idle (s := unseated s) hin, hu]
    rfl
  case declined =>
    subst hv hu
    rw [exec_signOff hopen hactive hseat hheld hclaims (by simp [hin]) hout, operatorGone_remote (s := unseated s) hin hn]
    refine ⟨fun hroom => ?_, fun hfull => ?_⟩
    · rw [queueIfRoom_room (s := unseated s) hroom]
      rfl
    · rw [queueIfRoom_full (s := unseated s) hfull]
      rfl
  case wrongSlot =>
    refine refuses_of_checks rfl rfl hopen ?_
    rw [firstFail_active hactive, firstFail_refuse (bne_iff_ne.mpr hslot)]
  case noRelief =>
    refine refuses_of_checks rfl rfl hopen ?_
    rw [firstFail_active hactive, hnone]
    rfl
  case relief =>
    rw [exec_signOffRelief hopen hactive hrelief, reliefGone_other (s := unrelieved s) hother]
    rfl
  case seatEnds =>
    rw [exec_signOffRelief hopen hactive hrelief, reliefGone_seat (s := unrelieved s) hout hn,
      endSeat_eq (s := unrelieved s) hn]
    rfl
  case wrongRank =>
    refine refuses_of_checks rfl rfl hopen ?_
    rw [firstFail_active hactive, firstFail_refuse]
    simpa using hv
  case emptyActive => exact setActingRank_none hopen hactive (by decide) hr hnone
  case emptyRelief => exact setActingRank_none hopen hactive (by decide) hr hnone
  · refine (setActingRank_some (slot := 0x00) hopen hactive (by decide) (.inl hr) ho).trans ?_
    rw [actingOf_rank hr]
    rfl
  · exact (setActingRank_some (slot := 0x00) hopen hactive (by decide) (.inr rfl) ho).trans rfl
  · refine (setActingRank_some (slot := 0x01) hopen hactive (by decide) (.inl hr) ho).trans ?_
    rw [actingOf_rank hr]
    rfl
  · exact (setActingRank_some (slot := 0x01) hopen hactive (by decide) (.inr rfl) ho).trans rfl

end Sys2Proof.Answers

/-! PROOF. The requests on alarms: ACKNOWLEDGE, SHELVE, UNSHELVE and ACKNOWLEDGE AREA (chapter 2). -/

namespace Sys2Proof.Answers

open Sys2Proof.Machine Sys2Proof.Claims Sys2Proof.Keep

variable {c : Instr} {code : Byte} {s t u : State}

/-! ### A built frame by a permitted operator (R21, checks 6 and 8) -/

theorem permitted_eq {x : Operator} (h : s.signOn.active = some x) (act : Action) (a : Nat) :
    s.permitted act a = s.permits x act a := by
  simp [State.permitted, h]

theorem activeBadge_eq {x : Operator} (h : s.signOn.active = some x) : s.activeBadge = x.badge := by
  simp [State.activeBadge, h]

section sends

variable {x : Operator} {act : Action} {a : Nat} {f : Frame} {b : AnswerBody}

theorem sendPermitted_weak (hx : s.signOn.active = some x) (h : s.permits x act a = false) :
    s.sendPermitted act a f b = .refuse s .notPermitted :=
  checked_refuse _ s (firstFail_refuse (by rw [permitted_eq hx, h]; rfl) _ _)

theorem sendPermitted_full (hx : s.signOn.active = some x) (h : s.permits x act a = true) (hfull : 8 ≤ s.tx.urgent.length) :
    s.sendPermitted act a f b = .refuse s .queueFull := by
  refine checked_refuse _ s ?_
  rw [permitted_eq hx, h, hasRoom_eq_false hfull]
  rfl

theorem sendPermitted_sent (hx : s.signOn.active = some x) (h : s.permits x act a = true) (hroom : s.tx.urgent.length < 8) :
    s.sendPermitted act a f b = .ok (s.queue f) b := by
  refine checked_pass _ s ?_
  rw [permitted_eq hx, h, hasRoom_eq_true hroom]
  rfl

end sends

/-! ### ACKNOWLEDGE and UNSHELVE -/

section byId

variable {id : AlarmId} {o : Byte} {r : AlarmRecord}

theorem idOk_eq_false (h : 32 ≤ id.area.toNat ∨ 4096 ≤ id.point.toNat) : idOk id = false := by
  rw [← Bool.not_eq_true, idOk_iff]
  omega

theorem ruleAcknowledge_seated (hactive : Active s) (hid : idOk id = true) (ho : o ≠ 0) (hseat : s.signOn.active ≠ none) :
    firstFail [(s.inactive, .badState), (!idOk id || o == 0, .badValue), (!s.seated, .notSignedOn)] = none := by
  rw [firstFail_active hactive, hid, (seated_eq_true_iff s).mpr hseat, beq_eq_false_iff_ne.mpr ho]
  rfl

theorem ruleAcknowledge_absent (hactive : Active s) (hid : idOk id = true) (ho : o ≠ 0) (hseat : s.signOn.active ≠ none)
    (hnone : findRecord id s.picture.list = none) : ruleAcknowledge id o s = .refuse s .notFound := by
  refine (checked_pass _ s (ruleAcknowledge_seated hactive hid ho hseat)).trans ?_
  rw [hnone]

theorem ruleAcknowledge_found (hactive : Active s) (hid : idOk id = true) (ho : o ≠ 0) (hseat : s.signOn.active ≠ none)
    (hfind : findRecord id s.picture.list = some r) : ruleAcknowledge id o s =
      if r.handling.isUnack then
        s.sendPermitted .acknowledge id.area.toNat (.ack s.activeBadge [⟨id, o⟩]) (.covered 1)
      else .ok s (.covered 0) := by
  refine (checked_pass _ s (ruleAcknowledge_seated hactive hid ho hseat)).trans ?_
  rw [hfind]

theorem ruleUnshelve_seated (hactive : Active s) (hid : idOk id = true) (hseat : s.signOn.active ≠ none) :
    firstFail [(s.inactive, .badState), (!idOk id, .badValue), (!s.seated, .notSignedOn)] = none := by
  rw [firstFail_active hactive, hid, (seated_eq_true_iff s).mpr hseat]
  rfl

theorem ruleUnshelve_absent (hactive : Active s) (hid : idOk id = true) (hseat : s.signOn.active ≠ none)
    (hnone : findRecord id s.picture.list = none) : ruleUnshelve id s = .refuse s .notFound := by
  refine (checked_pass _ s (ruleUnshelve_seated hactive hid hseat)).trans ?_
  rw [hnone]

theorem ruleUnshelve_found (hactive : Active s) (hid : idOk id = true) (hseat : s.signOn.active ≠ none)
    (hfind : findRecord id s.picture.list = some r) : ruleUnshelve id s =
      if r.handling.isShelved then s.sendPermitted .shelve id.area.toNat (.unshelve id) (.covered 1)
      else .ok s (.covered 0) := by
  refine (checked_pass _ s (ruleUnshelve_seated hactive hid hseat)).trans ?_
  rw [hfind]

/-- What SHELVE's later checks find once the record is there. -/
theorem shelve_checks (hactive : Active s) (hid : idOk id = true) (hseat : s.signOn.active ≠ none)
    (hfind : findRecord id s.picture.list = some r) : firstFail [(s.inactive, .badState), (!idOk id, .badValue),
      (!s.seated, .notSignedOn), ((findRecord id s.picture.list).isNone, .notFound),
      (!s.permitted .shelve id.area.toNat, .notPermitted), (s.shelfFull id, .shelfFull), (!s.hasRoom, .queueFull)] =
    firstFail [(!s.permitted .shelve id.area.toNat, .notPermitted), (s.shelfFull id, .shelfFull),
      (!s.hasRoom, .queueFull)] := by
  rw [firstFail_active hactive, hid, (seated_eq_true_iff s).mpr hseat, hfind]
  rfl

end byId

theorem clampMinutes_toNat (d : Half) : (clampMinutes d).toNat = max 1 (min 480 d.toNat) := by
  unfold clampMinutes
  split
  · next h =>
    rw [h]
    decide
  · next h =>
    have hpos : d.toNat ≠ 0 := fun h' => h (BitVec.eq_of_toNat_eq h')
    split
    · rw [show (480 : Half).toNat = 480 from rfl]
      omega
    · omega

theorem shelveLimit_eq {a : Byte} {k : AreaConfig} (h : (s.area a.toNat).config = some k) :
    s.shelveLimit a = k.shelveLimit := by
  simp [State.shelveLimit, h]

theorem shelvedCount_eq (a : Byte) (id : AlarmId) (l : List AlarmRecord) : shelvedCount a id l =
    (l.filter fun y => decide (y.id.area = a ∧ y.id ≠ id) && y.handling.isShelved).length := by
  unfold shelvedCount
  refine congrArg List.length (List.filter_congr fun y _ => ?_)
  rw [Bool.and_right_comm, Bool.decide_and, beq_decide, bne, beq_decide, decide_not]

/-- Settles O35: the checks of R21 in their order, request by request; the record's handling says whether a frame is
needed. -/
theorem alarmRequestsQueueAFrame : Obligations.AlarmRequestsQueueAFrame := by
  unfold Obligations.AlarmRequestsQueueAFrame
  intro s a p o d hopen
  refine ⟨fun k hk => shelveLimit_eq hk, shelvedCount_eq a _ _,
    fun hmode => ⟨refuses_of_checks rfl rfl hopen (firstFail_inactive hmode _ _),
      refuses_of_checks rfl rfl hopen (firstFail_inactive hmode _ _),
      refuses_of_checks rfl rfl hopen (firstFail_inactive hmode _ _)⟩,
    fun hactive hv => ?wrongId, fun hactive => ?zeroOccurrence, fun hactive ha hp hseat => ?noOperator,
    fun hactive ha hp hseat hnone => ?absent, fun x r hactive ha hp ho hx hfind => ?found⟩
  case wrongId =>
    have hid : (!idOk ⟨a, p⟩) = true := by rw [idOk_eq_false hv]; rfl
    exact ⟨refuses_of_checks rfl rfl hopen ((firstFail_active hactive _ _).trans (firstFail_refuse (by rw [hid]; rfl) _ _)),
      refuses_of_checks rfl rfl hopen ((firstFail_active hactive _ _).trans (firstFail_refuse hid _ _)),
      refuses_of_checks rfl rfl hopen ((firstFail_active hactive _ _).trans (firstFail_refuse hid _ _))⟩
  case zeroOccurrence =>
    exact refuses_of_checks rfl rfl hopen ((firstFail_active hactive _ _).trans (firstFail_refuse (Bool.or_true _) _ _))
  all_goals
    have hid : idOk ⟨a, p⟩ = true := (idOk_iff _).mpr ⟨ha, hp⟩
  case noOperator =>
    have hnone : s.seated = false := (seated_eq_false_iff s).mpr hseat
    refine ⟨fun ho => refuses_of_checks rfl rfl hopen ?_, refuses_of_checks rfl rfl hopen ?_,
      refuses_of_checks rfl rfl hopen ?_⟩
    · rw [firstFail_active hactive, hid, hnone, beq_eq_false_iff_ne.mpr ho]
      rfl
    · rw [firstFail_active hactive, hid, hnone]
      rfl
    · rw [firstFail_active hactive, hid, hnone]
      rfl
  case absent =>
    refine ⟨fun ho => refuses_of_rule rfl hopen (ruleAcknowledge_absent (s := s.checkIn) hactive hid ho hseat hnone),
      refuses_of_checks rfl rfl hopen ?_,
      refuses_of_rule rfl hopen (ruleUnshelve_absent (s := s.checkIn) hactive hid hseat hnone)⟩
    rw [firstFail_active hactive, hid, (seated_eq_true_iff s).mpr hseat, hnone]
    rfl
  case found =>
    have hseat : s.signOn.active ≠ none := by simp [hx]
    have hack := ruleAcknowledge_found (s := s.checkIn) hactive hid ho hseat hfind
    have hunshelve := ruleUnshelve_found (s := s.checkIn) hactive hid hseat hfind
    have hshelve := shelve_checks hactive hid hseat hfind
    refine ⟨fun h => ?_, fun h hweak => ?_, fun h hok hfull => ?_, fun h hweak => ?_, fun h hok hfull => ?_, fun hweak => ?_,
      fun h hok hroom => ?_, fun h => ?_, fun h hok hroom => ?_, fun hok hlimit => ?_, fun hok hlimit hroom => ?_,
      fun hok hlimit hfull => ?_⟩
    · rw [h] at hack
      exact (exec_of_rule rfl hopen hack).trans rfl
    · rw [h] at hack
      exact refuses_of_rule rfl hopen (hack.trans (sendPermitted_weak (s := s.checkIn) hx hweak))
    · rw [h] at hack
      exact refuses_of_rule rfl hopen (hack.trans (sendPermitted_full (s := s.checkIn) hx hok hfull))
    · rw [h] at hunshelve
      exact refuses_of_rule rfl hopen (hunshelve.trans (sendPermitted_weak (s := s.checkIn) hx hweak))
    · rw [h] at hunshelve
      exact refuses_of_rule rfl hopen (hunshelve.trans (sendPermitted_full (s := s.checkIn) hx hok hfull))
    · refine refuses_of_checks rfl rfl hopen (hshelve.trans ?_)
      rw [permitted_eq hx, hweak]
      rfl
    · rw [h] at hack
      refine (exec_of_rule rfl hopen (hack.trans (sendPermitted_sent (s := s.checkIn) hx hok hroom))).trans ?_
      rw [activeBadge_eq (s := s.checkIn) hx]
      rfl
    · rw [h] at hunshelve
      exact (exec_of_rule rfl hopen hunshelve).trans rfl
    · rw [h] at hunshelve
      exact (exec_of_rule rfl hopen (hunshelve.trans (sendPermitted_sent (s := s.checkIn) hx hok hroom))).trans rfl
    · refine refuses_of_checks rfl rfl hopen (hshelve.trans ?_)
      rw [permitted_eq hx, hok, show s.shelfFull ⟨a, p⟩ = true from decide_eq_true hlimit]
      rfl
    · refine ⟨clampMinutes d, clampMinutes_toNat d, (exec_of_checks rfl rfl hopen (hshelve.trans ?_) rfl).trans ?_⟩
      · rw [permitted_eq hx, hok, show s.shelfFull ⟨a, p⟩ = false from decide_eq_false (Nat.not_le.mpr hlimit),
          hasRoom_eq_true hroom]
        rfl
      · rw [activeBadge_eq (s := s.checkIn) hx]
        rfl
    · refine refuses_of_checks rfl rfl hopen (hshelve.trans ?_)
      rw [permitted_eq hx, hok, show s.shelfFull ⟨a, p⟩ = false from decide_eq_false (Nat.not_le.mpr hlimit),
        hasRoom_eq_false hfull]
      rfl

/-! ### ACKNOWLEDGE AREA (R23, R24) -/

/-- The entries of up to `n` frames of eight (R24). -/
def ackChunks : Nat → List AckEntry → List (List AckEntry)
  | 0, _ => []
  | _ + 1, [] => []
  | n + 1, e :: rest => (e :: rest).take 8 :: ackChunks n ((e :: rest).drop 8)

theorem ackFrames_eq (b : Badge) : ∀ (n : Nat) (es : List AckEntry), ackFrames b n es = (ackChunks n es).map (.ack b)
  | 0, _ => rfl
  | _ + 1, [] => rfl
  | n + 1, e :: rest => congrArg (_ :: ·) (ackFrames_eq b n ((e :: rest).drop 8))

theorem flatten_ackChunks : ∀ (n : Nat) (es : List AckEntry), (ackChunks n es).flatten = es.take (8 * n)
  | 0, _ => rfl
  | _ + 1, [] => rfl
  | n + 1, e :: rest => by
    rw [ackChunks, List.flatten_cons, flatten_ackChunks n, Nat.mul_succ, Nat.add_comm, List.take_add]

theorem length_ackChunks : ∀ (n : Nat) (es : List AckEntry), (ackChunks n es).length = min n ((es.length + 7) / 8)
  | 0, _ => (Nat.zero_min _).symm
  | _ + 1, [] => rfl
  | n + 1, e :: rest => by
    rw [ackChunks, List.length_cons, length_ackChunks n, List.length_drop, List.length_cons]
    omega

theorem length_of_mem_ackChunks : ∀ (n : Nat) (es : List AckEntry), ∀ f ∈ ackChunks n es, 1 ≤ f.length ∧ f.length ≤ 8
  | 0, _ => nofun
  | _ + 1, [] => nofun
  | n + 1, e :: rest => by
    intro f hf
    obtain rfl | hf := List.mem_cons.mp hf
    · exact ⟨Nat.succ_le_succ (Nat.zero_le _), List.length_take_le 8 _⟩
    · exact length_of_mem_ackChunks n _ f hf

/-- All frames but the last are full. -/
theorem length_of_mem_dropLast_ackChunks :
    ∀ (n : Nat) (es : List AckEntry), ∀ f ∈ (ackChunks n es).dropLast, f.length = 8
  | 0, _ => nofun
  | _ + 1, [] => nofun
  | n + 1, e :: rest => by
    intro f hf
    rw [ackChunks] at hf
    cases hrest : ackChunks n ((e :: rest).drop 8) with
    | nil =>
      rw [hrest] at hf
      exact absurd hf List.not_mem_nil
    | cons g gs =>
      rw [hrest, List.dropLast_cons_cons] at hf
      obtain rfl | hf := List.mem_cons.mp hf
      · have hlong : (ackChunks n ((e :: rest).drop 8)).length ≠ 0 := by
          rw [hrest]
          exact Nat.succ_ne_zero _
        rw [length_ackChunks, List.length_drop] at hlong
        rw [List.length_take]
        omega
      · exact length_of_mem_dropLast_ackChunks n _ f (hrest ▸ hf)

theorem queueAll_eq (fs : List Frame) : ∀ s : State,
    s.queueAll fs = { s with tx := { s.tx with urgent := s.tx.urgent ++ fs.map fun f => ⟨f, none⟩ } } := by
  induction fs with
  | nil => simp [State.queueAll]
  | cons f fs ih =>
    intro s
    rw [State.queueAll, List.foldl_cons]
    refine (ih (s.queue f)).trans ?_
    simp [State.queue]

theorem omittedArea_of_lt {a : Byte} (h : a.toNat < 32) : omittedArea a = false := by
  refine beq_eq_false_iff_ne.mpr ?_
  rintro rfl
  exact absurd h (by decide)

theorem chosenArea_given {a : Byte} (h : a.toNat < 32) : s.chosenArea a = .ok a := by
  simp [State.chosenArea, omittedArea_of_lt h, areaOk, h]

theorem chosenArea_focus {c : Byte} (h : s.window.focus = some c) : s.chosenArea 0xFF = .ok c := by
  rw [State.chosenArea, if_pos (show omittedArea 0xFF = true from rfl), h]

theorem chosenArea_noFocus (h : s.window.focus = none) : s.chosenArea 0xFF = .error .noArea := by
  rw [State.chosenArea, if_pos (show omittedArea 0xFF = true from rfl), h]

theorem chosenArea_wrong {a : Byte} (h : 32 ≤ a.toNat) (hne : a ≠ 0xFF) : s.chosenArea a = .error .badValue := by
  have homitted : omittedArea a = false := beq_eq_false_iff_ne.mpr hne
  simp [State.chosenArea, homitted, areaOk, Nat.not_lt.mpr h]

theorem ruleAcknowledgeArea_wrong {a : Byte} {r : ResultCode} (hactive : Active s) (h : s.chosenArea a = .error r) :
    ruleAcknowledgeArea a s = .refuse s r := by
  refine (checked_pass _ s (firstFail_active hactive _ _)).trans ?_
  rw [h]

theorem ruleAcknowledgeArea_chosen {a c : Byte} (hactive : Active s) (h : s.chosenArea a = .ok c) :
    ruleAcknowledgeArea a s =
      checked [(!s.seated, .notSignedOn), (!s.permitted .acknowledge c.toNat, .notPermitted)]
        (fun s => s.acknowledgeAll c) s := by
  refine (checked_pass _ s (firstFail_active hactive _ _)).trans ?_
  rw [h]

/-- Settles O36: the area is chosen, then the operator checked, then the collected entries cut into frames. -/
theorem acknowledgeAreaCoversTheArea : Obligations.AcknowledgeAreaCoversTheArea := by
  unfold Obligations.AcknowledgeAreaCoversTheArea
  intro s a hopen
  refine ⟨fun hmode => refuses_of_checks rfl rfl hopen (firstFail_inactive hmode _ _),
    fun hactive ha hne => refuses_of_rule rfl hopen
      (ruleAcknowledgeArea_wrong (s := s.checkIn) hactive (chosenArea_wrong ha hne)),
    fun hactive hfocus => refuses_of_rule rfl hopen
      (ruleAcknowledgeArea_wrong (s := s.checkIn) hactive (chosenArea_noFocus hfocus)),
    fun hactive ha hseat => ?noOperator,
    fun c x hactive ha hx => ⟨fun hweak => ?weak, fun es free hes hfree hok => ?covered⟩⟩
  case noOperator =>
    obtain ⟨c, hc⟩ : ∃ c, s.checkIn.chosenArea a = .ok c := by
      obtain ha | ⟨rfl, hfocus⟩ := ha
      · exact ⟨a, chosenArea_given ha⟩
      · obtain ⟨c, hc⟩ := Option.ne_none_iff_exists'.mp hfocus
        exact ⟨c, chosenArea_focus (s := s.checkIn) hc⟩
    refine refuses_of_rule rfl hopen ((ruleAcknowledgeArea_chosen (s := s.checkIn) hactive hc).trans
      (checked_refuse _ _ (firstFail_refuse ?_ _ _)))
    rw [State.checkIn_seated, (seated_eq_false_iff s).mpr hseat]
    rfl
  all_goals
    have hseat : s.seated = true := (seated_eq_true_iff s).mpr (by simp [hx])
    have hc : s.checkIn.chosenArea a = .ok c := by
      obtain ⟨ha, rfl⟩ | ⟨rfl, hfocus⟩ := ha
      · exact chosenArea_given ha
      · exact chosenArea_focus (s := s.checkIn) hfocus
    have hrule := ruleAcknowledgeArea_chosen (s := s.checkIn) hactive hc
  case weak =>
    refine refuses_of_rule rfl hopen (hrule.trans (checked_refuse _ _ ?_))
    rw [State.checkIn_seated, State.checkIn_permitted, hseat, permitted_eq hx, hweak]
    rfl
  case covered =>
    refine ⟨ackChunks free es, flatten_ackChunks _ _, length_ackChunks _ _, length_of_mem_ackChunks _ _,
      length_of_mem_dropLast_ackChunks _ _, ?_⟩
    subst hes hfree
    refine (exec_of_rule rfl hopen (hrule.trans (checked_pass _ _ ?_))).trans ?_
    · rw [State.checkIn_seated, State.checkIn_permitted, hseat, permitted_eq hx, hok]
      rfl
    · rw [activeBadge_eq (s := s.checkIn) hx, ackFrames_eq, queueAll_eq, List.map_map]
      rfl

end Sys2Proof.Answers

/-! PROOF. The acknowledge window: scope and view, the requests that place the cursor, and ACKNOWLEDGE AT CURSOR
(chapter 3). -/

namespace Sys2Proof.Answers

open Sys2Proof.Machine Sys2Proof.Claims Sys2Proof.Keep

variable {c : Instr} {code : Byte} {s t u : State}

/-! ### Scoped list and view (R40, R50) -/

theorem admits_eq (s : State) : s.admits = admitted s := by
  funext r
  unfold State.admits admitted
  cases s.window.scope with
  | focus => exact congrArg (!r.handling.isShelved && ·) (beq_decide _ _)
  | held => rfl
  | all => rfl
  | shelved => rfl

theorem scoped_eq (s : State) : s.scoped = s.picture.list.filter (admitted s) := by
  rw [State.scoped, admits_eq]

theorem inView_iff (s : State) (id : AlarmId) :
    s.inView id = true ↔ ∃ i r, i < 8 ∧ s.scoped[s.window.top + i]? = some r ∧ r.id = id := by
  simp only [State.inView, State.rows, List.any_map, List.any_eq_true, List.mem_range, Function.comp_apply,
    Option.any_eq_true, beq_iff_eq]
  exact exists_congr fun i => ⟨fun ⟨hi, r, hr, hid⟩ => ⟨r, hi, hr, hid⟩, fun ⟨r, hi, hr, hid⟩ => ⟨hi, r, hr, hid⟩⟩

theorem handling_code_eq_iff (x y : Handling) : x.code = y.code ↔ x.isUnack = y.isUnack ∧ x.isAck = y.isAck := by
  cases x <;> cases y <;> simp [Handling.code, Handling.isUnack, Handling.isAck]

/-- What the window-changed test compares of a row, by the record's parts. -/
theorem map_key_eq_iff (x y : Option AlarmRecord) : x.map AlarmRecord.key = y.map AlarmRecord.key ↔
    x.map (fun r => (r.id, r.cleared, r.handling.isUnack, r.handling.isAck)) =
      y.map fun r => (r.id, r.cleared, r.handling.isUnack, r.handling.isAck) := by
  cases x with
  | none => cases y <;> simp
  | some r =>
    cases y with
    | none => simp
    | some q =>
      simp only [Option.map_some, Option.some.injEq, AlarmRecord.key, RowKey.mk.injEq, Prod.mk.injEq, handling_code_eq_iff]
      exact and_congr_right fun _ => and_comm

theorem view_eq_iff (s u : State) : u.view = s.view ↔ ∀ i, i < 8 →
    (u.scoped[u.window.top + i]?).map (fun r => (r.id, r.cleared, r.handling.isUnack, r.handling.isAck)) =
      (s.scoped[s.window.top + i]?).map fun r => (r.id, r.cleared, r.handling.isUnack, r.handling.isAck) := by
  simp only [State.view, State.rows, List.map_map, List.map_inj_left, List.mem_range, Function.comp_apply, map_key_eq_iff]

/-! ### A placement (R42, R50) -/

/-- A state placed in a window: the indicator set where the view differs, and a snapshot. -/
def placed (w : Window) (s : State) : State := { s with window := { w with
  changed := w.changed || State.view { s with window := w } != s.view
  snapshot := State.snapshotHere { s with window := w } } }

theorem place_eq {f : State → State} {w : Window} (hf : f s = { s with window := w }) : s.place f = placed w s := by
  rw [State.place, hf]
  rfl

theorem scrolledTop_eq {top length n : Nat} {o : Int}
    (h : (n : Int) = max 0 (min ((top : Int) + o) ((length - 8 : Nat) : Int))) : scrolledTop top length o = n := by
  unfold scrolledTop
  omega

theorem focusOf_eq {a : Byte} {f : Option Byte} (h : (a.toNat < 32 ∧ f = some a) ∨ (a = 0xFF ∧ f = none)) :
    focusOf a = f ∧ (!omittedArea a && !areaOk a) = false := by
  obtain ⟨ha, rfl⟩ | ⟨rfl, rfl⟩ := h
  · simp [focusOf, omittedArea_of_lt ha, areaOk, ha]
  · exact ⟨rfl, rfl⟩

theorem byte_le_one {d : Byte} (h : d.toNat ≤ 1) : d = 0 ∨ d = 1 := by
  obtain h | h : d.toNat = 0 ∨ d.toNat = 1 := by omega
  · exact .inl (BitVec.eq_of_toNat_eq h)
  · exact .inr (BitVec.eq_of_toNat_eq h)

theorem directionOf_eq {d : Byte} (h : d.toNat ≤ 1) : directionOf d = some (if d = 0 then .down else .up) := by
  obtain rfl | rfl := byte_le_one h <;> rfl

theorem followOf_eq {f : Byte} (h : f.toNat ≤ 1) : followOf f = some (f == 1) := by
  obtain rfl | rfl := byte_le_one h <;> rfl

theorem directionOf_eq_none {d : Byte} (h : 1 < d.toNat) : directionOf d = none := by
  unfold directionOf
  split
  · omega
  · omega
  · rfl

theorem followOf_eq_none {f : Byte} (h : 1 < f.toNat) : followOf f = none := by
  unfold followOf
  split
  · omega
  · omega
  · rfl

theorem scopeOf_eq_none {x : Byte} (h : 3 < x.toNat) : scopeOf x = none := by
  unfold scopeOf
  split
  · omega
  · omega
  · omega
  · omega
  · rfl

theorem scopeOf_eq {v : Byte} {c : Scope}
    (h : (v = 0 ∧ c = .focus) ∨ (v = 1 ∧ c = .held) ∨ (v = 2 ∧ c = .all) ∨ (v = 3 ∧ c = .shelved)) :
    scopeOf v = some c := by
  obtain ⟨rfl, rfl⟩ | ⟨rfl, rfl⟩ | ⟨rfl, rfl⟩ | ⟨rfl, rfl⟩ := h <;> rfl

/-- A request answered with what the window shows after a placement. -/
def showing (s : State) : Reply := .ok s (.viewed s.scoped.length s.window.top s.window.snapshot)

theorem ruleSetScope_eq {v : Byte} {x : Scope} (hactive : Active s) (h : scopeOf v = some x) :
    ruleSetScope v s = showing (s.place fun u => State.clampTop { u with window := { u.window with scope := x } }) := by
  refine (checked_pass _ s (firstFail_active hactive _ _)).trans ?_
  rw [h]
  rfl

theorem ruleSetFocus_eq {a : Byte} {f : Option Byte} (hactive : Active s)
    (h : (a.toNat < 32 ∧ f = some a) ∨ (a = 0xFF ∧ f = none)) : ruleSetFocus a s =
      if s.window.scope == .focus then
        showing (s.place fun u => State.clampTop { u with window := { u.window with focus := f } })
      else .ok { s with window := { s.window with focus := f } } (.snapshot s.window.snapshot) := by
  obtain ⟨rfl, hvalue⟩ := focusOf_eq h
  exact checked_pass _ s ((firstFail_active hactive _ _).trans (firstFail_skip hvalue _ _))

theorem ruleSetEntryMode_eq {d f : Byte} (hactive : Active s) (hd : d.toNat ≤ 1) (hf : f.toNat ≤ 1) :
    ruleSetEntryMode d f s = .ok { s with window := { s.window with
      direction := if d = 0 then .down else .up, follow := f == 1 } } := by
  refine (checked_pass _ s (firstFail_active hactive _ _)).trans ?_
  rw [directionOf_eq hd, followOf_eq hf]
  rfl

/-- Settles O38: the definitions of scoped list and view, then each request's checks and its placement. -/
theorem windowRequestsPlaceTheCursor : Obligations.WindowRequestsPlaceTheCursor := by
  unfold Obligations.WindowRequestsPlaceTheCursor
  refine ⟨fun s => ⟨scoped_eq s, inView_iff s, fun u => view_eq_iff s u⟩, fun s hopen => ⟨fun hmode => ?inactive,
    fun hactive => ⟨fun r hr => ?wrongRow, fun o ho => ?wrongOffset, fun x hx => ?wrongScope, fun a ha hne => ?wrongFocus,
      fun d f hv => ?wrongMode, fun r x hr hx => ?row, fun o top x hlow hhigh htop hx => ?scroll,
      fun v c l top x hv hl htop hx => ?scope, fun a f hf hscope => ?focus, fun a f l top x hf hscope hl htop hx => ?focused,
      fun d f hd hf => ?mode⟩⟩⟩
  case inactive =>
    exact ⟨fun _ => refuses_of_checks rfl rfl hopen (firstFail_inactive hmode _ _),
      fun _ => refuses_of_checks rfl rfl hopen (firstFail_inactive hmode _ _),
      fun _ => refuses_of_checks rfl rfl hopen (firstFail_inactive hmode _ _),
      fun _ => refuses_of_checks rfl rfl hopen (firstFail_inactive hmode _ _),
      fun _ _ => refuses_of_checks rfl rfl hopen (firstFail_inactive hmode _ _)⟩
  case wrongRow =>
    exact refuses_of_checks rfl rfl hopen ((firstFail_active hactive _ _).trans (firstFail_refuse (decide_eq_true hr) _ _))
  case wrongOffset =>
    exact refuses_of_checks rfl rfl hopen ((firstFail_active hactive _ _).trans (firstFail_refuse (by simpa using ho) _ _))
  case wrongScope =>
    refine refuses_of_rule rfl hopen ((checked_pass _ _ (firstFail_active (s := s.checkIn) hactive _ _)).trans ?_)
    rw [scopeOf_eq_none hx]
  case wrongFocus =>
    have homitted : omittedArea a = false := beq_eq_false_iff_ne.mpr hne
    have hv : (!omittedArea a && !areaOk a) = true := by
      rw [homitted, areaOk, decide_eq_false (Nat.not_lt.mpr ha)]
      rfl
    exact refuses_of_checks rfl rfl hopen ((firstFail_active hactive _ _).trans (firstFail_refuse hv _ _))
  case wrongMode =>
    refine refuses_of_rule rfl hopen ((checked_pass _ _ (firstFail_active (s := s.checkIn) hactive _ _)).trans ?_)
    obtain hd | hf := hv
    · rw [directionOf_eq_none hd]
    · rw [followOf_eq_none hf]
      cases directionOf d <;> rfl
  case row =>
    subst hx
    refine (exec_of_checks rfl rfl hopen ?_ rfl).trans rfl
    rw [firstFail_active hactive, firstFail_skip (decide_eq_false (Nat.not_lt.mpr hr)), firstFail_nil]
  case scroll =>
    have htop' : scrolledTop s.window.top s.scoped.length o.toInt = top := scrolledTop_eq htop
    subst hx htop'
    refine (exec_of_checks rfl rfl hopen ?_ rfl).trans rfl
    rw [firstFail_active hactive, firstFail_skip, firstFail_nil]
    simp [hlow, hhigh]
  case scope =>
    subst hx htop hl
    exact (exec_of_rule rfl hopen (ruleSetScope_eq (s := s.checkIn) hactive (scopeOf_eq hv))).trans rfl
  case focus =>
    have hrule := ruleSetFocus_eq (s := s.checkIn) hactive hf
    rw [if_neg (by simpa using hscope)] at hrule
    exact (exec_of_rule rfl hopen hrule).trans rfl
  case focused =>
    have hrule := ruleSetFocus_eq (s := s.checkIn) hactive hf
    rw [if_pos (by simpa using hscope)] at hrule
    subst hx htop hl
    exact (exec_of_rule rfl hopen hrule).trans rfl
  case mode => exact (exec_of_rule rfl hopen (ruleSetEntryMode_eq (s := s.checkIn) hactive hd hf)).trans rfl

/-! ### ACKNOWLEDGE AT CURSOR (R48, R49) -/

/-- The four ways in which the cursor moves on: within the view, down or up, and at its edge. -/
theorem advanced_eq {n top row : Nat} {w : Window}
    (h : (w.direction = .down ∧ w.row < 7 ∧ row = w.row + 1 ∧ top = w.top) ∨
      (w.direction = .up ∧ w.row = row + 1 ∧ top = w.top) ∨
      (w.direction = .down ∧ 7 ≤ w.row ∧ row = w.row ∧
        top = if w.follow = true ∧ w.top + 1 ≤ n - 8 then w.top + 1 else w.top) ∨
      (w.direction = .up ∧ w.row = 0 ∧ row = 0 ∧ top = if w.follow = true then w.top - 1 else w.top)) :
    w.advanced n = { w with top := top, row := row } := by
  obtain ⟨scope, focus, t, r, d, f, snapshot, changed⟩ := w
  dsimp only at h
  unfold Window.advanced
  obtain ⟨rfl, hrow, rfl, rfl⟩ | ⟨rfl, rfl, rfl⟩ | ⟨rfl, hrow, rfl, rfl⟩ | ⟨rfl, rfl, rfl, rfl⟩ := h
  · simp [hrow]
  · simp
  · simp only [Nat.not_lt.mpr hrow, if_false, Bool.and_eq_true, decide_eq_true_eq]
    split <;> rfl
  · cases f with
    | false => rfl
    | true => cases t <;> rfl

theorem advance_eq {top row : Nat} (h : s.window.advanced s.scoped.length = { s.window with top := top, row := row }) :
    s.advance = { s with window := { s.window with
      top := top, row := row
      snapshot := (s.scoped[top + row]?).map (fun z => Snapshot.mk z.id z.occurrence)
      changed := s.window.changed || (atTop top s).view != s.view } } := by
  unfold State.advance
  rw [place_eq (w := { s.window with top := top, row := row }) (congrArg (fun w => { s with window := w }) h)]
  rfl

theorem ruleAcknowledgeAtCursor_eq {x : Snapshot} (hactive : Active s) (hseat : s.signOn.active ≠ none)
    (hx : s.window.snapshot = some x) : ruleAcknowledgeAtCursor s = s.acknowledgeSnapshot x := by
  refine (checked_pass _ s ?_).trans (by rw [hx])
  rw [firstFail_active hactive, (seated_eq_true_iff s).mpr hseat]
  rfl

theorem acknowledgeSnapshot_gone {x : Snapshot} (h : findRecord x.id s.picture.list = none) :
    s.acknowledgeSnapshot x = .retake s .gone := by
  rw [State.acknowledgeSnapshot, h]

theorem acknowledgeSnapshot_changed {x : Snapshot} {r : AlarmRecord} (h : findRecord x.id s.picture.list = some r)
    (hne : r.occurrence ≠ x.occurrence) : s.acknowledgeSnapshot x = .retake s .changed := by
  rw [State.acknowledgeSnapshot, h]
  exact if_pos (bne_iff_ne.mpr hne)

theorem acknowledgeSnapshot_found {x : Snapshot} {r : AlarmRecord} (h : findRecord x.id s.picture.list = some r)
    (heq : r.occurrence = x.occurrence) : s.acknowledgeSnapshot x =
      if !r.handling.isUnack then .ok s.advance (.covered 0)
      else checked [(!s.permitted .acknowledge x.id.area.toNat, .notPermitted), (!s.hasRoom, .queueFull)]
        (fun s => .ok ((s.queue (.ack s.activeBadge [⟨x.id, x.occurrence⟩])).advance) (.covered 1)) s := by
  rw [State.acknowledgeSnapshot, h]
  exact if_neg (by simp [heq])

/-- Settles O39: the snapshot is compared with the list, and the cursor advances where the request is carried out. -/
theorem acknowledgeAtCursorActsOnTheSnapshot : Obligations.AcknowledgeAtCursorActsOnTheSnapshot := by
  unfold Obligations.AcknowledgeAtCursorActsOnTheSnapshot
  intro s hopen
  refine ⟨rfl, fun x => ?bytes, rfl, fun hmode => refuses_of_checks rfl rfl hopen (firstFail_inactive hmode _ _),
    fun hactive hseat => ?noOperator, fun hactive hseat hempty => ?empty,
    fun x op hactive hop hx => ⟨fun hnone => ?gone, fun r hr hne => ?changed, fun r hr heq hun hweak => ?weak,
      fun r hr heq hun hok hfull => ?full, fun r top row y hr heq hgo hmove hy => ?done⟩⟩
  case bytes =>
    rw [snapshotBytes, idBytes, bytes2_eq_octets]
  case noOperator =>
    refine refuses_of_checks rfl rfl hopen ?_
    rw [firstFail_active hactive, (seated_eq_false_iff s).mpr hseat]
    rfl
  case empty =>
    refine refuses_of_rule rfl hopen ((checked_pass _ _ ?_).trans (by rw [State.checkIn_window, hempty]))
    rw [State.checkIn_inactive, State.checkIn_seated, firstFail_active hactive, (seated_eq_true_iff s).mpr hseat]
    rfl
  all_goals
    have hseat : s.signOn.active ≠ none := by simp [hop]
    have hrule := ruleAcknowledgeAtCursor_eq (s := s.checkIn) hactive hseat hx
  case gone => exact (exec_of_rule rfl hopen (hrule.trans (acknowledgeSnapshot_gone (s := s.checkIn) hnone))).trans rfl
  case changed =>
    exact (exec_of_rule rfl hopen (hrule.trans (acknowledgeSnapshot_changed (s := s.checkIn) hr hne))).trans rfl
  all_goals
    rw [acknowledgeSnapshot_found (s := s.checkIn) hr heq] at hrule
  case weak =>
    rw [if_neg (by simp [hun])] at hrule
    refine refuses_of_rule rfl hopen (hrule.trans (checked_refuse _ _ (firstFail_refuse ?_ _ _)))
    rw [State.checkIn_permitted, permitted_eq hop, hweak]
    rfl
  case full =>
    rw [if_neg (by simp [hun])] at hrule
    refine refuses_of_rule rfl hopen (hrule.trans (checked_refuse _ _ ?_))
    rw [State.checkIn_permitted, State.checkIn_hasRoom, permitted_eq hop, hok, hasRoom_eq_false hfull]
    rfl
  case done =>
    subst hy
    have hadvanced := advanced_eq hmove
    cases hun : r.handling.isUnack with
    | false =>
      rw [if_pos (by simp [hun]), advance_eq (s := s.checkIn) hadvanced] at hrule
      refine (exec_of_rule rfl hopen hrule).trans ?_
      simp only [Bool.false_eq_true, if_false, List.append_nil]
      rfl
    | true =>
      obtain hgo | ⟨hok, hroom⟩ := hgo
      · simp [hun] at hgo
      rw [if_neg (by simp [hun])] at hrule
      refine (exec_of_rule rfl hopen (hrule.trans (checked_pass _ _ ?_))).trans ?_
      · rw [State.checkIn_permitted, State.checkIn_hasRoom, permitted_eq hop, hok, hasRoom_eq_true hroom]
        rfl
      · rw [activeBadge_eq (s := s.checkIn) hop, advance_eq (s := State.queue _ s.checkIn) hadvanced]
        rfl

end Sys2Proof.Answers

/-! PROOF. CLAIM AREA and TAKE AREA (R91, R92). -/

namespace Sys2Proof.Answers

open Sys2Proof.Machine Sys2Proof.Claims Sys2Proof.Keep

variable {c : Instr} {code : Byte} {s t u : State}

theorem inFlight_eq_none_iff (s : State) (a : Nat) : s.inFlight a = none ↔
    ∀ x ∈ s.tx.urgent, ∀ b n, claimOfFrame x.frame = some (b, n) → b ≠ a := by
  simp only [State.inFlight, List.findSome?_eq_none_iff]
  refine forall₂_congr fun x _ => ?_
  cases claimOfFrame x.frame with
  | none => simp
  | some p => exact ⟨fun h b n hb => by rw [Option.some.injEq] at hb; subst hb; simpa using h,
      fun h => by simpa using h p.1 p.2 rfl⟩

theorem inFlight_iff (s : State) (a : Byte) : s.inFlight a.toNat = none ↔ ∀ x ∈ s.tx.urgent,
    (∀ r n b, x.frame ≠ .claim r a n b) ∧ ∀ n b, x.frame ≠ .take a n b := by
  rw [inFlight_eq_none_iff]
  refine forall₂_congr fun x _ => ?_
  cases hf : x.frame with
  | claim r b n g =>
    simp only [claimOfFrame, Option.some.injEq, Prod.mk.injEq, Frame.claim.injEq, reduceCtorEq, ne_eq]
    exact ⟨fun h => ⟨fun _ _ _ ⟨_, hb, _⟩ => h _ _ ⟨rfl, rfl⟩ (hb ▸ rfl), fun _ _ => id⟩,
      fun ⟨h, _⟩ _ _ ⟨hb, _⟩ ha => h r n g ⟨rfl, BitVec.eq_of_toNat_eq (hb.trans ha), rfl, rfl⟩⟩
  | take b n g =>
    simp only [claimOfFrame, Option.some.injEq, Prod.mk.injEq, Frame.take.injEq, reduceCtorEq, ne_eq]
    exact ⟨fun h => ⟨fun _ _ _ => id, fun _ _ ⟨hb, _⟩ => h _ _ ⟨rfl, rfl⟩ (hb ▸ rfl)⟩,
      fun ⟨_, h⟩ _ _ ⟨hb, _⟩ ha => h n g ⟨BitVec.eq_of_toNat_eq (hb.trans ha), rfl, rfl⟩⟩
  | _ => simp [claimOfFrame]

theorem nextSerial_eq (s : State) (a : Nat) : s.nextSerial a =
    if (s.area a).serial = 0xFFFF then 0xFFFF else (s.area a).serial + 1 := by
  unfold State.nextSerial Half.succSat
  split
  · next h => exact h.trans (if_pos h).symm
  · next h => exact (if_neg h).symm

theorem configured_iff (s : State) (a : Nat) : s.configured a = true ↔ (s.area a).config ≠ none := by
  simp [State.configured, Option.isSome_iff_ne_none]

theorem areaChecks_passed {a : Byte} (hactive : Active s) (ha : a.toNat < 32) (hconfig : (s.area a.toNat).config ≠ none)
    (hseat : s.signOn.active ≠ none) : firstFail (s.areaChecks a) = none := by
  rw [State.areaChecks, firstFail_active hactive, areaOk, decide_eq_true ha, (configured_iff s _).mpr hconfig,
    (seated_eq_true_iff s).mpr hseat]
  rfl

section steps

variable {act : Action} {wrong : Bool} {a : Nat} {f : Frame}

theorem claimOrAnswer_held (h : s.holds a = true) :
    s.claimOrAnswer act wrong a f = .ok s (.serial (s.area a).serial) := if_pos h

theorem claimOrAnswer_checked (h : s.holds a = false) : s.claimOrAnswer act wrong a f =
    checked (s.claimChecks act wrong a) (fun s => .ok (s.queue f) (.serial (s.nextSerial a))) s :=
  if_neg (by simp [h])

end steps

/-- Steps 7 to 10: what a claim of an area in the hold status that the request serves comes to (R91, R92). -/
theorem claim_outcomes {rule : State → Reply} {act : Action} {wrong : Bool} {a : Nat} {f : Frame} {x : Operator}
    (hexec : exec c s = .next (request code rule s)) (hopen : Open s)
    (hrule : rule s.checkIn = s.checkIn.claimOrAnswer act wrong a f) (hholds : s.holds a = false)
    (hheld : (s.area a).hold.isHeld = false) (hwrong : wrong = false) (hx : s.signOn.active = some x) :
    (s.inFlight a ≠ none → Refuses c code .busy s) ∧
    (s.inFlight a = none →
      (x.qualified.getLsbD a = false → Refuses c code .notQualified s) ∧
      (x.qualified.getLsbD a = true → s.permits x act a = false → Refuses c code .notPermitted s) ∧
      (x.qualified.getLsbD a = true → s.permits x act a = true → 8 ≤ s.tx.urgent.length →
        Refuses c code .queueFull s) ∧
      (s.tx.urgent.length < 8 → x.qualified.getLsbD a = true → s.permits x act a = true →
        exec c s = .next { told s code .ok (.serial (s.nextSerial a)) with tx := queued s f })) := by
  rw [claimOrAnswer_checked (s := s.checkIn) hholds] at hrule
  have hqualified : s.qualified a = x.qualified.getLsbD a := by simp [State.qualified, hx, Operator.qualifiedFor]
  have hchecks : firstFail (s.checkIn.claimChecks act wrong a) = firstFail [((s.inFlight a).isSome, .busy),
      (!x.qualified.getLsbD a, .notQualified), (!s.permits x act a, .notPermitted), (!s.hasRoom, .queueFull)] := by
    rw [← hqualified, ← permitted_eq hx, State.claimChecks, State.checkIn_area, hheld, hwrong]
    rfl
  have hrefuse : ∀ r, firstFail (s.checkIn.claimChecks act wrong a) = some r → Refuses c code r s := fun r h =>
    refuses_of_rule hexec hopen (hrule.trans (checked_refuse _ _ h))
  refine ⟨fun hflight => hrefuse _ (hchecks.trans ?_), fun hnone => ⟨fun hq => hrefuse _ (hchecks.trans ?_),
    fun hq hweak => hrefuse _ (hchecks.trans ?_), fun hq hok hfull => hrefuse _ (hchecks.trans ?_),
    fun hroom hq hok => (exec_of_rule hexec hopen (hrule.trans (checked_pass _ _ (hchecks.trans ?_)))).trans rfl⟩⟩
  · rw [Option.isSome_iff_ne_none.mpr hflight]
    rfl
  all_goals rw [hnone, hq]
  · rfl
  · rw [hweak]
    rfl
  · rw [hok, hasRoom_eq_false hfull]
    rfl
  · rw [hok, hasRoom_eq_true hroom]
    rfl

theorem claimArea_rule {a : Byte} (hactive : Active s) (ha : a.toNat < 32) (hconfig : (s.area a.toNat).config ≠ none)
    (hseat : s.signOn.active ≠ none) : ruleClaimArea a s = s.claimOrAnswer .hold (s.area a.toNat).hold.isOrphaned a.toNat
      (.claim 0x01 a (s.nextSerial a.toNat) s.activeBadge) :=
  checked_pass _ s (areaChecks_passed hactive ha hconfig hseat)

theorem takeArea_rule {a : Byte} (hactive : Active s) (ha : a.toNat < 32) (hconfig : (s.area a.toNat).config ≠ none)
    (hseat : s.signOn.active ≠ none) : ruleTakeArea a s = s.claimOrAnswer .take ((s.area a.toNat).hold == .unheld) a.toNat
      (.take a (s.nextSerial a.toNat) s.activeBadge) :=
  checked_pass _ s (areaChecks_passed hactive ha hconfig hseat)

theorem holds_of_held {a : Nat} {n : Station} {b : Badge} (h : (s.area a).hold = .held n b) : s.holds a = s.isOwn n := by
  rw [State.holds, h]

theorem holds_of_unheld {a : Nat} (h : (s.area a).hold = .unheld) : s.holds a = false := by
  rw [State.holds, h]

theorem holds_of_orphaned {a : Nat} {n : Station} {b : Badge} {f : Sec} {g : Grace}
    (h : (s.area a).hold = .orphaned n b f g) : s.holds a = false := by
  rw [State.holds, h]

/-- Settles O40: the shared checks, then the area's hold status, then the outcomes of the claim itself. -/
theorem claimAndTakeQueueAClaim : Obligations.ClaimAndTakeQueueAClaim := by
  unfold Obligations.ClaimAndTakeQueueAClaim
  intro s a hopen
  refine ⟨inFlight_iff s a,
    fun hmode => ⟨refuses_of_checks rfl rfl hopen (firstFail_inactive hmode _ _),
      refuses_of_checks rfl rfl hopen (firstFail_inactive hmode _ _)⟩,
    fun hactive hv => ?wrongArea, fun hactive ha hconfig hseat => ?noOperator,
    fun x k hactive ha hk hx => ?seated⟩
  case wrongArea =>
    have hvalue : (!areaOk a || !s.configured a.toNat) = true := by
      obtain ha | hnone := hv
      · rw [areaOk, decide_eq_false (Nat.not_lt.mpr ha)]
        rfl
      · rw [State.configured, hnone]
        exact Bool.or_true _
    exact ⟨refuses_of_checks rfl rfl hopen ((firstFail_active hactive _ _).trans (firstFail_refuse hvalue _ _)),
      refuses_of_checks rfl rfl hopen ((firstFail_active hactive _ _).trans (firstFail_refuse hvalue _ _))⟩
  case noOperator =>
    have hchecks : firstFail (s.areaChecks a) = some .notSignedOn := by
      rw [State.areaChecks, firstFail_active hactive, areaOk, decide_eq_true ha, (configured_iff s _).mpr hconfig,
        (seated_eq_false_iff s).mpr hseat]
      rfl
    exact ⟨refuses_of_checks rfl rfl hopen hchecks, refuses_of_checks rfl rfl hopen hchecks⟩
  case seated =>
    have hconfig : (s.area a.toNat).config ≠ none := by simp [hk]
    have hseat : s.signOn.active ≠ none := by simp [hx]
    have hclaim := claimArea_rule (s := s.checkIn) hactive ha hconfig hseat
    have htake := takeArea_rule (s := s.checkIn) hactive ha hconfig hseat
    refine ⟨fun n b hhold hown => ?heldHere, fun n b hhold hother => ?heldElsewhere, fun hhold => ?takeUnheld,
      fun n b f g hhold => ?claimOrphaned, fun m hm => ?outcomes⟩
    case heldHere =>
      have hholds : s.holds a.toNat = true := (holds_of_held hhold).trans ((isOwn_iff s n).mpr hown)
      exact ⟨(exec_of_rule rfl hopen (hclaim.trans (claimOrAnswer_held (s := s.checkIn) hholds))).trans rfl,
        (exec_of_rule rfl hopen (htake.trans (claimOrAnswer_held (s := s.checkIn) hholds))).trans rfl⟩
    case heldElsewhere =>
      have hholds : s.holds a.toNat = false := (holds_of_held hhold).trans ((isOwn_eq_false_iff s n).mpr hother)
      have hheld : (s.area a.toNat).hold.isHeld = true := by rw [hhold]; rfl
      exact ⟨refuses_of_rule rfl hopen (hclaim.trans ((claimOrAnswer_checked (s := s.checkIn) hholds).trans
          (checked_refuse _ _ (firstFail_refuse hheld _ _)))),
        refuses_of_rule rfl hopen (htake.trans ((claimOrAnswer_checked (s := s.checkIn) hholds).trans
          (checked_refuse _ _ (firstFail_refuse hheld _ _))))⟩
    case takeUnheld =>
      refine refuses_of_rule rfl hopen (htake.trans ((claimOrAnswer_checked (s := s.checkIn) (holds_of_unheld hhold)).trans
        (checked_refuse _ _ ?_)))
      rw [State.claimChecks, State.checkIn_area, hhold]
      rfl
    case claimOrphaned =>
      refine refuses_of_rule rfl hopen (hclaim.trans ((claimOrAnswer_checked (s := s.checkIn)
        (holds_of_orphaned hhold)).trans (checked_refuse _ _ ?_)))
      rw [State.claimChecks, State.checkIn_area, hhold]
      rfl
    case outcomes =>
      have hclaims : (s.area a.toNat).hold = .unheld → _ := fun hhold => claim_outcomes (c := .claimArea a) rfl hopen hclaim
        (holds_of_unheld hhold) (by rw [hhold]; rfl) (by rw [State.checkIn_area, hhold]; rfl) hx
      have htakes : (∃ n b f g, (s.area a.toNat).hold = .orphaned n b f g) → _ := fun ⟨n, b, f, g, hhold⟩ =>
        claim_outcomes (c := .takeArea a) rfl hopen htake
          (holds_of_orphaned hhold) (by rw [hhold]; rfl) (by rw [State.checkIn_area, hhold]; rfl) hx
      rw [← nextSerial_eq] at hm
      subst hm
      refine ⟨fun hhold hflight => (hclaims hhold).1 hflight,
        fun n b f g hhold hflight => (htakes ⟨n, b, f, g, hhold⟩).1 hflight, fun c code act hnone hc => ?refused,
        fun hnone hroom hq => ⟨fun hhold hok => ?claimed, fun n b f g hhold hok => ?taken⟩⟩
      case refused =>
        obtain ⟨rfl, rfl, rfl, hhold⟩ | ⟨rfl, rfl, rfl, hhold⟩ := hc
        · obtain ⟨-, h⟩ := hclaims hhold
          obtain ⟨hq, hweak, hfull, -⟩ := h hnone
          exact ⟨hq, hweak, hfull⟩
        · obtain ⟨-, h⟩ := htakes hhold
          obtain ⟨hq, hweak, hfull, -⟩ := h hnone
          exact ⟨hq, hweak, hfull⟩
      case claimed =>
        obtain ⟨-, h⟩ := hclaims hhold
        obtain ⟨-, -, -, hqueued⟩ := h hnone
        rw [hqueued hroom hq hok, activeBadge_eq (s := s.checkIn) hx]
        rfl
      case taken =>
        obtain ⟨-, h⟩ := htakes ⟨n, b, f, g, hhold⟩
        obtain ⟨-, -, -, hqueued⟩ := h hnone
        rw [hqueued hroom hq hok, activeBadge_eq (s := s.checkIn) hx]
        rfl

end Sys2Proof.Answers

/-! PROOF. The requests on offers: OFFER HANDOVER, DECLINE HANDOVER, WITHDRAW OFFER, SCHEDULE OFFER and CANCEL SCHEDULE
(chapter 8). -/

namespace Sys2Proof.Answers

open Sys2Proof.Machine Sys2Proof.Claims Sys2Proof.Keep

variable {c : Instr} {code : Byte} {s t u : State}

/-! ### Sets of areas -/

theorem lt_of_getLsbD {m : AreaSet} {a : Nat} (h : m.getLsbD a = true) : a < 32 := BitVec.lt_of_getLsbD h

theorem mem_areaList_iff (m : AreaSet) (a : Nat) : a ∈ areaList m ↔ m.getLsbD a = true := by
  rw [areaList, List.mem_filter, List.mem_range]
  exact and_iff_right_of_imp lt_of_getLsbD

theorem any_areaList_iff (m : AreaSet) (p : Nat → Bool) :
    (areaList m).any p = true ↔ ∃ a, m.getLsbD a = true ∧ p a = true := by
  simp only [List.any_eq_true, mem_areaList_iff]

theorem any_areaList_eq_false (m : AreaSet) (p : Nat → Bool) :
    (areaList m).any p = false ↔ ∀ a, m.getLsbD a = true → p a = false := by
  simp only [List.any_eq_false, mem_areaList_iff, Bool.not_eq_true]

/-! ### OFFER HANDOVER -/

theorem isUnack_eq (h : Handling) : h.isUnack = (h == .unack) := by
  cases h <;> rfl

theorem ruleOffer_refused {n : Station} {m : AreaSet} {r : ResultCode} (h : s.offerRefusal n m = some r) :
    ruleOffer n m s = .refuse s r := by
  rw [ruleOffer, h]

theorem ruleOffer_made {n : Station} {m : AreaSet} (h : s.offerRefusal n m = none) :
    ruleOffer n m s = .ok (s.makeOffer n m) (.handoverNumber s.nextOffer) := by
  rw [ruleOffer, h]

/-- The shared checks of R115 that a target in range passes up to the operator's. -/
theorem offerRefusal_eq {n : Station} {m : AreaSet} (hactive : Active s) (h1 : 1 ≤ n.toNat) (h16 : n.toNat ≤ 16)
    (hm : s.node.number = some n ∨ m ≠ 0) : s.offerRefusal n m =
      firstFail ((!s.seated, .notSignedOn) :: (!s.outIdle || (s.isOwn n && !s.inIdle), .handoverBusy) ::
        if s.isOwn n then s.seatChecks s.inFlood else s.remoteChecks s.inFlood n m) := by
  have hok : stationOk n = true := (stationOk_iff n).mpr ⟨h1, h16⟩
  have hvalue : (!stationOk n || (!s.isOwn n && m == 0)) = false := by
    rw [hok]
    obtain hown | hne := hm
    · rw [(isOwn_iff s n).mpr hown]
      rfl
    · rw [beq_eq_false_iff_ne.mpr hne]
      exact Bool.and_false _
  unfold State.offerRefusal State.offerRefusalIn State.offerChecks
  rw [hvalue, isActive_iff.mpr hactive]
  rfl

theorem offerRefusal_remote {n : Station} {m : AreaSet} (hactive : Active s) (h1 : 1 ≤ n.toNat) (h16 : n.toNat ≤ 16)
    (hother : s.node.number ≠ some n) (hm : m ≠ 0) (hseat : s.signOn.active ≠ none) (hout : s.handover.outgoing = .idle) :
    s.offerRefusal n m = firstFail (s.remoteChecks s.inFlood n m) := by
  rw [offerRefusal_eq hactive h1 h16 (.inr hm), (seated_eq_true_iff s).mpr hseat, outIdle_eq_true hout,
    (isOwn_eq_false_iff s n).mpr hother]
  rfl

theorem offerRefusal_seat {n : Station} {m : AreaSet} (hactive : Active s) (h1 : 1 ≤ n.toNat) (h16 : n.toNat ≤ 16)
    (hn : s.node.number = some n) (hseat : s.signOn.active ≠ none) (hout : s.handover.outgoing = .idle)
    (hin : s.handover.incoming = .idle) : s.offerRefusal s.own m = firstFail (s.seatChecks s.inFlood) := by
  rw [own_of_number hn, offerRefusal_eq hactive h1 h16 (.inl hn), (seated_eq_true_iff s).mpr hseat, outIdle_eq_true hout,
    inIdle_eq_true hin, (isOwn_iff s n).mpr hn]
  rfl

theorem any_notHeld_eq_false {m : AreaSet} (h : ∀ a, m.getLsbD a = true → s.holds a = true) :
    ((areaList m).any fun a => !s.holds a) = false :=
  (any_areaList_eq_false _ _).mpr fun a ha => by rw [h a ha]; rfl

theorem any_inFlood_eq_false {m : AreaSet} (h : ∀ a, m.getLsbD a = true → (s.area a).flood = false) :
    (areaList m).any s.inFlood = false :=
  (any_areaList_eq_false _ _).mpr h

theorem any_unpermitted_eq_false {m : AreaSet} {x : Operator} (hx : s.signOn.active = some x)
    (h : ∀ a, m.getLsbD a = true → s.permits x .hold a = true) :
    ((areaList m).any fun a => !s.permitted .hold a) = false :=
  (any_areaList_eq_false _ _).mpr fun a ha => by rw [permitted_eq hx, h a ha]; rfl

theorem peerReady_iff (s : State) (n : Station) : s.peerReady n = true ↔
    ∃ r, s.peer n = some r ∧ r.state = .present ∧ ∀ i, r.info = some i → i.dark = false := by
  have hdark : ∀ r : PeerRecord, (!r.isDark) = true ↔ ∀ i, r.info = some i → i.dark = false := fun r => by
    rw [Bool.not_eq_true', PeerRecord.isDark]
    cases r.info <;> simp
  simp only [State.peerReady, Option.any_eq_true, Bool.and_eq_true, beq_iff_eq, hdark]

/-- Settles O41: the table of checks at its first failing entry, for a remote offer and for a seat change. -/
theorem offersAreMade : Obligations.OffersAreMade := by
  unfold Obligations.OffersAreMade
  intro s m hopen
  have hrefuse : ∀ {n r}, s.offerRefusal n m = some r → Refuses (.offerHandover n m) 0x60 r s := fun h =>
    refuses_of_rule rfl hopen (ruleOffer_refused (s := s.checkIn) h)
  have hseatRefuse : ∀ {r}, s.offerRefusal s.own m = some r → Refuses (.offerSeatChange m) 0x60 r s := fun h =>
    refuses_of_rule rfl hopen (ruleOffer_refused (s := s.checkIn) h)
  refine ⟨rfl, fun a q mine hq hmine => ?summary, fun hmode => ?inactive, fun n hactive hv => ?wrongValue,
    fun n hactive h1 h16 hother hm hseat => ?noOperator,
    fun n x hactive h1 h16 hother hm hx => ⟨fun hout => ?busy, fun hout hheld => ?notHeld, fun hout hheld hflood => ?flooded,
      fun hout hall => ⟨fun hready => ?unknown, fun hready hweak => ?weak, fun hready hok hfull => ?full⟩,
      peerReady_iff s n, fun hout hall hready hroom => ?made⟩,
    fun n hactive hn h1 h16 => ⟨fun hseat => ?seatNoOperator, fun hseat hbusy => ?seatBusy⟩,
    fun n x hactive hn h1 h16 hx hout hin => ⟨fun hrelief => ?noRelief, fun hrelief hflood => ?seatFlooded,
      fun hrelief hnormal => ?seatMade⟩⟩
  case summary =>
    subst hq hmine
    refine ⟨rfl, ?_, ?_, rfl⟩
    · simp only [← isUnack_eq]
      rfl
    · simp only [← isUnack_eq]
      rfl
  case inactive =>
    have hchecks : ∀ n, s.offerRefusal n m = some .badState := fun n =>
      firstFail_inactive hmode .badState _
    exact ⟨fun n => hrefuse (hchecks n), hseatRefuse (hchecks _)⟩
  case wrongValue =>
    refine hrefuse ?_
    have hvalue : (!stationOk n || (!s.isOwn n && m == 0)) = true := by
      obtain hn | ⟨hn, rfl⟩ := hv
      · rw [(stationOk_eq_false_iff n).mpr hn]
        rfl
      · rw [(isOwn_eq_false_iff s n).mpr hn]
        exact Bool.or_true _
    unfold State.offerRefusal State.offerRefusalIn State.offerChecks
    rw [hvalue, isActive_iff.mpr hactive]
    rfl
  case noOperator =>
    refine hrefuse ((offerRefusal_eq hactive h1 h16 (.inr hm)).trans (firstFail_refuse ?_ _ _))
    rw [(seated_eq_false_iff s).mpr hseat]
    rfl
  case seatNoOperator =>
    rw [← own_of_number hn] at h1 h16 hn
    refine hseatRefuse ((offerRefusal_eq hactive h1 h16 (.inl hn)).trans (firstFail_refuse ?_ _ _))
    rw [(seated_eq_false_iff s).mpr hseat]
    rfl
  case seatBusy =>
    rw [← own_of_number hn] at h1 h16 hn
    refine hseatRefuse ((offerRefusal_eq hactive h1 h16 (.inl hn)).trans ?_)
    rw [(seated_eq_true_iff s).mpr hseat, (isOwn_iff s _).mpr hn, Bool.not_true, firstFail_pass]
    refine firstFail_refuse ?_ _ _
    obtain hout | hin := hbusy
    · rw [outIdle_eq_false hout]
      rfl
    · rw [inIdle_eq_false hin]
      exact Bool.or_true _
  case busy =>
    have hseat : s.signOn.active ≠ none := by simp [hx]
    refine hrefuse ((offerRefusal_eq hactive h1 h16 (.inr hm)).trans ?_)
    rw [(seated_eq_true_iff s).mpr hseat, outIdle_eq_false hout]
    rfl
  case noRelief =>
    refine hseatRefuse ((offerRefusal_seat hactive h1 h16 hn (by simp [hx]) hout hin).trans ?_)
    rw [State.seatChecks, hrelief]
    rfl
  case seatFlooded =>
    refine hseatRefuse ((offerRefusal_seat hactive h1 h16 hn (by simp [hx]) hout hin).trans ?_)
    obtain ⟨a, ha, hheld, hflood⟩ := hflood
    have hany : (List.range 32).any (fun a => s.holds a && s.inFlood a) = true := by
      simp only [List.any_eq_true, List.mem_range, Bool.and_eq_true]
      exact ⟨a, ha, hheld, hflood⟩
    rw [State.seatChecks, hany, Option.isNone_eq_false_iff.mpr (Option.isSome_iff_ne_none.mpr hrelief)]
    rfl
  case seatMade =>
    have hnone : (List.range 32).any (fun a => s.holds a && s.inFlood a) = false := by
      simp only [List.any_eq_false, List.mem_range, Bool.and_eq_true, not_and, Bool.not_eq_true]
      exact fun a _ hheld => hnormal a hheld
    have hpass : s.offerRefusal s.own m = none := by
      rw [offerRefusal_seat hactive h1 h16 hn (by simp [hx]) hout hin, State.seatChecks, hnone,
        Option.isNone_eq_false_iff.mpr (Option.isSome_iff_ne_none.mpr hrelief)]
      rfl
    refine (exec_of_rule rfl hopen (ruleOffer_made (s := s.checkIn) hpass)).trans ?_
    rw [State.makeOffer, if_pos ((isOwn_iff s.checkIn _).mpr (hn.trans (congrArg some (own_of_number hn).symm))),
      State.makeSeatOffer, State.checkIn_own, own_of_number hn, activeBadge_eq (s := s.checkIn) hx]
    rfl
  all_goals
    have hchecks := offerRefusal_remote hactive h1 h16 hother hm (s := s) (by simp [hx]) hout
  case notHeld =>
    refine hrefuse (hchecks.trans (firstFail_refuse ?_ _ _))
    rw [any_areaList_iff]
    exact hheld.imp fun a ⟨ha, h⟩ => ⟨ha, by rw [h]; rfl⟩
  case flooded =>
    refine hrefuse (hchecks.trans ?_)
    rw [State.remoteChecks, any_notHeld_eq_false hheld, (any_areaList_iff m s.inFlood).mpr hflood]
    rfl
  case made =>
    have hheldAll := any_notHeld_eq_false fun a ha => (hall a ha).1
    have hnormal := any_inFlood_eq_false fun a ha => (hall a ha).2.1
    have hpass : s.offerRefusal n m = none := by
      rw [hchecks, State.remoteChecks, hheldAll, hnormal, hready,
        any_unpermitted_eq_false hx fun a ha => (hall a ha).2.2, hasRoom_eq_true hroom]
      rfl
    refine (exec_of_rule rfl hopen (ruleOffer_made (s := s.checkIn) hpass)).trans ?_
    rw [State.makeOffer, if_neg (by simp [(isOwn_eq_false_iff s n).mpr hother]), State.makeRemoteOffer,
      activeBadge_eq (s := s.checkIn) hx]
    rfl
  all_goals
    have hheldAll := any_notHeld_eq_false fun a ha => (hall a ha).1
    have hnormal := any_inFlood_eq_false fun a ha => (hall a ha).2
  case unknown =>
    refine hrefuse (hchecks.trans ?_)
    rw [State.remoteChecks, hheldAll, hnormal, hready]
    rfl
  case weak =>
    refine hrefuse (hchecks.trans ?_)
    have hany : ((areaList m).any fun a => !s.permitted .hold a) = true := by
      rw [any_areaList_iff]
      exact hweak.imp fun a ⟨ha, hp⟩ => ⟨ha, by simp [permitted_eq hx, hp]⟩
    rw [State.remoteChecks, hheldAll, hnormal, hready, hany]
    rfl
  case full =>
    refine hrefuse (hchecks.trans ?_)
    rw [State.remoteChecks, hheldAll, hnormal, hready, any_unpermitted_eq_false hx hok, hasRoom_eq_false hfull]
    rfl

/-! ### DECLINE HANDOVER and WITHDRAW OFFER -/

section decide

variable {rest : InOffer → State → Reply} {n : Byte} {o : InOffer}

theorem decide_none (hactive : Active s) (h : ∀ o, s.handover.incoming ≠ .presented o) :
    s.decide n rest = .refuse s .badState := by
  have hnone : s.presented = none := by
    unfold State.presented
    split
    · next o ho => exact absurd ho (h o)
    · rfl
    · rfl
  refine (checked_pass _ s (firstFail_active hactive _ _)).trans ?_
  rw [hnone]

theorem decide_presented (hactive : Active s) (h : s.handover.incoming = .presented o) :
    s.decide n rest = if o.number == n then rest o s else .refuse s .notFound := by
  have hsome : s.presented = some o := by
    unfold State.presented
    rw [h]
  refine (checked_pass _ s (firstFail_active hactive _ _)).trans ?_
  rw [hsome]

theorem decide_other (hactive : Active s) (h : s.handover.incoming = .presented o) (hne : o.number ≠ n) :
    s.decide n rest = .refuse s .notFound :=
  (decide_presented hactive h).trans (if_neg (by simpa using hne))

theorem decide_own (hactive : Active s) (h : s.handover.incoming = .presented o) (heq : o.number = n) :
    s.decide n rest = rest o s :=
  (decide_presented hactive h).trans (if_pos (by simpa using heq))

end decide

theorem dropOffer_remote {o : OutOffer} (hn : s.node.number ≠ some o.target) (e : OfferEnd) :
    s.dropOffer o e = (s.queueIfRoom (.withdraw o.number o.target)).endOut o e :=
  if_neg (by simp [(isOwn_eq_false_iff s _).mpr hn])

theorem dropOffer_seat {o : OutOffer} (hn : s.node.number = some o.target) (e : OfferEnd) :
    s.dropOffer o e = s.endSeat o.number e :=
  if_pos ((isOwn_iff s _).mpr hn)

theorem ruleWithdraw_offered {o : OutOffer} (hactive : Active s) (h : s.handover.outgoing = .offered o) :
    ruleWithdraw s = .ok (s.dropOffer o .withdrawn) := by
  refine (checked_pass _ s (firstFail_active hactive _ _)).trans ?_
  rw [h]

theorem ruleDecline_remote {o : InOffer} (hactive : Active s) (h : s.handover.incoming = .presented o)
    (hn : s.node.number ≠ some o.origin) : ruleDecline o.number s = s.declineRemote o :=
  (decide_own hactive h rfl).trans (if_neg (by simp [(isOwn_eq_false_iff s _).mpr hn]))

theorem ruleDecline_seat {o : InOffer} (hactive : Active s) (h : s.handover.incoming = .presented o)
    (hn : s.node.number = some o.origin) : ruleDecline o.number s = .ok (s.endSeat o.number (.declined 0x01)) :=
  (decide_own hactive h rfl).trans (if_pos ((isOwn_iff s _).mpr hn))

/-! ### SCHEDULE OFFER and CANCEL SCHEDULE -/

theorem fireTimeOf_eq (f : Quad) : fireTimeOf f = if f = 0xFFFFFFFF then .nextShiftStart else .at f.toNat := rfl

theorem fireTimeOk_iff (f : Quad) : fireTimeOk (fireTimeOf f) = true ↔ f = 0xFFFFFFFF ∨ f.toNat ≤ 3155759999 := by
  rw [fireTimeOf_eq]
  split
  · next h => exact iff_of_true rfl (.inl h)
  · next h => exact decide_eq_true_iff.trans ⟨.inr, fun h' => h'.resolve_left h⟩

/-- The value check of SCHEDULE OFFER. -/
theorem schedule_value_iff (s : State) (n : Station) (m : AreaSet) (f : Quad) :
    (!stationOk n || !fireTimeOk (fireTimeOf f) || (!s.isOwn n && m == 0)) = false ↔
      (1 ≤ n.toNat ∧ n.toNat ≤ 16) ∧ (f = 0xFFFFFFFF ∨ f.toNat ≤ 3155759999) ∧ (s.node.number = some n ∨ m ≠ 0) := by
  rw [← stationOk_iff, ← fireTimeOk_iff, ← isOwn_iff]
  simp only [Bool.or_eq_false_iff, Bool.and_eq_false_iff, Bool.not_eq_false', beq_eq_false_iff_ne, and_assoc]

/-- Settles O43: each request's checks in order, and the offer ended or the schedule set. -/
theorem offersAreEndedAndScheduled : Obligations.OffersAreEndedAndScheduled := by
  unfold Obligations.OffersAreEndedAndScheduled
  intro s hopen
  refine ⟨fun hmode => ?inactive, fun o hactive hin => ⟨fun hn hfull => ?declineFull, fun hn hroom => ?declined,
      fun hn => ?declinedSeat⟩, fun hactive hout => ?withdrawIdle, fun o hactive hout => ?withdrawCommitting,
    fun o hactive hout hn hroom => ?withdrawn, fun o hactive hout hn hfull => ?withdrawnFull,
    fun o hactive hout hn => ?withdrawnSeat, fun hactive hnone n => refuses_of_rule rfl hopen
      (decide_none (s := s.checkIn) hactive hnone), fun o n hactive hin hne => refuses_of_rule rfl hopen
      (decide_other (s := s.checkIn) hactive hin hne), fun n m f hactive hv => ?wrongValue,
    fun n m f hactive h1 h16 hf hm hseat => ?noOperator,
    fun n m f hactive h1 h16 hf hm hseat => ⟨fun hfull => ?scheduleBusy, fun hempty => ?scheduled⟩,
    fun hactive hempty => ?cancelEmpty, fun hactive hfull => ?cancelled⟩
  case inactive =>
    exact ⟨fun _ => refuses_of_checks rfl rfl hopen (firstFail_inactive hmode _ _),
      refuses_of_checks rfl rfl hopen (firstFail_inactive hmode _ _),
      fun _ _ _ => refuses_of_checks rfl rfl hopen (firstFail_inactive hmode _ _),
      refuses_of_checks rfl rfl hopen (firstFail_inactive hmode _ _)⟩
  case declineFull =>
    refine refuses_of_rule rfl hopen ((ruleDecline_remote (s := s.checkIn) hactive hin hn).trans
      (checked_refuse _ _ (firstFail_refuse ?_ _ _)))
    rw [State.checkIn_hasRoom, hasRoom_eq_false hfull]
    rfl
  case declined =>
    refine (exec_of_rule rfl hopen ((ruleDecline_remote (s := s.checkIn) hactive hin hn).trans
      (checked_pass _ _ (firstFail_skip ?_ _ _)))).trans rfl
    rw [State.checkIn_hasRoom, hasRoom_eq_true hroom]
    rfl
  case declinedSeat =>
    refine (exec_of_rule rfl hopen (ruleDecline_seat (s := s.checkIn) hactive hin hn)).trans ?_
    rw [endSeat_eq (s := s.checkIn) hn]
    rfl
  case withdrawIdle =>
    refine refuses_of_rule rfl hopen ((checked_pass _ _ (firstFail_active (s := s.checkIn) hactive _ _)).trans ?_)
    rw [State.checkIn_handover, hout]
  case withdrawCommitting =>
    refine refuses_of_rule rfl hopen ((checked_pass _ _ (firstFail_active (s := s.checkIn) hactive _ _)).trans ?_)
    rw [State.checkIn_handover, hout]
  case withdrawn =>
    refine (exec_of_rule rfl hopen (ruleWithdraw_offered (s := s.checkIn) hactive hout)).trans ?_
    rw [dropOffer_remote (s := s.checkIn) hn, queueIfRoom_room (s := s.checkIn) hroom]
    rfl
  case withdrawnFull =>
    refine (exec_of_rule rfl hopen (ruleWithdraw_offered (s := s.checkIn) hactive hout)).trans ?_
    rw [dropOffer_remote (s := s.checkIn) hn, queueIfRoom_full (s := s.checkIn) hfull]
    rfl
  case withdrawnSeat =>
    refine (exec_of_rule rfl hopen (ruleWithdraw_offered (s := s.checkIn) hactive hout)).trans ?_
    rw [dropOffer_seat (s := s.checkIn) hn, endSeat_eq (s := s.checkIn) hn]
    rfl
  case wrongValue =>
    refine refuses_of_checks rfl rfl hopen ((firstFail_active hactive _ _).trans (firstFail_refuse ?_ _ _))
    rw [← Bool.not_eq_false, schedule_value_iff]
    rintro ⟨hn, hf, hm⟩
    obtain h | ⟨hf', hlate⟩ | ⟨hn', hm'⟩ := hv
    · exact h hn
    · exact hf.elim hf' (fun h => by omega)
    · exact hm.elim hn' (fun h => h hm')
  case noOperator =>
    refine refuses_of_checks rfl rfl hopen ((firstFail_active hactive _ _).trans
      ((firstFail_skip ((schedule_value_iff s n m f).mpr ⟨⟨h1, h16⟩, hf, hm⟩) _ _).trans (firstFail_refuse ?_ _ _)))
    rw [(seated_eq_false_iff s).mpr hseat]
    rfl
  case scheduleBusy =>
    refine refuses_of_checks rfl rfl hopen ((firstFail_active hactive _ _).trans
      ((firstFail_skip ((schedule_value_iff s n m f).mpr ⟨⟨h1, h16⟩, hf, hm⟩) _ _).trans ?_))
    rw [(seated_eq_true_iff s).mpr hseat, bne_iff_ne.mpr hfull]
    rfl
  case scheduled =>
    refine (exec_of_checks rfl rfl hopen ((firstFail_active hactive _ _).trans
      ((firstFail_skip ((schedule_value_iff s n m f).mpr ⟨⟨h1, h16⟩, hf, hm⟩) _ _).trans ?_)) rfl).trans ?_
    · rw [(seated_eq_true_iff s).mpr hseat, hempty]
      rfl
    · rw [fireTimeOf_eq]
      rfl
  case cancelEmpty =>
    refine refuses_of_checks rfl rfl hopen ((firstFail_active hactive _ _).trans (firstFail_refuse ?_ _ _))
    rw [hempty]
    rfl
  case cancelled =>
    refine (exec_of_checks rfl rfl hopen ((firstFail_active hactive _ _).trans (firstFail_skip ?_ _ _)) rfl).trans rfl
    exact beq_eq_false_iff_ne.mpr hfull

end Sys2Proof.Answers

/-! PROOF. ACCEPT HANDOVER: the claims that a seat change builds, and the acceptance of either kind of offer (R118,
R127). -/

namespace Sys2Proof.Answers

open Sys2Proof.Machine Sys2Proof.Claims Sys2Proof.Keep

variable {c : Instr} {code : Byte} {s t u : State}

/-! ### Claims from the re-badge list (R127) -/

/-- The areas of the re-badge list for which no claim of this station is in flight, ascending. -/
def unclaimed (s : State) : List Nat := (areaList s.handover.rebadge).filter fun a => (s.inFlight a).isNone

/-- The claim that the re-badge list builds for an area. -/
def rebadgeClaim (s : State) (a : Nat) : TxFrame :=
  ⟨.claim 0x01 (BitVec.ofNat 8 a) (s.nextSerial a) s.activeBadge, none⟩

/-- A state with claims built for areas of the re-badge list, which leave it. -/
def rebadged (l : List Nat) (s : State) : State := { s with
  handover := { s.handover with rebadge := l.foldl dropArea s.handover.rebadge }
  tx := { s.tx with urgent := s.tx.urgent ++ l.map (rebadgeClaim s) } }

theorem rebadged_nil (s : State) : rebadged [] s = s := by
  simp [rebadged]

theorem rebadged_cons (a : Nat) (l : List Nat) (s : State) : rebadged l (rebadged [a] s) = rebadged (a :: l) s := by
  simp only [rebadged, List.map_cons, List.map_nil, List.append_assoc, List.singleton_append, List.foldl_cons,
    List.foldl_nil]
  rfl

theorem rebadgeNext_eq (s : State) : s.rebadgeNext = (unclaimed s).head? := by
  rw [State.rebadgeNext, unclaimed, List.head?_filter]

theorem rebadgeOne_nil (h : unclaimed s = []) : s.rebadgeOne = s := by
  rw [State.rebadgeOne, rebadgeNext_eq, h]
  rfl

theorem rebadgeOne_full (h : 8 ≤ s.tx.urgent.length) : s.rebadgeOne = s := by
  unfold State.rebadgeOne
  split
  · rfl
  · exact if_neg (by simp [hasRoom_eq_false h])

theorem rebadgeOne_cons {a : Nat} {l : List Nat} (h : unclaimed s = a :: l) (hroom : s.tx.urgent.length < 8) :
    s.rebadgeOne = rebadged [a] s := by
  rw [State.rebadgeOne, rebadgeNext_eq, h]
  exact if_pos (hasRoom_eq_true hroom)

/-- A further frame is in flight for its own area and changes nothing for another one. -/
theorem inFlight_rebadged {a b : Nat} (ha : a < 32) (hne : a ≠ b) : (rebadged [a] s).inFlight b = s.inFlight b := by
  have harea : (BitVec.ofNat 8 a).toNat = a := by
    rw [BitVec.toNat_ofNat]
    omega
  unfold State.inFlight
  rw [show (rebadged [a] s).tx.urgent = s.tx.urgent ++ [rebadgeClaim s a] from rfl, List.findSome?_append]
  simp [rebadgeClaim, claimOfFrame, harea, hne]

theorem unclaimed_rebadged {a : Nat} {l : List Nat} (h : unclaimed s = a :: l) : unclaimed (rebadged [a] s) = l := by
  have hmem : a ∈ unclaimed s := h ▸ List.mem_cons_self
  have hlt : a < 32 := lt_of_getLsbD ((mem_areaList_iff _ a).mp (List.mem_filter.mp hmem).1)
  have hnodup : (unclaimed s).Nodup := (List.nodup_range.filter _).filter _
  have hfilter : unclaimed (rebadged [a] s) = (unclaimed s).filter fun b => decide (b ≠ a) := by
    unfold unclaimed areaList
    rw [List.filter_filter, List.filter_filter, List.filter_filter]
    refine List.filter_congr fun b _ => ?_
    rw [show (rebadged [a] s).handover.rebadge = dropArea s.handover.rebadge a from rfl, getLsbD_dropArea]
    by_cases hab : b = a
    · simp [hab]
    · rw [inFlight_rebadged hlt (Ne.symm hab), beq_eq_false_iff_ne.mpr (Ne.symm hab), decide_eq_true hab]
      simp
  rw [h] at hfilter hnodup
  obtain ⟨hnot, -⟩ := List.nodup_cons.mp hnodup
  rw [hfilter, List.filter_cons_of_neg (by simp), List.filter_eq_self]
  intro b hb
  refine decide_eq_true ?_
  rintro rfl
  exact hnot hb

/-- Building claims one by one takes the areas in their order, as far as there are places. -/
theorem rebadgeMany_eq (n : Nat) : ∀ s : State,
    s.rebadgeMany n = rebadged ((unclaimed s).take (min n (8 - s.tx.urgent.length))) s := by
  induction n with
  | zero => exact fun s => by rw [Nat.zero_min, List.take_zero, rebadged_nil]; rfl
  | succ n ih =>
    intro s
    rw [State.rebadgeMany]
    cases hl : unclaimed s with
    | nil => rw [rebadgeOne_nil hl, ih, hl, List.take_nil, List.take_nil]
    | cons a l =>
      obtain hfull | hroom := Nat.lt_or_ge 7 s.tx.urgent.length
      · have hzero : 8 - s.tx.urgent.length = 0 := by omega
        rw [rebadgeOne_full hfull, ih, hzero, Nat.min_zero, Nat.min_zero, List.take_zero, List.take_zero]
      · replace hroom : s.tx.urgent.length < 8 := Nat.lt_succ_of_le hroom
        have hlen : min (n + 1) (8 - s.tx.urgent.length) = min n (8 - (rebadged [a] s).tx.urgent.length) + 1 := by
          simp only [rebadged, List.length_append, List.map_cons, List.map_nil, List.length_singleton]
          omega
        rw [rebadgeOne_cons hl hroom, ih, unclaimed_rebadged hl, rebadged_cons, hlen, List.take_succ_cons]

theorem getLsbD_foldl_dropArea (l : List Nat) : ∀ (m : AreaSet) (a : Nat),
    (l.foldl dropArea m).getLsbD a = true ↔ m.getLsbD a = true ∧ a ∉ l := by
  induction l with
  | nil => simp
  | cons b l ih =>
    intro m a
    rw [List.foldl_cons, ih, getLsbD_dropArea]
    simp only [Bool.and_eq_true, Bool.not_eq_true', beq_eq_false_iff_ne, List.mem_cons, not_or, and_assoc, ne_comm]

/-! ### Acceptance -/

theorem qualifiedAll_iff (x : Operator) (m : AreaSet) :
    qualifiedAll (some x) m = true ↔ ∀ a, m.getLsbD a = true → x.qualified.getLsbD a = true := by
  simp [qualifiedAll, mem_areaList_iff, Operator.qualifiedFor]

theorem permitsAll_iff (s : State) (x : Operator) (m : AreaSet) :
    s.permitsAll (some x) m = true ↔ ∀ a, m.getLsbD a = true → s.permits x .hold a = true := by
  simp [State.permitsAll, mem_areaList_iff]

theorem promote_some {r : Operator} (h : s.signOn.relief = some r) : s.promote = State.activeChanged
    { s with signOn := { active := some { r with shift := max r.shift s.clock.shift }, relief := none } } := by
  rw [State.promote, h]

/-- A state whose relief has taken the seat, both offers ended COMMITTED, with the re-badge list at the held set. -/
def seatChanged (r : Operator) (n : Byte) (o : Station) (s : State) : State := rerouted { s with
  signOn := { active := some { r with shift := max r.shift s.clock.shift }, relief := none }
  clock := { s.clock with overdue := false }
  handover := { s.handover with
    outgoing := .idle, incoming := .idle, rebadge := s.heldSet
    lastOut := some ⟨n, o, .committed s.heldSet⟩, lastIn := some ⟨n, o, .committed s.heldSet⟩ }
  port := { s.port with attention := plus s.port.attention .offerEnded } }

theorem commitSeat_eq {r : Operator} {o : Station} (n : Byte) (hr : s.signOn.relief = some r)
    (hn : s.node.number = some o) : s.commitSeat n = rebadged
      (((List.range 32).filter fun a => s.holds a && s.inFlight a == none).take (8 - s.tx.urgent.length))
      (seatChanged r n o s) := by
  have hstart : s.commitSeat n = (seatChanged r n o s).rebadgeMany 8 := by
    have hpromoted : s.promote.node.number = some o := by
      rw [(State.promote_frame s).1, hn]
    rw [State.commitSeat, endSeat_eq (s := s.promote) hpromoted, promote_some hr]
    rfl
  have hlist : unclaimed (seatChanged r n o s) =
      (List.range 32).filter fun a => s.holds a && s.inFlight a == none := by
    rw [unclaimed, areaList, List.filter_filter]
    refine List.filter_congr fun a ha => ?_
    have hheld : s.heldSet.getLsbD a = s.holds a := by
      rw [State.heldSet, getLsbD_areaSetOf, decide_eq_true (List.mem_range.mp ha), Bool.true_and]
    rw [show (seatChanged r n o s).handover.rebadge = s.heldSet from rfl, hheld, Bool.and_comm,
      show (seatChanged r n o s).inFlight a = s.inFlight a from rfl]
    cases s.inFlight a <;> rfl
  rw [hstart, rebadgeMany_eq, hlist, Nat.min_eq_right (Nat.sub_le 8 _)]
  rfl

theorem ruleAccept_remote {o : InOffer} (hactive : Active s) (h : s.handover.incoming = .presented o)
    (hn : s.node.number ≠ some o.origin) : ruleAccept o.number s = s.acceptRemote o :=
  (decide_own hactive h rfl).trans (if_neg (by simp [(isOwn_eq_false_iff s _).mpr hn]))

theorem ruleAccept_seat {o : InOffer} (hactive : Active s) (h : s.handover.incoming = .presented o)
    (hn : s.node.number = some o.origin) : ruleAccept o.number s = s.acceptSeat o :=
  (decide_own hactive h rfl).trans (if_pos ((isOwn_iff s _).mpr hn))

theorem qualifiedAll_eq_false {x : Operator} {m : AreaSet}
    (h : ∃ a, a < 32 ∧ m.getLsbD a = true ∧ x.qualified.getLsbD a = false) : qualifiedAll (some x) m = false := by
  obtain ⟨a, -, ha, hq⟩ := h
  rw [← Bool.not_eq_true, qualifiedAll_iff]
  exact fun hall => by simp [hall a ha] at hq

theorem permitsAll_eq_false {x : Operator} {m : AreaSet}
    (h : ∃ a, a < 32 ∧ m.getLsbD a = true ∧ s.permits x .hold a = false) : s.permitsAll (some x) m = false := by
  obtain ⟨a, -, ha, hp⟩ := h
  rw [← Bool.not_eq_true, permitsAll_iff]
  exact fun hall => by simp [hall a ha] at hp

/-- An accepted seat change, with the areas for which claims are built. -/
theorem exec_acceptSeat {o : InOffer} {r : Operator} (hopen : Open s) (hactive : Active s)
    (hin : s.handover.incoming = .presented o) (hn : s.node.number = some o.origin) (hr : s.signOn.relief = some r)
    (hall : ∀ a, s.heldSet.getLsbD a = true → r.qualified.getLsbD a = true ∧ s.permits r .hold a = true) :
    exec (.acceptHandover o.number) s = .next ((rebadged
      (((List.range 32).filter fun a => s.holds a && s.inFlight a == none).take (8 - s.tx.urgent.length))
      (seatChanged r o.number o.origin s.checkIn)).answer 0x61 .ok .empty) := by
  have hq : qualifiedAll (some r) s.heldSet = true := (qualifiedAll_iff r _).mpr fun a ha => (hall a ha).1
  have hp : s.permitsAll (some r) s.heldSet = true := (permitsAll_iff s r _).mpr fun a ha => (hall a ha).2
  refine exec_of_rule rfl hopen ((ruleAccept_seat (s := s.checkIn) hactive hin hn).trans
    ((checked_pass _ _ ?_).trans (congrArg Reply.ok (commitSeat_eq (s := s.checkIn) o.number hr hn))))
  rw [State.checkIn_signOn, hr, State.checkIn_heldSet, hq, show s.checkIn.permitsAll (some r) s.heldSet = true from hp]
  rfl

/-- Settles O42: the remote offer's three checks and its ANSWER; the seat change's two checks, and its claims as far as the
urgent queue has places. -/
theorem offersAreAccepted : Obligations.OffersAreAccepted := by
  unfold Obligations.OffersAreAccepted
  intro s n hopen
  refine ⟨fun hmode => refuses_of_checks rfl rfl hopen (firstFail_inactive hmode _ _),
    fun hactive hnone => refuses_of_rule rfl hopen (decide_none (s := s.checkIn) hactive hnone),
    fun o hactive hin => ⟨fun hne => refuses_of_rule rfl hopen (decide_other (s := s.checkIn) hactive hin hne),
      fun x heq hn hx => ?remote, fun r heq hn hr hzero => ?seatEmpty, fun r heq hn hr => ?seat⟩⟩
  case remote =>
    subst heq
    have hrule := ruleAccept_remote (s := s.checkIn) hactive hin hn
    have hrefuse : ∀ r, firstFail [(!qualifiedAll (some x) o.areas, .notQualified),
        (!s.permitsAll (some x) o.areas, .notPermitted), (!s.hasRoom, .queueFull)] = some r →
        Refuses (.acceptHandover o.number) 0x61 r s := fun r h =>
      refuses_of_rule rfl hopen (hrule.trans (checked_refuse _ _ (by rw [← hx] at h; exact h)))
    refine ⟨fun hq => hrefuse _ ?_, fun hq hp => hrefuse _ ?_, fun hall hfull => hrefuse _ ?_, fun hall hroom => ?_⟩
    · rw [qualifiedAll_eq_false hq]
      rfl
    · rw [(qualifiedAll_iff x _).mpr hq, permitsAll_eq_false hp]
      rfl
    all_goals
      have hq : qualifiedAll (some x) o.areas = true := (qualifiedAll_iff x _).mpr fun a ha => (hall a ha).1
      have hp : s.permitsAll (some x) o.areas = true := (permitsAll_iff s x _).mpr fun a ha => (hall a ha).2
    · rw [hq, hp, hasRoom_eq_false hfull]
      rfl
    · refine (exec_of_rule rfl hopen (hrule.trans (checked_pass _ _ ?_))).trans ?_
      · rw [State.checkIn_signOn, hx, hq, State.checkIn_hasRoom, hasRoom_eq_true hroom, show
          s.checkIn.permitsAll (some x) o.areas = true from hp]
        rfl
      · rw [activeBadge_eq (s := s.checkIn) hx]
        rfl
  case seatEmpty =>
    subst heq
    have hnone : ∀ a, a < 32 → s.holds a = false := fun a ha => by
      have hbit : s.heldSet.getLsbD a = false := by simp [hzero]
      rw [← Bool.not_eq_true]
      exact fun h => by simp [(heldSet_iff s a).mpr ⟨ha, h⟩] at hbit
    have hbuilt : ((List.range 32).filter fun a => s.holds a && s.inFlight a == none) = [] := by
      rw [List.filter_eq_nil_iff]
      exact fun a ha => by simp [hnone a (List.mem_range.mp ha)]
    rw [exec_acceptSeat hopen hactive hin hn hr (fun a ha => by simp [hzero] at ha), hbuilt, List.take_nil, rebadged_nil,
      seatChanged, show s.checkIn.heldSet = 0 from hzero]
    rfl
  case seat =>
    subst heq
    have hrule := ruleAccept_seat (s := s.checkIn) hactive hin hn
    have hrefuse : ∀ c, firstFail [(!qualifiedAll (some r) s.heldSet, .notQualified),
        (!s.permitsAll (some r) s.heldSet, .notPermitted)] = some c → Refuses (.acceptHandover o.number) 0x61 c s :=
      fun c h => refuses_of_rule rfl hopen (hrule.trans (checked_refuse _ _ (by rw [← hr] at h; exact h)))
    have hheld : ∀ a, s.heldSet.getLsbD a = true ↔ a < 32 ∧ s.holds a = true := heldSet_iff s
    refine ⟨fun ⟨a, ha, hholds, hq⟩ => hrefuse _ ?_, fun hq ⟨a, ha, hholds, hp⟩ => hrefuse _ ?_,
      fun hall built hbuilt => ⟨built.foldl dropArea s.heldSet, fun a ha => ?_, ?_⟩⟩
    · rw [qualifiedAll_eq_false ⟨a, ha, (hheld a).mpr ⟨ha, hholds⟩, hq⟩]
      rfl
    · have hqualified : qualifiedAll (some r) s.heldSet = true := (qualifiedAll_iff r _).mpr fun b hb =>
        hq b ((hheld b).mp hb).1 ((hheld b).mp hb).2
      rw [hqualified, permitsAll_eq_false ⟨a, ha, (hheld a).mpr ⟨ha, hholds⟩, hp⟩]
      rfl
    · rw [getLsbD_foldl_dropArea, hheld]
      exact and_congr_left fun _ => and_iff_right ha
    · rw [exec_acceptSeat hopen hactive hin hn hr (fun a ha => hall a ((hheld a).mp ha).1 ((hheld a).mp ha).2), ← hbuilt]
      simp only [← nextSerial_eq]
      rfl

end Sys2Proof.Answers

/-! PROOF. Rows of a second event's work: the offers' timers (R122), the refresh tests and the re-badge claims (R127,
R170), and the orphan grace (R97, R98). -/

namespace Sys2Proof.Answers

open Sys2Proof.Machine Sys2Proof.Claims Sys2Proof.Keep

variable {c : Instr} {s t u : State}

/-! ### Work of a second event that ends the outgoing offer -/

theorem dueToFire_eq (s : State) : s.dueToFire = (s.outIdle && waits s) := rfl

/-- Work that ends the outgoing offer marks a WAITING offer that comes to fire by it (R129). -/
theorem bySecond_ended {f : State → State} (hout : (f s).handover.outgoing = .idle)
    (hscheduled : (f s).handover.scheduled = s.handover.scheduled)
    (hmark : (f s).handover.fireBySecond = s.handover.fireBySecond) :
    s.bySecond f = { f s with handover := { (f s).handover with fireBySecond := firesBySecond s } } := by
  have hwaits : waits (f s) = waits s := by rw [waits, waits, hscheduled]
  have hbool : ((f s).dueToFire && !s.dueToFire) = (waits s && s.handover.outgoing != .idle) := by
    rw [dueToFire_eq, dueToFire_eq, hwaits, outIdle_eq_true hout, State.outIdle, bne]
    cases waits s <;> simp
  unfold State.bySecond firesBySecond
  dsimp only
  rw [hbool, ← hmark]
  cases waits s && s.handover.outgoing != .idle
  · simp
  · simp

/-- Work that leaves the outgoing and the scheduled offer marks nothing. -/
theorem bySecond_same {f : State → State} (hout : (f s).handover.outgoing = s.handover.outgoing)
    (hscheduled : (f s).handover.scheduled = s.handover.scheduled) : s.bySecond f = f s := by
  have hdue : (f s).dueToFire = s.dueToFire := by
    rw [dueToFire_eq, dueToFire_eq, State.outIdle, State.outIdle, waits, waits, hout, hscheduled]
  unfold State.bySecond
  dsimp only
  rw [hdue, Bool.and_not_self]
  rfl

/-! ### The offers' timers -/

theorem dropOffer_handover_ends (o : OutOffer) (e : OfferEnd) (s : State) :
    (s.dropOffer o e).handover.outgoing = .idle ∧ (s.dropOffer o e).handover.scheduled = s.handover.scheduled ∧
      (s.dropOffer o e).handover.fireBySecond = s.handover.fireBySecond := by
  unfold State.dropOffer State.endSeat State.endOut
  split
  · simp
  · unfold State.queueIfRoom
    split <;> simp

theorem endSeat_handover_ends (n : Byte) (e : OfferEnd) (s : State) :
    (s.endSeat n e).handover.outgoing = .idle ∧ (s.endSeat n e).handover.scheduled = s.handover.scheduled ∧
      (s.endSeat n e).handover.fireBySecond = s.handover.fireBySecond := by
  unfold State.endSeat
  simp

theorem offerTimer_waits (h : ∀ o, s.handover.outgoing = .offered o → (s.clock.now - o.start).toNat < 120) :
    s.offerTimer = s := by
  unfold State.offerTimer
  split
  · next o ho => exact if_neg (Nat.not_le.mpr (h o ho))
  · rfl
  · rfl

theorem offerTimer_ends {o : OutOffer} (ho : s.handover.outgoing = .offered o)
    (h : 120 ≤ (s.clock.now - o.start).toNat) : s.offerTimer = { s.dropOffer o .timedOut with
      handover := { (s.dropOffer o .timedOut).handover with fireBySecond := firesBySecond s } } := by
  obtain ⟨hout, hscheduled, hmark⟩ := dropOffer_handover_ends o .timedOut s
  unfold State.offerTimer
  rw [ho]
  exact (if_pos h).trans (bySecond_ended hout hscheduled hmark)

theorem decisionTimer_waits (h : ∀ o, s.handover.incoming = .presented o → (s.clock.now - o.start).toNat < 110) :
    s.decisionTimer = s := by
  unfold State.decisionTimer
  split
  · next o ho => exact if_neg (Nat.not_le.mpr (h o ho))
  · rfl
  · rfl

theorem decisionTimer_remote {o : InOffer} (ho : s.handover.incoming = .presented o)
    (h : 110 ≤ (s.clock.now - o.start).toNat) (hn : s.node.number ≠ some o.origin) : s.decisionTimer =
      (s.queueIfRoom (answerDecline o.origin o.number 0x04)).endIn o (.autoDeclined 0x04) := by
  unfold State.decisionTimer
  rw [ho]
  exact (if_pos h).trans (if_neg (by simp [(isOwn_eq_false_iff s _).mpr hn]))

theorem decisionTimer_seat {o : InOffer} (ho : s.handover.incoming = .presented o)
    (h : 110 ≤ (s.clock.now - o.start).toNat) (hn : s.node.number = some o.origin) : s.decisionTimer =
      { s.endSeat o.number (.autoDeclined 0x04) with
        handover := { (s.endSeat o.number (.autoDeclined 0x04)).handover with fireBySecond := firesBySecond s } } := by
  obtain ⟨hout, hscheduled, hmark⟩ := endSeat_handover_ends o.number (.autoDeclined 0x04) s
  unfold State.decisionTimer
  rw [ho]
  exact (if_pos h).trans ((if_pos ((isOwn_iff s _).mpr hn)).trans (bySecond_ended hout hscheduled hmark))

theorem commitTimer_waits (h : ∀ o f, s.handover.incoming = .answered o f → (s.clock.now - f).toNat < 10) :
    s.commitTimer = s := by
  unfold State.commitTimer
  split
  · next o f ho => exact if_neg (Nat.not_le.mpr (h o f ho))
  · rfl
  · rfl

theorem commitTimer_ends {o : InOffer} {f : Sec} (ho : s.handover.incoming = .answered o f)
    (h : 10 ≤ (s.clock.now - f).toNat) : s.commitTimer = s.endIn o .noCommit := by
  unfold State.commitTimer
  rw [ho]
  exact if_pos h

theorem exec_offerTimeout (s : State) : exec .offerTimeout s = .next s.offerTimer := rfl

theorem exec_decisionWindow (s : State) : exec .decisionWindow s = .next s.decisionTimer := rfl

theorem exec_commitWait (s : State) : exec .commitWait s = .next s.commitTimer := rfl

/-- Settles O50: each timer short of its limit, and past it. -/
theorem offerTimersRunOut : Obligations.OfferTimersRunOut := by
  unfold Obligations.OfferTimersRunOut
  intro s
  simp only [exec_offerTimeout, exec_decisionWindow, exec_commitWait]
  refine ⟨fun h => congrArg _ (offerTimer_waits h), fun o u ho h hn hu => ⟨fun hroom => ?_, fun hfull => ?_⟩,
    fun o ho h hn => ?_, fun h => congrArg _ (decisionTimer_waits h),
    fun o ho h => ⟨fun u hn hu => ⟨fun hroom => ?_, fun hfull => ?_⟩, fun hn => ?_⟩,
    fun h => congrArg _ (commitTimer_waits h), fun o f ho h => congrArg _ ((commitTimer_ends ho h).trans rfl)⟩
  · rw [offerTimer_ends ho h, dropOffer_remote hn, queueIfRoom_room hroom, hu]
    rfl
  · rw [offerTimer_ends ho h, dropOffer_remote hn, queueIfRoom_full hfull, hu]
    rfl
  · rw [offerTimer_ends ho h, dropOffer_seat hn, endSeat_eq hn]
    rfl
  · rw [decisionTimer_remote ho h hn, queueIfRoom_room hroom, hu]
    rfl
  · rw [decisionTimer_remote ho h hn, queueIfRoom_full hfull, hu]
    rfl
  · rw [decisionTimer_seat ho h hn, endSeat_eq hn]
    rfl

/-! ### The refresh tests -/

theorem requestQueued_iff (s : State) : s.requestQueued = true ↔ ∃ t ∈ s.tx.urgent, t.frame = .pictureRequest := by
  simp [State.requestQueued]

theorem requestQueued_eq_false (h : ∀ t ∈ s.tx.urgent, t.frame ≠ .pictureRequest) : s.requestQueued = false := by
  rw [← Bool.not_eq_true, requestQueued_iff]
  exact fun ⟨t, ht, hf⟩ => h t ht hf

/-- Both tests fail the attempt in the same way: R170's failure. -/
theorem exec_refreshFailed {x : Refresh} (hx : s.transfer.refresh = some x)
    (h : (c = .refreshWaitFailure ∧ x.phase = .waiting ∧ x.repeatOwed = false ∧ 5 ≤ (s.clock.now - x.wait).toNat) ∨
      (∃ n f, c = .refreshStallFailure ∧ x.phase = .receiving n f ∧ 3 ≤ (s.clock.now - f).toNat)) :
    exec c s = .next (s.refreshFailed x) := by
  obtain ⟨rfl, hphase, howed, hlate⟩ | ⟨n, f, rfl, hphase, hlate⟩ := h
  · refine congrArg _ (?_ : s.refreshWaitTest = _)
    unfold State.refreshWaitTest
    rw [hx]
    dsimp only
    rw [hphase]
    refine if_pos ?_
    rw [howed]
    exact decide_eq_true hlate
  · refine congrArg _ (?_ : s.refreshStallTest = _)
    unfold State.refreshStallTest
    rw [hx]
    dsimp only
    rw [hphase]
    exact if_pos hlate

theorem refreshFailed_first {x : Refresh} (h : x.attempt = 1) : s.refreshFailed x =
    if s.requestQueued then s.setRefresh (some { x with phase := .waiting, attempt := 2, wait := s.now })
    else if s.hasRoom then
      (s.queue .pictureRequest).setRefresh (some { x with phase := .waiting, attempt := 2, wait := s.now })
    else s.setRefresh (some { x with phase := .waiting, attempt := 2, repeatOwed := true }) :=
  if_pos (beq_iff_eq.mpr h)

theorem repeatWork_marked (h : s.second.repeatWork = true) :
    s.repeatWork = State.repeatRequest { s with second := { s.second with repeatWork := false } } := if_pos h

theorem repeatRequest_idle (h : s.transfer.refresh = none ∨ 8 ≤ s.tx.urgent.length ∨
    ∃ x, s.transfer.refresh = some x ∧ x.repeatOwed = false) : s.repeatRequest = s := by
  unfold State.repeatRequest
  split
  · rfl
  · next x hx =>
    refine if_neg ?_
    obtain h | h | ⟨y, hy, howed⟩ := h
    · simp [h] at hx
    · simp [hasRoom_eq_false h]
    · obtain rfl : y = x := by simpa [hx] using hy.symm
      simp [howed]

/-- Settles O51: the tests in each phase, the failure in its four cases, the owed request, and one re-badge claim. -/
theorem refreshTestsAndRebadge : Obligations.RefreshTestsAndRebadge := by
  unfold Obligations.RefreshTestsAndRebadge
  intro s
  refine ⟨fun hnone => ⟨congrArg _ (?_ : s.refreshWaitTest = s), congrArg _ (?_ : s.refreshStallTest = s)⟩,
    fun x hx hphase => ⟨congrArg _ (?_ : s.refreshStallTest = s), fun h => congrArg _ (?_ : s.refreshWaitTest = s)⟩,
    fun x n f hx hphase => ⟨congrArg _ (?_ : s.refreshWaitTest = s), fun h => congrArg _ (?_ : s.refreshStallTest = s)⟩,
    fun x c hx hc => ⟨fun h1 hnot hroom => ?_, fun h1 hnot hfull => ?_, fun h1 hqueued => ?_, fun h1 => ?_⟩,
    fun h => congrArg _ (if_neg (by simp [h])), fun x h hx howed hroom => congrArg _ (?_ : s.repeatWork = _),
    fun h hidle => congrArg _ (?_ : s.repeatWork = _), fun h => congrArg _ (?_ : s.rebadgeOne = s),
    fun a ha hbit hfree hfirst hroom => congrArg _ (?_ : s.rebadgeOne = _)⟩
  · rw [State.refreshWaitTest, hnone]
  · rw [State.refreshStallTest, hnone]
  · rw [State.refreshStallTest, hx]
    dsimp only
    rw [hphase]
  · rw [State.refreshWaitTest, hx]
    dsimp only
    rw [hphase]
    refine if_neg ?_
    obtain h | h := h
    · simp [h]
    · simp only [Bool.and_eq_true, decide_eq_true_eq, not_and, Nat.not_le]
      exact fun _ => h
  · rw [State.refreshWaitTest, hx]
    dsimp only
    rw [hphase]
  · rw [State.refreshStallTest, hx]
    dsimp only
    rw [hphase]
    exact if_neg (Nat.not_le.mpr h)
  · rw [exec_refreshFailed hx hc, refreshFailed_first h1, requestQueued_eq_false hnot, hasRoom_eq_true hroom]
    rfl
  · rw [exec_refreshFailed hx hc, refreshFailed_first h1, requestQueued_eq_false hnot, hasRoom_eq_false hfull]
    rfl
  · rw [exec_refreshFailed hx hc, refreshFailed_first h1, (requestQueued_iff s).mpr hqueued]
    rfl
  · rw [exec_refreshFailed hx hc, State.refreshFailed, if_neg (by simpa using h1)]
    rfl
  · rw [repeatWork_marked h]
    unfold State.repeatRequest
    dsimp only
    rw [hx]
    refine (if_pos ?_).trans rfl
    rw [howed]
    exact hasRoom_eq_true hroom
  · rw [repeatWork_marked h]
    exact repeatRequest_idle hidle
  · obtain hzero | hfull := h
    · refine rebadgeOne_nil ?_
      rw [unclaimed, hzero]
      rfl
    · exact rebadgeOne_full hfull
  · have hnext : s.rebadgeNext = some a.toNat := by
      unfold State.rebadgeNext areaList
      rw [List.find?_filter, List.find?_range_eq_some]
      refine ⟨by simp [hbit, hfree], List.mem_range.mpr ha, fun b hb => ?_⟩
      cases hbit' : s.handover.rebadge.getLsbD b with
      | false => rfl
      | true => simpa using hfirst b hb hbit'
    obtain ⟨l, hl⟩ := List.head?_eq_some_iff.mp ((rebadgeNext_eq s).symm.trans hnext)
    rw [rebadgeOne_cons hl hroom, ← nextSerial_eq]
    simp only [rebadged, rebadgeClaim, List.map_cons, List.map_nil, BitVec.ofNat_toNat, BitVec.setWidth_eq]
    rfl

/-! ### The orphan grace -/

/-- A state in which an ORPHANED area's grace has run out. -/
def graceOut (a : Nat) (n : Station) (b : Badge) (since : Sec) (s : State) : State :=
  { s with areas := s.areas.set a { s.area a with hold := .orphaned n b since .runOut } }

theorem graceOut_field {α : Type} (f : Area → α) {a : Nat} {n : Station} {b : Badge} {since : Sec}
    (hf : f { s.area a with hold := .orphaned n b since .runOut } = f (s.area a)) (c : Nat) :
    f ((graceOut a n b since s).area c) = f (s.area c) :=
  area_eq_of_map (map_set_area hf) c

theorem graceOut_area (a c : Nat) {n : Station} {b : Badge} {since : Sec} {g : Grace}
    (h : (s.area a).hold = .orphaned n b since g) :
    ((graceOut a n b since s).area c).config = (s.area c).config ∧
      ((graceOut a n b since s).area c).serial = (s.area c).serial ∧
      ((graceOut a n b since s).area c).flood = (s.area c).flood ∧ (graceOut a n b since s).holds c = s.holds c := by
  refine ⟨graceOut_field Area.config rfl c, graceOut_field Area.serial rfl c, graceOut_field Area.flood rfl c, ?_⟩
  by_cases hc : a = c
  · subst hc
    have hlt : a < s.areas.length := by
      refine Classical.byContradiction fun hge => ?_
      simp [State.area, Nat.le_of_not_lt hge, Area.initial] at h
    rw [holds_of_orphaned h]
    exact holds_of_orphaned (congrArg Area.hold (State.area_setArea_self s a _ hlt))
  · unfold State.holds
    rw [show (graceOut a n b since s).area c = s.area c from State.area_setArea_other s a c _ hc]
    rfl

theorem permits_congr {x : Operator} {act : Action} {a : Nat} (hconfig : (t.area a).config = (s.area a).config)
    (hflood : (t.area a).flood = (s.area a).flood) (hholds : t.holds a = s.holds a) (hclock : t.clock = s.clock) :
    t.permits x act a = s.permits x act a := by
  unfold State.permits State.effectiveRank State.requiredRank State.longWatch State.since State.inFlood
  rw [hconfig, hflood, hholds, hclock]

theorem graceRunOut_over {a : Nat} {n : Station} {b : Badge} {since : Sec}
    (h : (s.area a).hold = .orphaned n b since .running) (hlate : 10 ≤ (s.clock.now - since).toNat) : s.graceRunOut a =
      if s.isStandby a then (graceOut a n b since s).takeOver a
      else (graceOut a n b since s).latchIf s.rankZero .takeoverNeeded := by
  have hover : s.graceOver a = true := by
    unfold State.graceOver
    rw [h]
    exact decide_eq_true hlate
  have hset : s.setRunOut a = graceOut a n b since s := by
    unfold State.setRunOut
    rw [h]
    rfl
  unfold State.graceRunOut
  rw [hset]
  exact if_pos hover

theorem canTakeOver_iff {a : Nat} {x : Operator} (hactive : Active s) (hx : s.signOn.active = some x) :
    s.canTakeOver a = true ↔
      x.qualified.getLsbD a = true ∧ s.permits x .take a = true ∧ s.tx.urgent.length < 8 := by
  have hqualified : s.qualified a = x.qualified.getLsbD a := by simp [State.qualified, hx, Operator.qualifiedFor]
  have hroom : s.hasRoom = decide (s.tx.urgent.length < 8) := rfl
  rw [State.canTakeOver, hqualified, permitted_eq hx, isActive_iff.mpr hactive, hroom]
  simp [and_assoc]

theorem canTakeOver_graceOut_iff {a : Nat} {n : Station} {b : Badge} {since : Sec} {g : Grace} {x : Operator}
    (h : (s.area a).hold = .orphaned n b since g) (hactive : Active s) (hx : s.signOn.active = some x) :
    (graceOut a n b since s).canTakeOver a = true ↔
      x.qualified.getLsbD a = true ∧ s.permits x .take a = true ∧ s.tx.urgent.length < 8 := by
  obtain ⟨hconfig, -, hflood, hholds⟩ := graceOut_area a a h
  rw [← permits_congr (x := x) (act := .take) hconfig hflood hholds rfl]
  exact canTakeOver_iff (s := graceOut a n b since s) hactive hx

theorem canTakeOver_eq_false {a : Nat} (h : ¬Active s ∨ s.signOn.active = none) : s.canTakeOver a = false := by
  unfold State.canTakeOver
  obtain h | h := h
  · rw [← isActive_iff, Bool.not_eq_true] at h
    rw [h]
    rfl
  · simp [State.qualified, h]

theorem rankZero_iff (s : State) : s.rankZero = true ↔ ∃ x, s.signOn.active = some x ∧ x.rank = 0 := by
  simp only [State.rankZero, Option.any_eq_true, beq_iff_eq]

theorem takeOver_inFlight {a : Nat} (h : s.inFlight a ≠ none) : s.takeOver a = s :=
  if_pos (Option.isSome_iff_ne_none.mpr h)

theorem takeOver_can {a : Nat} (h : s.inFlight a = none) (hcan : s.canTakeOver a = true) :
    s.takeOver a = s.queue (.claim 0x02 (BitVec.ofNat 8 a) (s.nextSerial a) s.activeBadge) := by
  rw [State.takeOver, h, hcan]
  rfl

theorem takeOver_cannot {a : Nat} (h : s.inFlight a = none) (hcan : s.canTakeOver a = false) :
    s.takeOver a = s.latch .takeoverNeeded := by
  rw [State.takeOver, h, hcan]
  rfl

theorem exec_orphanGraceRunOut (s : State) (a : Byte) :
    exec (.orphanGraceRunOut a) s = .next (s.graceRunOut a.toNat) := rfl

/-- Settles O46: short of 10 s nothing; after it the grace is RUN OUT, and the standby station or a rank-0 station
acts. -/
theorem orphanGraceRunsOut : Obligations.OrphanGraceRunsOut := by
  unfold Obligations.OrphanGraceRunsOut
  intro s a
  simp only [exec_orphanGraceRunOut]
  refine ⟨fun h => congrArg _ (if_neg ?_), fun n b since u hhold hlate hu => ?_⟩
  · unfold State.graceOver
    split
    · next n b since hhold => exact fun hover => absurd (of_decide_eq_true hover) (Nat.not_le.mpr (h n b since hhold))
    all_goals exact Bool.false_ne_true
  · obtain rfl : u = graceOut a.toNat n b since s := hu
    obtain ⟨-, hserial, -⟩ := graceOut_area a.toNat a.toNat hhold
    rw [graceRunOut_over hhold hlate]
    refine ⟨fun hstandby hflight => ?_, fun hstandby hflight hidle => ?_,
      fun x hstandby hflight hactive hx => ⟨fun hcan => ?_, fun hcannot => ?_⟩, fun hstandby hrank => ?_,
      fun hstandby hrank => ?_⟩
    · rw [if_pos hstandby, takeOver_inFlight (s := graceOut _ _ _ _ s) hflight]
    · rw [if_pos hstandby, takeOver_cannot (s := graceOut _ _ _ _ s) hflight (canTakeOver_eq_false hidle)]
      rfl
    · have hyes := (canTakeOver_graceOut_iff hhold hactive hx).mpr hcan
      rw [if_pos hstandby, takeOver_can (s := graceOut _ _ _ _ s) hflight hyes, State.nextSerial, hserial]
      rw [← nextSerial_eq, activeBadge_eq (s := graceOut _ _ _ _ s) hx, BitVec.ofNat_toNat, BitVec.setWidth_eq]
      rfl
    · have hno : (graceOut a.toNat n b since s).canTakeOver a.toNat = false := by
        rw [← Bool.not_eq_true, canTakeOver_graceOut_iff hhold hactive hx]
        rintro ⟨hq, hp, hroom⟩
        obtain h | h | h := hcannot
        · simp [hq] at h
        · simp [hp] at h
        · exact absurd hroom (Nat.not_lt.mpr h)
      rw [if_pos hstandby, takeOver_cannot (s := graceOut _ _ _ _ s) hflight hno]
      rfl
    · rw [if_neg (by simp [hstandby]), State.latchIf, if_pos ((rankZero_iff s).mpr hrank)]
      rfl
    · have hzero : s.rankZero = false := by
        rw [← Bool.not_eq_true, rankZero_iff]
        exact fun ⟨x, hx, h⟩ => hrank x hx h
      rw [if_neg (by simp [hstandby]), State.latchIf, hzero]
      rfl

end Sys2Proof.Answers

/-! PROOF. The dark console (R123, R158), the end of the listen (R149), and the lines (R143, R144). -/

namespace Sys2Proof.Answers

open Sys2Proof.Machine Sys2Proof.Claims Sys2Proof.Keep

variable {c : Instr} {s t u : State}

/-! ### The dark console -/

/-- A state whose console has gone dark, before the notice to the offers. -/
def darkened (s : State) : State := { s with node := { s.node with dark := true } }

theorem goDark_lit (h : s.node.dark = true ∨ (s.clock.now - s.node.lastCheckIn).toNat < 5) : s.goDark = s := by
  refine if_neg ?_
  unfold State.darkDue
  obtain h | h := h
  · simp [h]
  · simp only [Bool.and_eq_true, decide_eq_true_eq, not_and, Nat.not_le]
    exact fun _ => h

theorem goDark_due (hlit : s.node.dark = false) (h : 5 ≤ (s.clock.now - s.node.lastCheckIn).toNat) :
    s.goDark = (darkened s).bySecond State.ownDark := by
  refine if_pos ?_
  rw [State.darkDue, hlit]
  exact decide_eq_true h

theorem ownDarkOut_offered {o : OutOffer} (h : s.handover.outgoing = .offered o) :
    s.ownDarkOut = s.dropOffer o .selfDark := by
  rw [State.ownDarkOut, h]

theorem ownDarkOut_other (h : ∀ o, s.handover.outgoing ≠ .offered o) : s.ownDarkOut = s := by
  unfold State.ownDarkOut
  split
  · next o ho => exact absurd ho (h o)
  · rfl
  · rfl

theorem ownDarkIn_remote {o : InOffer} (h : s.handover.incoming = .presented o) (hn : s.node.number ≠ some o.origin) :
    s.ownDarkIn = (s.queueIfRoom (answerDecline o.origin o.number 0x03)).endIn o .selfDark := by
  unfold State.ownDarkIn
  rw [h]
  exact if_neg (by simp [(isOwn_eq_false_iff s _).mpr hn])

theorem ownDarkIn_other (h : ∀ o, s.handover.incoming = .presented o → s.node.number = some o.origin) :
    s.ownDarkIn = s := by
  unfold State.ownDarkIn
  split
  · next o ho => exact if_pos ((isOwn_iff s _).mpr (h o ho))
  · rfl
  · rfl

theorem ownDarkIn_keeps (s : State) : s.ownDarkIn.handover.outgoing = s.handover.outgoing ∧
    s.ownDarkIn.handover.scheduled = s.handover.scheduled ∧
    s.ownDarkIn.handover.fireBySecond = s.handover.fireBySecond := by
  unfold State.ownDarkIn
  split
  · split
    · exact ⟨rfl, rfl, rfl⟩
    · unfold State.queueIfRoom State.endIn
      split <;> simp
  · exact ⟨rfl, rfl, rfl⟩
  · exact ⟨rfl, rfl, rfl⟩

theorem goDark_offered {o : OutOffer} {v w : State} (hlit : s.node.dark = false)
    (h : 5 ≤ (s.clock.now - s.node.lastCheckIn).toNat) (ho : s.handover.outgoing = .offered o)
    (hw : (darkened s).dropOffer o .selfDark = w) (hv : w.ownDarkIn = v) :
    s.goDark = { v with handover := { v.handover with fireBySecond := firesBySecond s } } := by
  obtain ⟨hout, hscheduled, hmark⟩ := dropOffer_handover_ends o .selfDark (darkened s)
  obtain ⟨hout', hscheduled', hmark'⟩ := ownDarkIn_keeps w
  have hown : (darkened s).ownDark = v := by
    rw [State.ownDark, ownDarkOut_offered (s := darkened s) ho, hw, hv]
  rw [hw] at hout hscheduled hmark
  rw [hv] at hout' hscheduled' hmark'
  rw [goDark_due hlit h, bySecond_ended (by rw [hown, hout', hout]) (by rw [hown, hscheduled', hscheduled])
    (by rw [hown, hmark', hmark]), hown]
  rfl

theorem dropOffer_withdrawn {o : OutOffer} (hn : s.node.number ≠ some o.target) (hroom : s.tx.urgent.length < 8)
    (e : OfferEnd) : s.dropOffer o e = State.endOut o e { s with tx := queued s (.withdraw o.number o.target) } := by
  rw [dropOffer_remote hn, queueIfRoom_room hroom]

theorem dropOffer_full {o : OutOffer} (hn : s.node.number ≠ some o.target) (hfull : 8 ≤ s.tx.urgent.length)
    (e : OfferEnd) : s.dropOffer o e = s.endOut o e := by
  rw [dropOffer_remote hn, queueIfRoom_full hfull]

theorem ownDarkIn_declined {o : InOffer} (h : s.handover.incoming = .presented o) (hn : s.node.number ≠ some o.origin)
    (hroom : s.tx.urgent.length < 8) : s.ownDarkIn =
      State.endIn o .selfDark { s with tx := queued s (.answer o.origin o.number 0x02 0x03 0) } := by
  rw [ownDarkIn_remote h hn, queueIfRoom_room hroom]
  rfl

theorem ownDarkIn_full {o : InOffer} (h : s.handover.incoming = .presented o) (hn : s.node.number ≠ some o.origin)
    (hfull : 8 ≤ s.tx.urgent.length) : s.ownDarkIn = s.endIn o .selfDark := by
  rw [ownDarkIn_remote h hn, queueIfRoom_full hfull]

theorem goDark_other (hlit : s.node.dark = false) (h : 5 ≤ (s.clock.now - s.node.lastCheckIn).toNat)
    (ho : ∀ o, s.handover.outgoing ≠ .offered o) : s.goDark = (darkened s).ownDarkIn := by
  obtain ⟨hout, hscheduled, -⟩ := ownDarkIn_keeps (darkened s)
  have hown : (darkened s).ownDark = (darkened s).ownDarkIn := by
    rw [State.ownDark, ownDarkOut_other (s := darkened s) ho]
  rw [goDark_due hlit h, bySecond_same (by rw [hown, hout]) (by rw [hown, hscheduled]), hown]

theorem plus_plus (x : BitVec 24) (f : Flag) : plus (plus x f) f = plus x f := by
  rw [plus, plus, BitVec.or_assoc, BitVec.or_self]

/-- The dark console ends both offers with one flag. -/
theorem endIn_endOut_selfDark (s : State) (o : OutOffer) (i : InOffer) : (s.endOut o .selfDark).endIn i .selfDark =
    { s with
      handover := { s.handover with
        outgoing := .idle, lastOut := some ⟨o.number, o.target, .selfDark⟩
        incoming := .idle, lastIn := some ⟨i.number, i.origin, .selfDark⟩ }
      port := flagged s .handoverFailed } := by
  rw [flagged, ← plus_plus]
  rfl

/-! ### The end of the listen -/

theorem buildPresence_idle (h : s.bus.sending = none) : s.buildPresence = { s with
    node := { s.node with listStart := s.claimList.2.headD 0 }
    tx := { s.tx with presence := some ⟨⟨.presence s.presenceBody, none⟩, .none⟩ } } := by
  unfold State.buildPresence State.attempting
  rw [h]
  rfl

theorem joinMark_of_now (h : s.node.activeSince = s.clock.now) : s.presenceBody.joinMark = true := by
  simp [State.presenceBody, State.since, elapsed, h]

/-- A state that has just become ACTIVE, with the presence of the end of its listen. -/
def entered (s : State) : State :=
  State.buildPresence { s with node := { s.node with mode := .active, activeSince := s.clock.now } }

theorem entered_eq (h : s.bus.sending = none) : ∃ start p, entered s = { s with
    node := { s.node with mode := .active, activeSince := s.clock.now, listStart := start }
    tx := { s.tx with presence := some p } } :=
  ⟨_, _, buildPresence_idle (s := { s with node := { s.node with mode := .active, activeSince := s.clock.now } }) h⟩

theorem startRefresh_alone (h : s.anyPresent = false) : s.startRefresh = s.setValid.latch .pictureDone :=
  if_neg (by simp [h])

theorem startRefresh_joined (h : s.anyPresent = true) (hroom : s.tx.urgent.length < 8) : s.startRefresh = { s with
    tx := queued s .pictureRequest
    transfer := { s.transfer with
      pendingEvents := [], refresh := some ⟨.waiting, 1, s.clock.now, false, 0⟩ } } := by
  refine (if_pos h).trans ?_
  rw [queueIfRoom_room hroom]
  rfl

theorem endListen_listening (h : s.node.mode ≠ .joining ∨ (s.clock.now - s.node.listenStart).toNat < 3) :
    s.endListen = s := by
  refine if_neg ?_
  obtain h | h := h
  · simp [h]
  · simp only [Bool.and_eq_true, decide_eq_true_eq, not_and, Nat.not_le]
    exact fun _ => h

theorem endListen_over (hmode : s.node.mode = .joining) (h : 3 ≤ (s.clock.now - s.node.listenStart).toNat) :
    s.endListen = (entered s).startRefresh.buildPresence := by
  refine if_pos ?_
  rw [hmode]
  exact decide_eq_true h

theorem anyPresent_iff (s : State) : s.anyPresent = true ↔ ∃ r, some r ∈ s.peers ∧ r.state = .present := by
  simp only [State.anyPresent, List.any_eq_true]
  constructor
  · rintro ⟨x, hx, hp⟩
    cases x with
    | none => cases hp
    | some r => exact ⟨r, hx, by simpa using hp⟩
  · rintro ⟨r, hr, hp⟩
    exact ⟨some r, hr, by simpa using hp⟩

/-- Every entry of the peer table is the record of a station number. -/
theorem peer_of_mem {r : PeerRecord} (hlen : s.peers.length = 16) (h : some r ∈ s.peers) :
    ∃ n, s.peer n = some r := by
  obtain ⟨i, hi, hr⟩ := List.mem_iff_getElem.mp h
  refine ⟨BitVec.ofNat 8 (i + 1), ?_⟩
  have hnum : (BitVec.ofNat 8 (i + 1)).toNat = i + 1 := by
    rw [BitVec.toNat_ofNat]
    omega
  have hok : stationOk (BitVec.ofNat 8 (i + 1)) = true := (stationOk_iff _).mpr (by omega)
  rw [State.peer, if_pos hok, hnum]
  simp [hi, hr]

/-! ### The lines -/

theorem recoverLine_idle {l : LineName} (h : ∀ f, (s.line l).state = .disturbed f → (s.clock.now - f).toNat < 60) :
    s.recoverLine l = s := by
  unfold State.recoverLine
  split
  · next f hf => exact if_neg (Nat.not_le.mpr (h f hf))
  · rfl
  · rfl

theorem recoverLine_good {l : LineName} {f : Sec} (hf : (s.line l).state = .disturbed f)
    (h : 60 ≤ (s.clock.now - f).toNat) : s.recoverLine l =
      { s.setLine l { s.line l with state := .good } with port := flagged s .lineFault } := by
  unfold State.recoverLine
  rw [hf]
  refine (if_pos h).trans ?_
  rw [State.setLineState, hf]
  cases l <;> rfl

theorem line_code_ne_silent {x : LineState} (h : x ≠ .silent) : (x.code != LineState.silent.code) = true := by
  cases x with
  | silent => exact absurd rfl h
  | good => rfl
  | disturbed f => rfl

theorem silenceLine_due {l : LineName} (h : (s.line l).silentDue = true) (hs : (s.line l).state ≠ .silent) :
    s.silenceLine l =
      { s.setLine l { s.line l with state := .silent, silentDue := false } with port := flagged s .lineFault } := by
  refine (if_pos h).trans ?_
  cases l with
  | a => exact if_pos (line_code_ne_silent hs)
  | b => exact if_pos (line_code_ne_silent hs)

theorem exec_consoleDark (s : State) : exec .consoleDark s = .next s.goDark := rfl

theorem exec_listenEnd (s : State) : exec .listenEnd s = .next s.endListen := rfl

theorem exec_lineRecovery (s : State) (l : LineName) : exec (.lineRecovery l) s = .next (s.recoverLine l) := rfl

theorem exec_lineSilent (s : State) (l : LineName) : exec (.lineSilent l) s = .next (s.silenceLine l) := rfl

/-- Settles O48: each event on both sides of its time; the dark console ends the outgoing offer first. -/
theorem consoleListenAndLines : Obligations.ConsoleListenAndLines := by
  unfold Obligations.ConsoleListenAndLines
  intro s
  simp only [exec_consoleDark, exec_listenEnd, exec_lineRecovery, exec_lineSilent]
  refine ⟨fun h => congrArg _ (goDark_lit h), fun o hlit hdue hout hn => ?seat,
    fun o hlit hdue hout hin hn u hu => ?declined, fun hlit hdue => ⟨fun hout hin => ?nothing, fun o u hout hn hu =>
      ⟨fun hin => ?withdrawn, fun i v hin hi hv => ?both⟩⟩,
    fun h => congrArg _ (endListen_listening h), fun hmode hlate hidle => ⟨fun hlen hlost => ?alone,
      fun n r hr hpresent hroom => ?joined⟩,
    fun l h => congrArg _ (recoverLine_idle h), fun l f hf h => congrArg _ (recoverLine_good hf h),
    fun l h => congrArg _ (if_neg (by simp [h])), fun l h hs => congrArg _ (silenceLine_due h hs)⟩
  case seat =>
    have hseat := (dropOffer_seat (s := darkened s) hn .selfDark).trans (endSeat_eq (s := darkened s) hn _ _)
    refine congrArg _ ((goDark_offered hlit hdue hout hseat (ownDarkIn_other ?_)).trans rfl)
    exact fun x h => Incoming.noConfusion h
  case declined =>
    rw [goDark_other hlit hdue hout, hu]
    exact ⟨fun hroom => congrArg _ ((ownDarkIn_declined (s := darkened s) hin hn hroom).trans rfl),
      fun hfull => congrArg _ ((ownDarkIn_full (s := darkened s) hin hn hfull).trans rfl)⟩
  case nothing =>
    rw [goDark_other hlit hdue hout, ownDarkIn_other (s := darkened s) hin]
    rfl
  case withdrawn =>
    subst hu
    exact ⟨fun hroom => congrArg _ ((goDark_offered hlit hdue hout (dropOffer_withdrawn (s := darkened s) hn hroom _)
        (ownDarkIn_other hin)).trans rfl),
      fun hfull => congrArg _ ((goDark_offered hlit hdue hout (dropOffer_full (s := darkened s) hn hfull _)
        (ownDarkIn_other hin)).trans rfl)⟩
  case both =>
    subst hv hu
    refine ⟨fun hroom => ?_, fun hseven => ?_, fun hfull => ?_⟩
    · have hwithdrawn := dropOffer_withdrawn (s := darkened s) hn (Nat.lt_succ_of_lt hroom) .selfDark
      have hdeclined := ownDarkIn_declined (s := State.endOut o .selfDark { darkened s with
        tx := queued (darkened s) (.withdraw o.number o.target) }) hin hi (by
          show (s.tx.urgent ++ [_]).length < 8
          rw [List.length_append, List.length_singleton]
          omega)
      have hended := endIn_endOut_selfDark { darkened s with
        tx := { s.tx with urgent := (s.tx.urgent ++ [⟨.withdraw o.number o.target, none⟩]) ++
          [⟨.answer i.origin i.number 0x02 0x03 0, none⟩] } } o i
      rw [goDark_offered hlit hdue hout hwithdrawn (hdeclined.trans hended), List.append_assoc]
      rfl
    · have hwithdrawn := dropOffer_withdrawn (s := darkened s) hn (hseven ▸ Nat.lt_succ_self 7) .selfDark
      have hdeclined := ownDarkIn_full (s := State.endOut o .selfDark { darkened s with
        tx := queued (darkened s) (.withdraw o.number o.target) }) hin hi (by
          show 8 ≤ (s.tx.urgent ++ [_]).length
          rw [List.length_append, List.length_singleton]
          omega)
      rw [goDark_offered hlit hdue hout hwithdrawn (hdeclined.trans (endIn_endOut_selfDark _ o i))]
      rfl
    · have hwithdrawn := dropOffer_full (s := darkened s) hn hfull .selfDark
      have hdeclined := ownDarkIn_full (s := (darkened s).endOut o .selfDark) hin hi hfull
      rw [goDark_offered hlit hdue hout hwithdrawn (hdeclined.trans (endIn_endOut_selfDark _ o i))]
      rfl
  case alone =>
    have hnone : s.anyPresent = false := by
      rw [← Bool.not_eq_true, anyPresent_iff]
      rintro ⟨r, hr, hp⟩
      obtain ⟨n, hn⟩ := peer_of_mem hlen hr
      rw [hlost n r hn] at hp
      cases hp
    obtain ⟨start, p, hentered⟩ := entered_eq hidle
    have hsending : (entered s).bus.sending = none := by rw [hentered]; exact hidle
    have hentry : (entered s).anyPresent = false := by rw [hentered]; exact hnone
    rw [endListen_over hmode hlate, startRefresh_alone hentry,
      buildPresence_idle (s := (entered s).setValid.latch .pictureDone) hsending, hentered]
    refine ⟨_, _, ?_, ?_, ?_, ?_, rfl⟩
    · exact joinMark_of_now rfl
    all_goals rfl
  case joined =>
    have hany : s.anyPresent = true := (anyPresent_iff s).mpr ⟨r, peer_mem hr, hpresent⟩
    obtain ⟨start, p, hentered⟩ := entered_eq hidle
    have hsending : (entered s).bus.sending = none := by rw [hentered]; exact hidle
    have hentry : (entered s).anyPresent = true := by rw [hentered]; exact hany
    have hplace : (entered s).tx.urgent.length < 8 := by rw [hentered]; exact hroom
    rw [endListen_over hmode hlate, startRefresh_joined hentry hplace, buildPresence_idle (by exact hsending), hentered]
    refine ⟨_, _, ?_, ?_, ?_, ?_, rfl⟩
    · exact joinMark_of_now rfl
    all_goals rfl

end Sys2Proof.Answers

/-! PROOF. The calendar's instants and the scheduled offer (R109, R110, R129). -/

namespace Sys2Proof.Answers

open Sys2Proof.Machine Sys2Proof.Claims Sys2Proof.Keep

variable {c : Instr} {s t u : State}

/-! ### The instants -/

theorem dueWork_unmarked (h : s.second.due = false) : s.dueWork = s := if_neg (by simp [h])

theorem startWork_unmarked (hdue : s.second.due = false) (h : s.second.start = false) : s.startWork = s := by
  rw [State.startWork, dueWork_unmarked hdue]
  exact if_neg (by simp [h])

theorem startWork_marked (hdue : s.second.due = false) (h : s.second.start = true) :
    s.startWork = State.bySecond State.reachStart { s with second := { s.second with start := false } } := by
  rw [State.startWork, dueWork_unmarked hdue]
  exact if_pos h

theorem overdueWork_unmarked (hdue : s.second.due = false) (hstart : s.second.start = false)
    (h : s.second.overdue = false) : s.overdueWork = s := by
  rw [State.overdueWork, startWork_unmarked hdue hstart]
  exact if_neg (by simp [h])

theorem overdueWork_marked (hdue : s.second.due = false) (hstart : s.second.start = false)
    (h : s.second.overdue = true) :
    s.overdueWork = State.testOverdue { s with second := { s.second with overdue := false } } := by
  rw [State.overdueWork, startWork_unmarked hdue hstart]
  exact if_pos h

theorem isOverdue_state_iff (s : State) : s.isOverdue = true ↔
    ∃ x a, s.signOn.active = some x ∧ x.shift < s.clock.shift ∧ a < 32 ∧ s.holds a = true := by
  simp only [State.isOverdue, Bool.and_eq_true, Option.any_eq_true, decide_eq_true_eq, holdsAny_iff]
  exact ⟨fun ⟨⟨x, hx, hlt⟩, a, ha, hholds⟩ => ⟨x, a, hx, hlt, ha, hholds⟩,
    fun ⟨x, a, hx, hlt, ha, hholds⟩ => ⟨⟨x, hx, hlt⟩, a, ha, hholds⟩⟩

/-- Work that brings an ARMED offer to WAITING marks its firing where the outgoing offer is IDLE (R129). -/
theorem bySecond_reached {f : State → State} {o : SchedOffer} (hs : ∀ x, s.handover.scheduled ≠ .waiting x)
    (hf : (f s).handover = { s.handover with scheduled := .waiting o }) : (s.bySecond f).handover = { s.handover with
      scheduled := .waiting o, fireBySecond := s.handover.fireBySecond || s.handover.outgoing == .idle } := by
  have hbefore : s.dueToFire = false := by
    rw [dueToFire_eq, waits]
    cases h : s.handover.scheduled
    case waiting x => exact absurd h (hs x)
    all_goals exact Bool.and_false _
  have hafter : (f s).dueToFire = (s.handover.outgoing == .idle) := by
    rw [dueToFire_eq, waits, State.outIdle, hf]
    exact Bool.and_true _
  rw [State.bySecond_handover, hbefore, hafter, hf, Bool.not_false, Bool.and_true]

theorem reachStart_frame (s : State) : s.reachStart = { s with
    clock := { s.clock with shift := s.clock.pattern.shiftOf s.clock.millTime, inLead := false }
    handover := s.reachStart.handover } := by
  apply state_ext <;> simp [State.reachStart, State.setClock]

theorem reachStart_unarmed (h : ∀ o, s.handover.scheduled ≠ .armed o) : s.reachStart.handover = s.handover := by
  rw [State.reachStart, startNotice_unarmed (s := s.setClock _) h]
  rfl

theorem reachStart_armed {o : SchedOffer} (h : s.handover.scheduled = .armed o) : s.reachStart.handover =
    if o.fire = .nextShiftStart then { s.handover with scheduled := .waiting o } else s.handover :=
  startNotice_armed (s := s.setClock _) h

/-- Work that leaves the handover controller leaves it with the second event's mark, too. -/
theorem bySecond_handover_same {f : State → State} (h : (f s).handover = s.handover) :
    (s.bySecond f).handover = s.handover := by
  rw [bySecond_same (congrArg Handover.outgoing h) (congrArg Handover.scheduled h), h]

/-- What the start notice makes of the schedule, with the mark of a firing (R109, R129). -/
theorem bySecond_reachStart_handover (s : State) : (s.bySecond State.reachStart).handover = { s.handover with
      scheduled := match s.handover.scheduled with
        | .armed o => if o.fire = .nextShiftStart then .waiting o else .armed o
        | x => x
      fireBySecond := s.handover.fireBySecond || (s.handover.outgoing == .idle && match s.handover.scheduled with
        | .armed o => o.fire == .nextShiftStart
        | _ => false) } := by
  cases hs : s.handover.scheduled with
  | empty =>
    rw [bySecond_handover_same (reachStart_unarmed (by simp [hs]))]
    simp [← hs]
  | waiting o =>
    rw [bySecond_handover_same (reachStart_unarmed (by simp [hs]))]
    simp [← hs]
  | armed o =>
    by_cases hfire : o.fire = .nextShiftStart
    · rw [bySecond_reached (by simp [hs]) ((reachStart_armed hs).trans (if_pos hfire))]
      simp [hfire]
    · rw [bySecond_handover_same ((reachStart_armed hs).trans (if_neg hfire))]
      simp [beq_eq_false_iff_ne.mpr hfire, hfire, ← hs]

theorem bySecond_eq (f : State → State) (s : State) :
    s.bySecond f = { f s with handover := (s.bySecond f).handover } := by
  unfold State.bySecond
  dsimp only
  split <;> rfl

theorem bySecond_reachStart (s : State) : s.bySecond State.reachStart = { s with
    clock := { s.clock with shift := s.clock.pattern.shiftOf s.clock.millTime, inLead := false }
    handover := (s.bySecond State.reachStart).handover } := by
  apply state_ext <;> simp [State.reachStart, State.setClock]

theorem reachSchedule_eq (s : State) : s.reachSchedule = { s with handover := s.reachSchedule.handover } := by
  unfold State.reachSchedule
  split
  · split <;> rfl
  · rfl
  · rfl

theorem scheduleWork_marked (h : s.second.schedule = true) :
    s.scheduleWork = State.bySecond State.reachSchedule { s with second := { s.second with schedule := false } } :=
  if_pos h

/-! ### The firing of the scheduled offer -/

theorem any_areaList (m : AreaSet) (p : Nat → Bool) :
    (areaList m).any p = (List.range 32).any fun a => m.getLsbD a && p a := by
  rw [areaList, List.any_filter]

theorem isActive_eq_not_iff (s : State) : ((!s.isActive) = true) = (s.node.mode ≠ .active) := by
  simp [State.isActive]

theorem seated_not_iff (s : State) : ((!s.seated) = true) = (s.signOn.active = none) := by
  simp [State.seated]

theorem noRoom_eq (s : State) : (s.hasRoom = false) = (8 ≤ s.tx.urgent.length) := by
  rw [State.hasRoom, decide_eq_false_iff_not, Nat.not_lt]
  rfl

theorem target_invalid_iff (s : State) (n : Station) (m : AreaSet) :
    ((!stationOk n || (!s.isOwn n && m == 0)) = true) =
      (n.toNat < 1 ∨ 16 < n.toNat ∨ (s.node.number ≠ some n ∧ m = 0)) := by
  have hown : s.isOwn n = false ↔ s.node.number ≠ some n := isOwn_eq_false_iff s n
  simp only [Bool.or_eq_true, Bool.not_eq_true', stationOk_eq_false_iff, Bool.and_eq_true, hown, beq_iff_eq,
    Classical.not_and_iff_not_or_not, Nat.not_le, or_assoc]

theorem offers_busy_iff (s : State) (n : Station) :
    ((!s.outIdle || (s.isOwn n && !s.inIdle)) = true) =
      (s.handover.outgoing ≠ .idle ∨ (s.node.number = some n ∧ s.handover.incoming ≠ .idle)) := by
  simp [State.outIdle, State.inIdle, isOwn_iff]

/-- The checks of an offer as one table, and as the statement tells them in turn. -/
theorem offerFails_eq (s : State) (flooded : Nat → Bool) (n : Station) (m : AreaSet) :
    offerFails s flooded n m = s.offerRefusalIn flooded n m := by
  unfold offerFails State.offerRefusalIn State.offerChecks
  simp only [List.cons_append, List.nil_append, firstFail_cons, isActive_eq_not_iff, target_invalid_iff,
    seated_not_iff, offers_busy_iff]
  by_cases hown : s.node.number = some n
  · rw [if_pos ((isOwn_iff s n).mpr hown), if_pos hown, State.seatChecks]
    simp only [firstFail_cons, Option.isNone_iff_eq_none]
    rfl
  · rw [(isOwn_eq_false_iff s n).mpr hown, if_neg hown, if_neg Bool.false_ne_true, State.remoteChecks]
    simp only [firstFail_cons, any_areaList, Bool.not_eq_true', noRoom_eq, State.permitted]
    rfl

theorem fireSchedule_idle (h : (∀ o, s.handover.scheduled ≠ .waiting o) ∨ s.handover.outgoing ≠ .idle) :
    s.fireSchedule = s := by
  unfold State.fireSchedule
  split
  · next o ho =>
    refine if_neg ?_
    obtain h | h := h
    · exact absurd ho (h o)
    · simp [outIdle_eq_false h]
  · rfl
  · rfl

theorem fireSchedule_waiting {o : SchedOffer} (ho : s.handover.scheduled = .waiting o)
    (hout : s.handover.outgoing = .idle) : s.fireSchedule =
      if s.node.dark then s.fired (.refused .badState)
      else match s.offerRefusalIn s.floodAtFire o.target o.areas with
        | some c => s.useFireChoices.fired (.refused c)
        | none => (s.useFireChoices.makeOffer o.target o.areas).fired (.made s.nextOffer) := by
  unfold State.fireSchedule
  rw [ho]
  exact if_pos (outIdle_eq_true hout)

theorem useFireChoices_eq (s : State) : s.useFireChoices = { s with freeCount := s.useFireChoices.freeCount } := by
  unfold State.useFireChoices
  split <;> rfl

theorem makeOffer_remote {n : Station} {m : AreaSet} (hn : s.node.number ≠ some n) :
    s.makeOffer n m = s.makeRemoteOffer n m := by
  rw [State.makeOffer, (isOwn_eq_false_iff s n).mpr hn]
  exact if_neg Bool.false_ne_true

theorem makeOffer_seat {n : Station} {m : AreaSet} (hn : s.node.number = some n) :
    s.makeOffer n m = s.makeSeatOffer := if_pos ((isOwn_iff s n).mpr hn)

theorem exec_dueInstant (s : State) : exec .dueInstant s = .next s.dueWork := rfl

theorem exec_shiftStart (s : State) : exec .shiftStart s = .next s.startWork := rfl

theorem exec_overdueInstant (s : State) : exec .overdueInstant s = .next s.overdueWork := rfl

theorem exec_scheduleReached (s : State) : exec .scheduleReached s = .next s.scheduleWork := rfl

theorem exec_scheduledOfferFire (s : State) : exec .scheduledOfferFire s = .next s.fireSchedule := rfl

/-- Settles O49: row by row, each from the lemma about its work. -/
theorem instantsAndScheduleAct : Obligations.InstantsAndScheduleAct := by
  unfold Obligations.InstantsAndScheduleAct
  intro s
  simp only [exec_dueInstant, exec_shiftStart, exec_overdueInstant, exec_scheduleReached, exec_scheduledOfferFire]
  refine ⟨fun h => congrArg _ (dueWork_unmarked h), fun h => ?due, fun h1 h2 => congrArg _ (startWork_unmarked h1 h2),
    fun h1 h2 => ?start, fun h1 h2 h3 => congrArg _ (overdueWork_unmarked h1 h2 h3),
    fun h1 h2 h3 => ⟨fun hlate => ?late, fun hnot => ?notLate⟩, fun h => congrArg _ (if_neg (by simp [h])),
    fun o m h ho hm hle => ?reached, fun h => congrArg _ (fireSchedule_idle h), fun o ho hout => ⟨fun hdark => ?dark,
      fun hlit => ⟨s.floodAtFire, s.useFireChoices.freeCount, ?_, ?_, fun c hc => ?refused, fun hc hn => ?remote,
        fun hc hn => ?seat⟩⟩⟩
  case due =>
    rw [State.dueWork, if_pos h, State.reachDue, State.latchIf]
    cases hx : s.signOn.active <;> simp [State.seated, hx, State.setClock, State.setSecond, State.latch, plus]
  case start =>
    rw [startWork_marked h1 h2, bySecond_reachStart, bySecond_reachStart_handover] <;> rfl
  case late =>
    have hover : State.isOverdue { s with second := { s.second with overdue := false } } = true :=
      (isOverdue_state_iff _).mpr hlate
    rw [overdueWork_marked h1 h2 h3, State.testOverdue, if_pos hover]
    rfl
  case notLate =>
    have hon : ¬State.isOverdue { s with second := { s.second with overdue := false } } = true := by
      rw [isOverdue_state_iff]
      rintro ⟨x, a, hx, hlt, ha, hholds⟩
      obtain hyoung | hnone := hnot
      · exact absurd (hyoung x hx) (Nat.not_le.mpr hlt)
      · exact absurd ((hnone a ha).symm.trans hholds) Bool.false_ne_true
    rw [overdueWork_marked h1 h2 h3, State.testOverdue, if_neg hon]
  case reached =>
    rw [scheduleWork_marked h]
    let t : State := { s with second := { s.second with schedule := false } }
    have hreached : t.reachSchedule.handover = { s.handover with scheduled := .waiting o } := by
      rw [reachSchedule_armed (s := t) ho, comesDue, hm]
      exact if_pos (by simpa using hle)
    have hmark := bySecond_reached (s := t) (f := State.reachSchedule) (o := o) (by simp [t, ho]) hreached
    rw [bySecond_eq, hmark, reachSchedule_eq]
  case dark =>
    rw [fireSchedule_waiting ho hout, if_pos hdark]
    rfl
  case refused =>
    rw [fireSchedule_waiting ho hout, if_neg (by simp [hlit]), ← offerFails_eq, hc, useFireChoices_eq]
    rfl
  case remote =>
    rw [fireSchedule_waiting ho hout, if_neg (by simp [hlit]), ← offerFails_eq, hc]
    dsimp only
    rw [makeOffer_remote (s := s.useFireChoices) (by simpa using hn), useFireChoices_eq]
    rfl
  case seat =>
    rw [fireSchedule_waiting ho hout, if_neg (by simp [hlit]), ← offerFails_eq, hc]
    dsimp only
    rw [makeOffer_seat (s := s.useFireChoices) (by simpa using hn), useFireChoices_eq, ← own_of_number hn]
    rfl
  · intro a ha
    rw [State.floodAtFire, State.inFlood, ha, Bool.true_or]
  · intro a ha hclosed
    have hopen : s.fireOpen.getLsbD a = false := by
      unfold State.fireOpen
      obtain h | h := hclosed
      · rw [h]
        exact BitVec.getLsbD_zero
      · split
        · exact h
        · exact BitVec.getLsbD_zero
    rw [State.floodAtFire, State.inFlood, ha, hopen]
    rfl

end Sys2Proof.Answers

/-! PROOF. Orphaning of a peer's areas, and the loss of a silent peer (R94, R123, R155, R164). -/

namespace Sys2Proof.Answers

open Sys2Proof.Machine Sys2Proof.Claims Sys2Proof.Keep

variable {c : Instr} {s t u : State} {n : Byte}

/-! ### The annunciator re-evaluated more than once (R15) -/

/-- A sound annunciator re-evaluated on its own sets is left as it is. -/
theorem rerouted_of_sound (h : AnnunciatorSound s) : (rerouted s).picture = s.picture := by
  obtain ⟨hflashing, hsteady, hquiet, hpattern⟩ := h
  have hhorn : s.picture.horn.reevaluate (highest s.routedUnack) = s.picture.horn := by
    cases htop : highest s.routedUnack with
    | none => exact (hquiet ((highest_eq_none_iff _).mp htop)).symm
    | some p =>
      cases hh : s.picture.horn with
      | quiet => rfl
      | silenced => rfl
      | sounding q half =>
        have hq := hpattern q half hh
        rw [htop] at hq
        exact if_pos (Option.some.inj hq).symm
  have hlamp : s.picture.lamp.reevaluate (!s.routedUnack.isEmpty) (s.routedAck.any fun r => !r.cleared) =
      s.picture.lamp := by
    cases hunack : s.routedUnack.isEmpty with
    | false =>
      obtain ⟨high, hlamp⟩ := hflashing.mpr (by simpa using hunack)
      rw [hlamp]
      rfl
    | true =>
      have hempty : s.routedUnack = [] := by simpa using hunack
      have hnot : ∀ high, s.picture.lamp ≠ .flashing high := fun high hl => hflashing.mp ⟨high, hl⟩ hempty
      cases hack : s.routedAck.any fun r => !r.cleared with
      | true => exact (hsteady.mpr ⟨hempty, by simpa using hack⟩).symm
      | false =>
        have hoff : s.picture.lamp ≠ .steady := fun hl => by
          obtain ⟨r, hr, hc⟩ := (hsteady.mp hl).2
          exact absurd (List.any_eq_false.mp hack r hr) (by simp [hc])
        cases hl : s.picture.lamp with
        | off => rfl
        | steady => exact absurd hl hoff
        | flashing high => exact absurd hl (hnot high)
  unfold rerouted
  rw [hhorn, hlamp]

/-- A highest priority of a growing set rises. -/
theorem highest_mono {k l : List AlarmRecord} (hsub : ∀ r ∈ k, r ∈ l) {p : Priority} (h : highest k = some p) :
    ∃ q, highest l = some q ∧ q.num ≤ p.num := by
  obtain ⟨⟨r, hr, hrp⟩, -⟩ := highest_some h
  cases hl : highest l with
  | none => exact absurd (hsub r hr) (by simp [(highest_eq_none_iff l).mp hl])
  | some q => exact ⟨q, rfl, hrp ▸ (highest_some hl).2 r (hsub r hr)⟩

/-- Between two priorities of one pattern every priority has that pattern. -/
theorem pattern_between {p q r : Priority} (hqp : q.num ≤ p.num) (hrq : r.num ≤ q.num) (h : r.pattern = p.pattern) :
    q.pattern = p.pattern := by
  cases p <;> cases r <;> cases h <;> cases q <;> simp_all [Priority.num, Priority.pattern]

/-- The horn as the first of three growing routed sets has it, re-evaluated on the second and on the third. -/
theorem horn_reevaluate_twice {h : Horn} {k l m : List AlarmRecord} (hkl : ∀ r ∈ k, r ∈ l) (hlm : ∀ r ∈ l, r ∈ m)
    (hquiet : k = [] → h = .quiet)
    (hpattern : ∀ p half, h = .sounding p half → (highest k).map Priority.pattern = some p) :
    (h.reevaluate (highest l)).reevaluate (highest m) = h.reevaluate (highest m) := by
  cases hm : highest m with
  | none => rfl
  | some r =>
    cases hl : highest l with
    | none =>
      have hk : k = [] := List.eq_nil_iff_forall_not_mem.mpr fun x hx => by
        simpa [(highest_eq_none_iff l).mp hl] using hkl x hx
      rw [hquiet hk]
      rfl
    | some q =>
      cases h with
      | quiet => rfl
      | silenced => rfl
      | sounding x half =>
        have hx := hpattern x half rfl
        cases hk : highest k with
        | none => simp [hk] at hx
        | some p =>
          rw [hk] at hx
          have hpx : p.pattern = x := Option.some.inj hx
          obtain ⟨q', hq', hqp⟩ := highest_mono hkl hk
          obtain rfl : q = q' := Option.some.inj (hl.symm.trans hq')
          obtain ⟨r', hr', hrq⟩ := highest_mono hlm hl
          obtain rfl : r = r' := Option.some.inj (hm.symm.trans hr')
          subst hpx
          by_cases hsame : r.pattern = p.pattern
          · have hq : p.pattern = q.pattern := (pattern_between hqp hrq hsame).symm
            simp [Horn.reevaluate, hq]
          · by_cases hq : p.pattern = q.pattern
            · simp [Horn.reevaluate, hq]
            · simp only [Horn.reevaluate, if_neg hq, if_neg (Ne.symm hsame)]
              split
              · next hqr => rw [hqr]
              · rfl

theorem lamp_reevaluate_twice {l : Lamp} {u u' a a' : Bool} (h : (∃ high, l = .flashing high) → u = true) :
    (l.reevaluate u a).reevaluate u' a' = l.reevaluate u' a' := by
  cases u' with
  | false => rfl
  | true =>
    cases l with
    | flashing high =>
      rw [h ⟨high, rfl⟩]
      rfl
    | off => cases u <;> cases a <;> rfl
    | steady => cases u <;> cases a <;> rfl

/-! ### One area orphaned (R94) -/

/-- An area's record after the loss notice of station `n` at second `now`. -/
def orphaned (n : Station) (now : Sec) (r : Area) : Area :=
  match r.hold with
  | .held t b => if t == n then { r with hold := .orphaned t b now .running } else r
  | .unheld => r
  | .orphaned _ _ _ _ => r

theorem orphaned_held {r : Area} {b : Badge} (now : Sec) (h : r.hold = .held n b) :
    orphaned n now r = { r with hold := .orphaned n b now .running } := by
  unfold orphaned
  rw [h]
  exact if_pos (beq_self_eq_true n)

theorem orphaned_other {r : Area} (now : Sec) (h : ∀ b, r.hold ≠ .held n b) : orphaned n now r = r := by
  unfold orphaned
  split
  · next t b hheld =>
    exact if_neg fun ht => h b (by rw [hheld, eq_of_beq ht])
  · rfl
  · rfl

theorem orphaned_config (r : Area) (now : Sec) : (orphaned n now r).config = r.config := by
  by_cases h : ∃ b, r.hold = .held n b
  · obtain ⟨b, hb⟩ := h
    rw [orphaned_held now hb]
  · rw [orphaned_other now (not_exists.mp h)]

theorem orphanArea_other (a : Nat) (h : ∀ b, (s.area a).hold ≠ .held n b) : s.orphanArea n a = s := by
  unfold State.orphanArea
  split
  · next t b hheld => exact if_neg fun ht => h b (by rw [hheld, eq_of_beq ht])
  · rfl
  · rfl

theorem lt_of_held {a : Nat} {b : Badge} (h : (s.area a).hold = .held n b) : a < s.areas.length := by
  refine Classical.byContradiction fun hge => ?_
  rw [State.area, getD_of_ge _ (Nat.le_of_not_lt hge)] at h
  cases h

theorem orphanArea_held {a : Nat} {b : Badge} (hn : s.node.number ≠ some n) (h : (s.area a).hold = .held n b) :
    s.orphanArea n a = rerouted { s with areas := s.areas.set a (orphaned n s.now (s.area a)) } := by
  have hbefore : s.holds a = false := by
    rw [State.holds, h]
    exact (isOwn_eq_false_iff s n).mpr hn
  have hput : (s.setArea a { s.area a with hold := .orphaned n b s.now .running, serial := (s.area a).serial }).holds a =
      false := by
    rw [State.holds, State.area_setArea_self s a _ (lt_of_held h)]
  have hstatus : ((Hold.orphaned n b s.now .running).holderStatus != (s.area a).hold.holderStatus) = true := by
    rw [h]
    simp [Hold.holderStatus]
  unfold State.orphanArea
  rw [h]
  dsimp only
  rw [if_pos (beq_self_eq_true n), setHold_eq, hbefore, Bool.false_and, if_neg Bool.false_ne_true, orphaned_held _ h]
  unfold withHold
  dsimp only
  rw [hbefore, hput, hstatus]
  rfl

theorem area_orphanArea (a b : Nat) (hn : s.node.number ≠ some n) : (s.orphanArea n a).area b =
    if a = b then orphaned n s.now (s.area b) else s.area b := by
  by_cases h : ∃ x, (s.area a).hold = .held n x
  · obtain ⟨x, hx⟩ := h
    rw [orphanArea_held hn hx]
    by_cases hab : a = b
    · subst hab
      rw [if_pos rfl]
      exact State.area_setArea_self s a _ (lt_of_held hx)
    · rw [if_neg hab]
      exact State.area_setArea_other s a b _ hab
  · rw [orphanArea_other a (not_exists.mp h)]
    split
    · next hab => rw [orphaned_other _ (hab ▸ not_exists.mp h)]
    · rfl

/-! ### All areas of a station (R94) -/

/-- A state with other area records and another horn and lamp. -/
def regarded (s : State) (areas : List Area) (horn : Horn) (lamp : Lamp) : State :=
  { s with areas := areas, picture := { s.picture with horn := horn, lamp := lamp } }

/-- Some areas that another station holds are orphaned, and the routing has been re-evaluated. -/
structure OrphanedIn (n : Station) (s u : State) : Prop where
  frame   : u = regarded s u.areas u.picture.horn u.picture.lamp
  areas   : ∀ a, u.area a = s.area a ∨ u.area a = orphaned n s.now (s.area a)
  picture : AnnunciatorSound s → u.picture = (rerouted { u with picture := s.picture }).picture

theorem targets_orphaned (hnode : u.node = s.node) (hsignOn : u.signOn = s.signOn) {a : Nat}
    (hconfig : (u.area a).config = (s.area a).config) :
    (u.isStandby a || u.rankZero) = (s.isStandby a || s.rankZero) := by
  have hown : u.isOwn = s.isOwn := funext fun m => by rw [State.isOwn, hnode, State.isOwn]
  rw [State.isStandby, hconfig, hown, State.rankZero, hsignOn]
  rfl

/-- What is routed here stays so when another station's areas are orphaned (R14). -/
theorem routed_orphaned (hn : s.node.number ≠ some n) (hnode : u.node = s.node) (hsignOn : u.signOn = s.signOn)
    (harea : ∀ a, u.area a = s.area a ∨ u.area a = orphaned n s.now (s.area a)) {r : AlarmRecord}
    (h : s.routed r = true) : u.routed r = true := by
  have hown : u.isOwn = s.isOwn := funext fun m => by rw [State.isOwn, hnode, State.isOwn]
  have hconfig : (u.area r.id.area.toNat).config = (s.area r.id.area.toNat).config := by
    obtain ha | ha := harea r.id.area.toNat
    · rw [ha]
    · rw [ha, orphaned_config]
  have htargets := targets_orphaned hnode hsignOn hconfig
  unfold State.routed at h ⊢
  dsimp only at h ⊢
  rw [htargets, hown]
  obtain ha | ha := harea r.id.area.toNat
  · rw [ha]
    exact h
  · by_cases hheld : ∃ b, (s.area r.id.area.toNat).hold = .held n b
    · obtain ⟨b, hb⟩ := hheld
      rw [ha, orphaned_held _ hb]
      rw [hb] at h
      simp only [(isOwn_eq_false_iff s n).mpr hn, Bool.false_or, Bool.and_eq_true] at h
      exact h.2
    · rw [ha, orphaned_other _ (not_exists.mp hheld)]
      exact h

theorem orphaned_twice (now : Sec) (r : Area) : orphaned n now (orphaned n now r) = orphaned n now r := by
  by_cases h : ∃ b, r.hold = .held n b
  · obtain ⟨b, hb⟩ := h
    rw [orphaned_held _ hb]
    rfl
  · rw [orphaned_other _ (not_exists.mp h), orphaned_other _ (not_exists.mp h)]

theorem OrphanedIn.refl (n : Station) (s : State) : OrphanedIn n s s :=
  ⟨rfl, fun _ => .inl rfl, fun h => (rerouted_of_sound h).symm⟩

theorem routedUnack_subset (hlist : u.picture.list = s.picture.list) (h : ∀ r, s.routed r = true → u.routed r = true) :
    ∀ r ∈ s.routedUnack, r ∈ u.routedUnack := by
  intro r hr
  rw [State.routedUnack, List.mem_filter, Bool.and_eq_true] at hr ⊢
  exact ⟨hlist ▸ hr.1, hr.2.1, h r hr.2.2⟩

theorem rerouted_regarded {areas areas' : List Area} {horn : Horn} {lamp : Lamp} (h : u = regarded s areas horn lamp) :
    rerouted { u with areas := areas' } = regarded s areas' (rerouted { u with areas := areas' }).picture.horn
      (rerouted { u with areas := areas' }).picture.lamp := by
  subst h
  rfl

/-- The routed sets look at the list alone of what the alarm part shows (R14). -/
theorem routedUnack_picture {x : Picture} (h : x.list = s.picture.list) :
    State.routedUnack { s with picture := x } = s.routedUnack := by
  unfold State.routedUnack
  rw [← h]
  rfl

theorem routedAck_picture {x : Picture} (h : x.list = s.picture.list) :
    State.routedAck { s with picture := x } = s.routedAck := by
  unfold State.routedAck
  rw [← h]
  rfl

theorem rerouted_picture {x : Picture} (h : x.list = s.picture.list) :
    (rerouted { s with picture := x }).picture = { x with
      horn := x.horn.reevaluate (highest s.routedUnack)
      lamp := x.lamp.reevaluate (!s.routedUnack.isEmpty) (s.routedAck.any fun r => !r.cleared) } := by
  unfold rerouted
  dsimp only
  rw [routedUnack_picture h, routedAck_picture h]

/-- The hand-on of a second change that routes more here starts from where the first has left horn and lamp. -/
theorem rerouted_twice {v : State} (hs : AnnunciatorSound s) (hlist : u.picture.list = s.picture.list)
    (hv : v.picture = u.picture)
    (hu : u.picture = (rerouted { u with picture := s.picture }).picture)
    (hsu : ∀ r, s.routed r = true → u.routed r = true) (huv : ∀ r, u.routed r = true → v.routed r = true) :
    (rerouted v).picture = (rerouted { v with picture := s.picture }).picture := by
  have hsub := routedUnack_subset hlist hsu
  have hsub' := routedUnack_subset (congrArg Picture.list hv) huv
  rw [rerouted_picture hlist.symm] at hu
  have hflashing : (∃ high, s.picture.lamp = .flashing high) → (!u.routedUnack.isEmpty) = true := by
    intro h
    obtain ⟨r, hr⟩ := List.exists_mem_of_ne_nil _ (hs.flashing.mp h)
    simpa using List.ne_nil_of_mem (hsub r hr)
  rw [rerouted_picture (hlist.symm.trans (congrArg Picture.list hv).symm),
    show rerouted v = rerouted { v with picture := v.picture } from rfl, rerouted_picture rfl, hv, hu]
  dsimp only
  rw [horn_reevaluate_twice hsub hsub' hs.quiet hs.pattern, lamp_reevaluate_twice hflashing]

theorem OrphanedIn.orphanArea (hn : s.node.number ≠ some n) (h : OrphanedIn n s u) (a : Nat) :
    OrphanedIn n s (u.orphanArea n a) := by
  have hnode : u.node = s.node := (congrArg State.node h.frame :)
  have hsignOn : u.signOn = s.signOn := (congrArg State.signOn h.frame :)
  have hclock : u.clock = s.clock := (congrArg State.clock h.frame :)
  have hlist : u.picture.list = s.picture.list :=
    (congrArg (fun x : State => x.picture.list) h.frame :)
  have hun : u.node.number ≠ some n := hnode ▸ hn
  by_cases hheld : ∃ b, (u.area a).hold = .held n b
  · obtain ⟨b, hb⟩ := hheld
    have harea : ∀ x, (u.orphanArea n a).area x = u.area x ∨
        (u.orphanArea n a).area x = orphaned n u.now (u.area x) := by
      intro x
      rw [area_orphanArea a x hun]
      split
      · exact .inr rfl
      · exact .inl rfl
    refine ⟨?_, fun x => ?_, fun hs => ?_⟩
    · rw [orphanArea_held hun hb]
      exact rerouted_regarded h.frame
    · obtain hx | hx := harea x
      · rw [hx]
        exact h.areas x
      · rw [hx, State.now, hclock]
        obtain hy | hy := h.areas x
        · exact .inr (by rw [hy]; rfl)
        · exact .inr (by rw [hy]; exact orphaned_twice _ _)
    · have hrouted : ∀ r, s.routed r = true → u.routed r = true := fun r =>
        routed_orphaned hn hnode hsignOn h.areas
      have hrouted' : ∀ r, u.routed r = true → (u.orphanArea n a).routed r = true := fun r =>
        routed_orphaned hun (by simp) (by simp) harea
      rw [orphanArea_held hun hb] at hrouted' ⊢
      exact rerouted_twice hs hlist rfl (h.picture hs) hrouted hrouted'
  · rw [orphanArea_other a (not_exists.mp hheld)]
    exact h

theorem foldl_orphanArea (hn : s.node.number ≠ some n) (l : List Nat) (h : OrphanedIn n s u) :
    OrphanedIn n s (l.foldl (fun x a => x.orphanArea n a) u) := by
  induction l generalizing u with
  | nil => exact h
  | cons x rest ih => exact ih (h.orphanArea hn x)

theorem area_foldl_orphanArea (hn : s.node.number ≠ some n) (l : List Nat) (a : Nat) :
    (l.foldl (fun x b => x.orphanArea n b) s).area a =
      if a ∈ l then orphaned n s.now (s.area a) else s.area a := by
  induction l generalizing s with
  | nil => rfl
  | cons x rest ih =>
    have hnow : (s.orphanArea n x).now = s.now := by simp [State.now]
    rw [List.foldl_cons, ih (by simpa using hn), area_orphanArea x a hn, hnow]
    by_cases hx : x = a
    · subst hx
      simp [orphaned_twice]
    · simp [hx, Ne.symm hx]

theorem orphanedIn_orphanAll (hn : s.node.number ≠ some n) : OrphanedIn n s (s.orphanAll n) :=
  foldl_orphanArea hn _ (OrphanedIn.refl n s)

theorem area_orphanAll (hn : s.node.number ≠ some n) {a : Nat} (ha : a < 32) :
    (s.orphanAll n).area a = orphaned n s.now (s.area a) :=
  (area_foldl_orphanArea hn _ a).trans (if_pos (List.mem_range.mpr ha))

/-! ### The loss notice to the offers (R123) -/

theorem lossOut_other (h : ∀ o, s.handover.outgoing = .offered o → o.target ≠ n) : s.lossOut n = s := by
  unfold State.lossOut
  split
  · next o ho => exact if_neg fun ht => h o ho (eq_of_beq ht)
  · rfl
  · rfl

/-- The outgoing offer to a lost station ends, with its WITHDRAW where that has a place. -/
def targetLost (o : OutOffer) (s : State) : State := { s with
  handover := { s.handover with outgoing := .idle, lastOut := some ⟨o.number, o.target, .targetLost⟩ }
  tx := { s.tx with urgent := if s.tx.urgent.length < 8 then s.tx.urgent ++ [⟨.withdraw o.number o.target, none⟩]
    else s.tx.urgent }
  port := flagged s .handoverFailed }

theorem lossOut_offered {o : OutOffer} (ho : s.handover.outgoing = .offered o) (ht : o.target = n)
    (hn : s.node.number ≠ some n) : s.lossOut n = targetLost o s := by
  unfold State.lossOut
  rw [ho]
  dsimp only
  rw [if_pos (beq_iff_eq.mpr ht)]
  unfold targetLost
  obtain hroom | hfull := Nat.lt_or_ge s.tx.urgent.length 8
  · rw [dropOffer_withdrawn (ht ▸ hn) hroom, if_pos hroom]
    rfl
  · rw [dropOffer_full (ht ▸ hn) hfull, if_neg (Nat.not_lt.mpr hfull)]
    rfl

theorem lossIn_other (h : ∀ o f, s.handover.incoming = .presented o ∨ s.handover.incoming = .answered o f → o.origin ≠ n) :
    s.lossIn n = s := by
  unfold State.lossIn
  split
  · next o ho => exact if_neg fun ht => h o 0 (.inl ho) (eq_of_beq ht)
  · next o f ho => exact if_neg fun ht => h o f (.inr ho) (eq_of_beq ht)
  · rfl

/-- The incoming offer from a lost station ends. -/
def originLost (o : InOffer) (s : State) : State := { s with
  handover := { s.handover with incoming := .idle, lastIn := some ⟨o.number, o.origin, .originLost⟩ }
  port := flagged s .handoverFailed }

theorem lossIn_from {o : InOffer} {f : Sec}
    (h : s.handover.incoming = .presented o ∨ s.handover.incoming = .answered o f) (ho : o.origin = n) :
    s.lossIn n = originLost o s := by
  unfold State.lossIn
  obtain h | h := h
  · rw [h]
    exact if_pos (beq_iff_eq.mpr ho)
  · rw [h]
    exact if_pos (beq_iff_eq.mpr ho)

/-- What the loss notice of station `n` makes of a state `s`: `u` (R123). -/
structure LossTold (n : Station) (s u : State) : Prop where
  frame     : u = { s with
    handover := { s.handover with
      outgoing := u.handover.outgoing, lastOut := u.handover.lastOut
      incoming := u.handover.incoming, lastIn := u.handover.lastIn }
    tx := { s.tx with urgent := u.tx.urgent }
    port := { s.port with attention := u.port.attention } }
  offered   : ∀ o, s.handover.outgoing = .offered o → o.target = n →
    u.handover.outgoing = .idle ∧ u.handover.lastOut = some ⟨o.number, o.target, .targetLost⟩ ∧
      u.flagSet .handoverFailed = true ∧
      u.tx.urgent = if s.tx.urgent.length < 8 then s.tx.urgent ++ [⟨.withdraw o.number o.target, none⟩]
        else s.tx.urgent
  unoffered : (∀ o, s.handover.outgoing = .offered o → o.target ≠ n) →
    u.handover.outgoing = s.handover.outgoing ∧ u.handover.lastOut = s.handover.lastOut ∧ u.tx.urgent = s.tx.urgent
  received  : ∀ o f, s.handover.incoming = .presented o ∨ s.handover.incoming = .answered o f → o.origin = n →
    u.handover.incoming = .idle ∧ u.handover.lastIn = some ⟨o.number, o.origin, .originLost⟩ ∧
      u.flagSet .handoverFailed = true
  kept      : (∀ o f, s.handover.incoming = .presented o ∨ s.handover.incoming = .answered o f → o.origin ≠ n) →
    u.handover.incoming = s.handover.incoming ∧ u.handover.lastIn = s.handover.lastIn
  flags     : ∀ f, f ≠ .handoverFailed → u.flagSet f = s.flagSet f
  quiet     : (∀ o, s.handover.outgoing = .offered o → o.target ≠ n) →
    (∀ o f, s.handover.incoming = .presented o ∨ s.handover.incoming = .answered o f → o.origin ≠ n) →
    u.port = s.port

theorem flagSet_latched_other {f g : Flag} (h : u.port = flagged s g) (hf : f ≠ g) : u.flagSet f = s.flagSet f := by
  rw [Bool.eq_iff_iff, show u.flagSet f = (s.latch g).flagSet f from flagSet_congr h f, flagSet_latch_iff]
  simp [hf]

theorem flagSet_latched {g : Flag} (h : u.port = flagged s g) : u.flagSet g = true := by
  rw [show u.flagSet g = (s.latch g).flagSet g from flagSet_congr h g]
  exact (flagSet_latch_iff s g g).mpr (.inr rfl)

/-- An offer came from the lost station, or none did. -/
theorem incoming_from_or (n : Station) (s : State) :
    (∃ o f, (s.handover.incoming = .presented o ∨ s.handover.incoming = .answered o f) ∧ o.origin = n) ∨
      ∀ o f, s.handover.incoming = .presented o ∨ s.handover.incoming = .answered o f → o.origin ≠ n := by
  by_cases h : ∃ o f, (s.handover.incoming = .presented o ∨ s.handover.incoming = .answered o f) ∧ o.origin = n
  · exact .inl h
  · exact .inr fun o f hin ho => h ⟨o, f, hin, ho⟩

theorem outgoing_to_or (n : Station) (s : State) :
    (∃ o, s.handover.outgoing = .offered o ∧ o.target = n) ∨ ∀ o, s.handover.outgoing = .offered o → o.target ≠ n := by
  by_cases h : ∃ o, s.handover.outgoing = .offered o ∧ o.target = n
  · exact .inl h
  · exact .inr fun o ho ht => h ⟨o, ho, ht⟩

/-- One incoming offer stands. -/
theorem incoming_unique {x : Incoming} {o p : InOffer} {f g : Sec} (h : x = .presented o ∨ x = .answered o f)
    (h' : x = .presented p ∨ x = .answered p g) : o = p := by
  obtain rfl | rfl := h <;> obtain h' | h' := h' <;> cases h' <;> rfl

theorem lossNotice_told (hn : s.node.number ≠ some n) : LossTold n s (s.lossNotice n) := by
  unfold State.lossNotice
  obtain ⟨o, ho, ht⟩ | hnone := outgoing_to_or n s
  · rw [lossOut_offered ho ht hn]
    have hsame : ∀ o', s.handover.outgoing = .offered o' → o' = o := fun o' h => Outgoing.offered.inj (h.symm.trans ho)
    obtain ⟨i, f, hin, hi⟩ | hother := incoming_from_or n s
    · have hsame' : ∀ i' f', s.handover.incoming = .presented i' ∨ s.handover.incoming = .answered i' f' → i' = i :=
        fun _ _ h => incoming_unique h hin
      rw [lossIn_from (s := targetLost o s) hin hi]
      exact ⟨rfl, fun o' h _ => hsame o' h ▸ ⟨rfl, rfl, flagSet_latched (s := targetLost o s) rfl, rfl⟩,
        fun h => absurd ht (h o ho), fun i' f' h _ => hsame' i' f' h ▸ ⟨rfl, rfl, flagSet_latched (s := targetLost o s) rfl⟩,
        fun h => absurd hi (h i f hin),
        fun g hg => (flagSet_latched_other (s := targetLost o s) rfl hg).trans
          (flagSet_latched_other (u := targetLost o s) rfl hg), fun h _ => absurd ht (h o ho)⟩
    · rw [lossIn_other (s := targetLost o s) hother]
      exact ⟨rfl, fun o' h _ => hsame o' h ▸ ⟨rfl, rfl, flagSet_latched (u := targetLost o s) rfl, rfl⟩,
        fun h => absurd ht (h o ho), fun i f h hi => absurd hi (hother i f h), fun _ => ⟨rfl, rfl⟩,
        fun g hg => flagSet_latched_other (u := targetLost o s) rfl hg, fun h _ => absurd ht (h o ho)⟩
  · rw [lossOut_other hnone]
    obtain ⟨i, f, hin, hi⟩ | hother := incoming_from_or n s
    · have hsame' : ∀ i' f', s.handover.incoming = .presented i' ∨ s.handover.incoming = .answered i' f' → i' = i :=
        fun _ _ h => incoming_unique h hin
      rw [lossIn_from hin hi]
      exact ⟨rfl, fun o h ht => absurd ht (hnone o h), fun _ => ⟨rfl, rfl, rfl⟩,
        fun i' f' h _ => hsame' i' f' h ▸ ⟨rfl, rfl, flagSet_latched (s := s) rfl⟩, fun h => absurd hi (h i f hin),
        fun g hg => flagSet_latched_other (u := originLost i s) rfl hg, fun _ h => absurd hi (h i f hin)⟩
    · rw [lossIn_other hother]
      exact ⟨rfl, fun o h ht => absurd ht (hnone o h), fun _ => ⟨rfl, rfl, rfl⟩,
        fun i f h hi => absurd hi (hother i f h), fun _ => ⟨rfl, rfl⟩, fun _ _ => rfl, fun _ _ => rfl⟩

/-- The mark of a firing after the loss notice of a second event (R62, R129). -/
theorem bySecond_loss (hn : s.node.number ≠ some n) : ∃ mark, s.bySecond (State.lossNotice n) =
      { s.lossNotice n with handover := { (s.lossNotice n).handover with fireBySecond := mark } } ∧
    (∀ o, s.handover.outgoing = .offered o → o.target = n → mark = firesBySecond s) ∧
    ((∀ o, s.handover.outgoing = .offered o → o.target ≠ n) → mark = s.handover.fireBySecond) := by
  have htold := lossNotice_told hn
  have hscheduled : (s.lossNotice n).handover.scheduled = s.handover.scheduled :=
    (congrArg (fun x : State => x.handover.scheduled) htold.frame :)
  have hmark : (s.lossNotice n).handover.fireBySecond = s.handover.fireBySecond :=
    (congrArg (fun x : State => x.handover.fireBySecond) htold.frame :)
  obtain ⟨o, ho, ht⟩ | hnone := outgoing_to_or n s
  · obtain ⟨hidle, -⟩ := htold.offered o ho ht
    exact ⟨_, bySecond_ended hidle hscheduled hmark, fun _ _ _ => rfl, fun h => absurd ht (h o ho)⟩
  · refine ⟨_, ?_, fun o h ht => absurd ht (hnone o h), fun _ => rfl⟩
    rw [bySecond_same (htold.unoffered hnone).1 hscheduled, ← hmark]

/-! ### The loss (R155) -/

theorem peer_inRange {m : Station} {r : PeerRecord} (h : s.peer m = some r) :
    stationOk m = true ∧ m.toNat - 1 < s.peers.length := by
  unfold State.peer at h
  split at h
  · next hok =>
    refine ⟨hok, ?_⟩
    refine Classical.byContradiction fun hge => ?_
    rw [getD_of_ge _ (Nat.le_of_not_lt hge)] at h
    cases h
  · cases h

theorem peer_setPeer_self {m : Station} {r x : PeerRecord} (h : s.peer m = some r) : (s.setPeer m x).peer m = some x := by
  obtain ⟨hok, hlt⟩ := peer_inRange h
  rw [State.peer, if_pos hok, State.setPeer, if_pos hok]
  simp [List.getD_eq_getElem?_getD, hlt]

theorem index_ne {m k : Station} (hm : stationOk m = true) (hk : stationOk k = true) (h : k ≠ m) :
    m.toNat - 1 ≠ k.toNat - 1 := by
  obtain ⟨hm1, -⟩ := (stationOk_iff m).mp hm
  obtain ⟨hk1, -⟩ := (stationOk_iff k).mp hk
  exact fun he => h (BitVec.eq_of_toNat_eq (by omega))

theorem peer_setPeer_other {m k : Station} {x : PeerRecord} (h : k ≠ m) : (s.setPeer m x).peer k = s.peer k := by
  unfold State.setPeer
  split
  · next hm =>
    unfold State.peer
    split
    · next hk =>
      simp [List.getD_eq_getElem?_getD, index_ne hm hk h]
    · rfl
  · rfl

theorem losePeer_other (h : ∀ r, s.peer n = some r → r.state = .lost ∨ r.silence ≠ 3) : s.losePeer n = s := by
  unfold State.losePeer
  split
  · rfl
  · next r hr =>
    refine if_neg ?_
    obtain h | h := h r hr
    · simp [h]
    · simp [h]

theorem lastSeq_forgetSeq_self (n : Station) (s : State) : (s.forgetSeq n).lastSeq n = none := by
  unfold State.forgetSeq State.lastSeq
  split
  · rw [List.getD_eq_getElem?_getD, List.getElem?_set_self']
    cases s.bus.lastSeq[n.toNat - 1]? <;> rfl
  · rfl

theorem lastSeq_forgetSeq_other {m k : Station} (h : k ≠ m) : (s.forgetSeq m).lastSeq k = s.lastSeq k := by
  unfold State.forgetSeq State.lastSeq
  split
  · next hk =>
    split
    · next hm => simp [List.getD_eq_getElem?_getD, index_ne hm hk h]
    · rfl
  · rfl

theorem lastSeq_congr (h : t.bus = u.bus) (m : Station) : t.lastSeq m = u.lastSeq m := by
  rw [State.lastSeq, h, State.lastSeq]

/-- The record of a peer that has fallen silent, with PEER_CHANGE. -/
def fallenSilent (n : Station) (r : PeerRecord) (s : State) : State :=
  (s.setPeer n { r with state := .lost, digestMatch := .notCompared, millDiff := none }).latch .peerChange

theorem losePeer_silent {r : PeerRecord} (hr : s.peer n = some r) (hpresent : r.state = .present) (h3 : r.silence = 3) :
    s.losePeer n =
      ((((fallenSilent n r s).orphanAll n).bySecond (State.lossNotice n)).forgetSeq n).dropRequester n := by
  unfold State.losePeer
  rw [hr]
  dsimp only
  exact if_pos (by simp [hpresent, h3])

theorem dropRequester_eq (n : Station) (s : State) : s.dropRequester n = { s with
    tx := { s.tx with pictureFrame := (s.dropRequester n).tx.pictureFrame }
    transfer := { s.transfer with serving := (s.dropRequester n).transfer.serving } } := by
  unfold State.dropRequester
  split
  · rfl
  · dsimp only
    split
    · unfold State.endStream
      split
      · rfl
      · dsimp only
        split <;> rfl
    · rfl

theorem dropRequester_idle (h : s.transfer.serving = .idle) : s.dropRequester n = s := by
  unfold State.dropRequester
  rw [h]

/-- A stream without a station. -/
def without (n : Station) (x : Stream) : Stream := { x with
  active := x.active &&& ~~~BitVec.twoPow 16 (n.toNat - 1), staged := x.staged &&& ~~~BitVec.twoPow 16 (n.toNat - 1) }

theorem dropRequester_serves {x : Stream} (h : s.transfer.serving = .streaming x) (hok : stationOk n = true)
    (hactive : (without n x).active ≠ 0) : (s.dropRequester n).transfer.serving = .streaming (without n x) ∧
      (s.dropRequester n).tx.pictureFrame = s.tx.pictureFrame := by
  have hbit : stationBit n = BitVec.twoPow 16 (n.toNat - 1) := if_pos hok
  unfold State.dropRequester
  rw [h, hbit]
  dsimp only
  rw [if_neg (by simpa [without] using hactive)]
  exact ⟨rfl, rfl⟩

theorem dropRequester_ends {x : Stream} (h : s.transfer.serving = .streaming x) (hok : stationOk n = true)
    (hactive : (without n x).active = 0) : (s.dropRequester n).transfer.serving =
        (if (without n x).staged = 0 then .idle
          else .streaming ⟨(without n x).staged, 0, s.picture.list.map AlarmRecord.id, 0, 0, 0⟩) ∧
      (s.dropRequester n).tx.pictureFrame = s.tx.pictureFrame.map fun f => { f with current := false } := by
  have hbit : stationBit n = BitVec.twoPow 16 (n.toNat - 1) := if_pos hok
  unfold State.dropRequester
  rw [h, hbit]
  dsimp only
  rw [if_pos (by simpa [without] using hactive)]
  unfold State.endStream
  dsimp only [State.setServing]
  by_cases hstaged : (without n x).staged = 0
  · rw [if_pos hstaged, if_pos (by simpa [without] using hstaged)]
    exact ⟨rfl, rfl⟩
  · rw [if_neg hstaged, if_neg (by simpa [without] using hstaged)]
    exact ⟨rfl, rfl⟩

theorem exec_peerLost (n : Byte) (s : State) : exec (.peerLost n) s = .next (s.losePeer n) := rfl

/-- Settles O47: the loss is the record's, then the areas', the offers' and the stream's, each by its own lemma. -/
theorem silentPeersAreLost : Obligations.SilentPeersAreLost := by
  unfold Obligations.SilentPeersAreLost
  intro s n
  refine ⟨fun h => congrArg _ (losePeer_other h), fun r hr hpresent h3 hn => ?_⟩
  obtain ⟨hok, hrange⟩ := peer_inRange hr
  rw [exec_peerLost, losePeer_silent hr hpresent h3]
  generalize hx : fallenSilent n r s = x
  have hxnode : x.node = s.node := by rw [← hx]; simp [fallenSilent]
  have hxport : x.port = flagged s .peerChange := by rw [← hx]; simp [fallenSilent, State.latch, flagged, plus]
  generalize hw : x.orphanAll n = w
  have horphaned : OrphanedIn n x w := hw ▸ orphanedIn_orphanAll (hxnode ▸ hn)
  have hwx := horphaned.frame
  have hwn : w.node.number ≠ some n := by rw [hwx]; exact hxnode ▸ hn
  obtain ⟨mark, hmark, hmarked, hunmarked⟩ := bySecond_loss hwn
  rw [hmark]
  have htold := lossNotice_told hwn
  generalize w.lossNotice n = v at htold
  have hv := htold.frame
  generalize hy : State.forgetSeq n { v with handover := { v.handover with fireBySecond := mark } } = y
  generalize ht : y.dropRequester n = t
  have hxs : x = { s with peers := x.peers, port := flagged s .peerChange } := by
    rw [← hx, fallenSilent, State.setPeer, if_pos hok]
    rfl
  have hyv : y = { v with
      handover := { v.handover with fireBySecond := mark }
      bus := { v.bus with lastSeq := v.bus.lastSeq.set (n.toNat - 1) none } } := hy ▸ if_pos hok
  have hty := dropRequester_eq n y
  rw [ht] at hty
  have hwhandover : w.handover = s.handover := by rw [hwx, hxs]; rfl
  have hwtx : w.tx = s.tx := by rw [hwx, hxs]; rfl
  have hwport : w.port = flagged s .peerChange := by rw [hwx]; exact hxport
  have hyserving : y.transfer.serving = s.transfer.serving := by rw [hyv, hv, hwx, hxs]; rfl
  have hyframe : y.tx.pictureFrame = s.tx.pictureFrame := by rw [hyv, hv, hwx, hxs]; rfl
  have hylist : y.picture.list = s.picture.list := by rw [hyv, hv, hwx, hxs]; rfl
  have hthandover : t.handover = { v.handover with fireBySecond := mark } := by rw [hty, hyv]
  have hturgent : t.tx.urgent = v.tx.urgent := by rw [hty, hyv]
  have htport : t.port = v.port := by rw [hty, hyv]
  have htareas : t.areas = w.areas := by rw [hty, hyv, hv]
  have hxpeer : x.peer = State.peer (s.setPeer n { r with
      state := .lost, digestMatch := .notCompared, millDiff := none }) := by rw [← hx]; rfl
  have htbus : t.bus = (s.forgetSeq n).bus := by
    rw [hty, hyv, hv, hwx, hxs, State.forgetSeq, if_pos hok]
    rfl
  have htpeers : t.peers = x.peers := by rw [hty, hyv, hv, hwx]; rfl
  have htarea : ∀ a, t.area a = w.area a := fun a => by rw [State.area, htareas, State.area]
  have hframe : t = { s with
          picture := { s.picture with horn := t.picture.horn, lamp := t.picture.lamp }
          areas := t.areas, peers := t.peers, handover := t.handover
          bus := { s.bus with lastSeq := t.bus.lastSeq }
          tx := { s.tx with urgent := t.tx.urgent, pictureFrame := t.tx.pictureFrame }
          transfer := { s.transfer with serving := t.transfer.serving }
          port := { s.port with attention := t.port.attention } } := by
    rw [hty, hyv, hv, hwx, hxs]
    rfl
  refine ⟨t, rfl, hframe, fun hs => ?picture, ?peerChange, ?peer, fun m hm => ?others, ?seq, fun a ha => ?areas,
    fun o ho htarget => ?offered, fun hnone => ?unoffered, fun o f hin horigin => ?received, fun hnone => ?kept,
    fun hidle => ?idle, fun z z' hz hz' => ?stream, ?handover, fun f hf hf' => ?flags, fun hnone hnone' => ?quiet⟩
  case picture =>
    have hsx : AnnunciatorSound x := by rw [hxs]; exact annunciatorSound_of_view hs rfl
    have hpicture := horphaned.picture hsx
    have hxpicture : x.picture = s.picture := by rw [hxs]
    have htpicture : t.picture = w.picture := by rw [hty, hyv, hv]
    rw [hxpicture] at hpicture
    rw [htpicture, hpicture, hty, hyv, hv]
    rfl
  case peerChange =>
    have hset : w.flagSet .peerChange = true := flagSet_latched (s := s) hwport
    rw [flagSet_congr htport, htold.flags _ (by decide), hset]
  case peer =>
    rw [State.peer, htpeers]
    exact (congrFun hxpeer n).trans (peer_setPeer_self hr)
  case others =>
    rw [State.peer, htpeers]
    exact ⟨(congrFun hxpeer m).trans (peer_setPeer_other hm),
      (lastSeq_congr htbus m).trans (lastSeq_forgetSeq_other hm)⟩
  case seq => exact (lastSeq_congr htbus n).trans (lastSeq_forgetSeq_self n s)
  case areas =>
    have harea : t.area a = orphaned n s.now (s.area a) := by
      rw [htarea, ← hw, area_orphanAll (hxnode ▸ hn) ha, hxs]
      rfl
    rw [harea]
    exact ⟨fun b hb => orphaned_held _ hb, fun hb => orphaned_other _ hb⟩
  case offered =>
    obtain ⟨hidle, hlast, hflag, hurgent⟩ := htold.offered o (hwhandover ▸ ho) htarget
    rw [hthandover, flagSet_congr htport, hturgent, ← htarget, ← hwtx]
    refine ⟨hidle, hlast, hflag, ?_, hurgent⟩
    rw [hmarked o (hwhandover ▸ ho) htarget, firesBySecond, firesBySecond, waits, waits, hwhandover]
  case unoffered =>
    obtain ⟨hsame, hlast, hurgent⟩ := htold.unoffered (hwhandover ▸ hnone)
    rw [hthandover, hturgent, ← hwtx, ← hwhandover]
    exact ⟨hsame, hlast, hunmarked (hwhandover ▸ hnone), hurgent⟩
  case received =>
    obtain ⟨hidle, hlast, hflag⟩ := htold.received o f (hwhandover ▸ hin) horigin
    rw [hthandover, flagSet_congr htport, ← horigin]
    exact ⟨hidle, hlast, hflag⟩
  case kept =>
    rw [hthandover, ← hwhandover]
    exact htold.kept (hwhandover ▸ hnone)
  case idle =>
    rw [← ht, dropRequester_idle (hyserving.trans hidle), hyframe]
    exact ⟨hyserving.trans hidle, rfl⟩
  case stream =>
    subst hz'
    refine ⟨fun hactive => ?_, fun hactive => ?_⟩
    · obtain ⟨hserving, hheld⟩ := dropRequester_serves (hyserving.trans hz) hok hactive
      rw [← ht, ← hyframe]
      exact ⟨hserving, hheld⟩
    · obtain ⟨hserving, hheld⟩ := dropRequester_ends (hyserving.trans hz) hok hactive
      rw [← ht, ← hyframe, ← hylist]
      exact ⟨hserving, hheld⟩
  case handover =>
    rw [hthandover, hv, hwhandover]
  case flags =>
    have hw' : w.flagSet f = s.flagSet f := flagSet_latched_other hwport hf
    rw [flagSet_congr htport, htold.flags f hf', hw']
  case quiet =>
    have hw' : w.flagSet .handoverFailed = s.flagSet .handoverFailed := flagSet_latched_other hwport (by decide)
    rw [flagSet_congr htport, flagSet_congr (htold.quiet (hwhandover ▸ hnone) (hwhandover ▸ hnone')), hw']

end Sys2Proof.Answers

/-! PROOF. The requests that read (R18, R19, R51, R82, R100, R130, R154, R171, R178, R179). -/

namespace Sys2Proof.Answers

open Sys2Proof.Machine Sys2Proof.Claims Sys2Proof.Keep

variable {s t u : State}

/-! ### The bytes of a record (13.3, 13.4) -/

theorem flagsByte_toNat (p : BitVec 3) (c : Bool) (h : BitVec 2) (e : Bool) : (flagsByte p c h e).toNat =
    p.toNat + (if c then 8 else 0) + (if e then 64 else 0) + 16 * h.toNat := by
  unfold flagsByte bit1
  simp only [toNat_append_eq]
  cases c <;> cases e <;> simp <;> omega

/-- The two bits of a handling (13.3). -/
theorem handlingCode_toNat (h : Handling) : 16 * (BitVec.ofNat 2 h.code).toNat =
    match h with
    | .unack => 0
    | .ack _ _ => 16
    | .shelved _ _ _ => 32 := by
  cases h <;> rfl

theorem recordFlags_eq (r : AlarmRecord) : recordFlags r = flagsOf r := by
  have hpriority : (BitVec.ofNat 3 r.priority.num).toNat = r.priority.num := by cases r.priority <;> rfl
  have htotal := flagsByte_toNat (BitVec.ofNat 3 r.priority.num) r.cleared (BitVec.ofNat 2 r.handling.code) r.escalated
  rw [hpriority, handlingCode_toNat] at htotal
  unfold recordFlags flagsOf
  exact (congrArg (BitVec.ofNat 8) htotal).symm ▸ (by rw [BitVec.ofNat_toNat, BitVec.setWidth_eq])

/-- The handling's bytes of a record: the acknowledger and the shelf. -/
def handBytes (now : Sec) (h : Handling) : List Byte := ackBytes h ++ shelfBytes now h

theorem handBytes_length (now : Sec) (h : Handling) : (handBytes now h).length = 10 := by
  cases h <;> rfl

theorem alarmBytes_eq (now : Sec) (k : Nat) (r : AlarmRecord) :
    alarmBytes now k r = BitVec.ofNat 8 k :: r.id.area :: octets 2 r.id.point.toNat ++
      flagsOf r :: r.occurrence :: octets 4 r.raiseTime.toNat ++ octets 4 (now - r.arrivalSec).toNat ++
        r.feed :: handBytes now r.handling := by
  rw [← bytes2_eq_octets, ← bytes4_eq_octets, ← bytes4_eq_octets, ← recordFlags_eq]
  rfl

theorem alarmBytes_length (now : Sec) (k : Nat) (r : AlarmRecord) : (alarmBytes now k r).length = 25 := by
  rw [alarmBytes_eq, ← bytes2_eq_octets, ← bytes4_eq_octets, ← bytes4_eq_octets]
  simp [bytes2, bytes4, handBytes_length]

theorem remaining_out {now e : Sec} (h : (now - e).toNat < 2147483648) : remaining now e = 0 :=
  if_pos (decide_eq_true h)

theorem remaining_left {now e : Sec} (h : 2147483648 ≤ (now - e).toNat) (hfits : (e - now).toNat < 65536) :
    remaining now e = BitVec.ofNat 16 (e - now).toNat := by
  have hout : expired now e = false := decide_eq_false (Nat.not_lt.mpr h)
  unfold remaining
  rw [hout, if_neg Bool.false_ne_true]
  exact if_pos hfits

/-! ### READ ALARM and READ LIST (R18, R19) -/

theorem idOk_of_lt {a : Byte} {p : Half} (ha : a.toNat < 32) (hp : p.toNat < 4096) : idOk ⟨a, p⟩ = true := by
  simp [idOk_iff, ha, hp]

theorem findRecord_first {id : AlarmId} {l m : List AlarmRecord} {r : AlarmRecord} (hr : r.id = id)
    (hl : ∀ x ∈ l, x.id ≠ id) : findRecord id (l ++ r :: m) = some r := by
  have hnone : l.find? (fun x => x.id == id) = none := by simpa using hl
  rw [findRecord, List.find?_append, hnone, List.find?_cons_of_pos (by simp [hr])]
  rfl

theorem positionOf_first {id : AlarmId} {l m : List AlarmRecord} {r : AlarmRecord} (hr : r.id = id)
    (hl : ∀ x ∈ l, x.id ≠ id) : positionOf id (l ++ r :: m) = l.length := by
  rw [positionOf, List.takeWhile_append_of_pos (by simpa using hl), List.takeWhile_cons_of_neg (by simp [hr]),
    List.append_nil]

theorem take_eq_filterMap {α : Type} (l : List α) (k : Nat) : l.take k = (List.range k).filterMap fun i => l[i]? := by
  induction k with
  | zero => rfl
  | succ k ih => rw [List.take_add_one, ih, List.range_succ, List.filterMap_append]; cases h : l[k]? <;> simp [h]

/-- The records of READ LIST by their positions. -/
theorem listBytes_eq (now : Sec) (n : Nat) (l : List AlarmRecord) : listBytes now n l =
    octets 2 l.length ++ ((List.range 4).filterMap fun i => (l[n + i]?).map (alarmBytes now (n + i))).flatten := by
  rw [listBytes, octets_two, List.flatMap_def, take_eq_filterMap, List.map_filterMap]
  congr 3
  funext i
  rw [List.getElem?_drop, List.getElem?_zipIdx]
  cases l[n + i]? <;> simp

theorem listBytes_length (now : Sec) (n : Nat) (l : List AlarmRecord) :
    (listBytes now n l).length = 2 + 25 * min 4 (l.length - n) := by
  rw [listBytes, List.length_append, length_flatMap_of_length fun _ => alarmBytes_length _ _ _]
  simp [bytes2]

theorem readAlarm_found {a : Byte} {p : Half} {r : AlarmRecord} (hopen : Open s) (hok : idOk ⟨a, p⟩ = true)
    (h : findRecord ⟨a, p⟩ s.picture.list = some r) : exec (.readAlarm a p) s =
      .next (told s 0x06 .ok (.bytes (alarmBytes s.clock.now (positionOf ⟨a, p⟩ s.picture.list) r))) := by
  refine (exec_of_rule rfl hopen (u := s.checkIn) (r := .ok) ?_).trans rfl
  rw [ruleReadAlarm, if_pos hok, show s.checkIn.picture = s.picture from rfl, h]
  rfl

theorem readAlarm_refused {a : Byte} {p : Half} (hopen : Open s) (hok : idOk ⟨a, p⟩ = false) :
    Refuses (.readAlarm a p) 0x06 .badValue s :=
  refuses_of_rule rfl hopen (if_neg (by simp [hok]))

theorem readAlarm_notFound {a : Byte} {p : Half} (hopen : Open s) (hok : idOk ⟨a, p⟩ = true)
    (h : findRecord ⟨a, p⟩ s.picture.list = none) : Refuses (.readAlarm a p) 0x06 .notFound s := by
  refine refuses_of_rule rfl hopen ?_
  rw [ruleReadAlarm, if_pos hok, show s.checkIn.picture = s.picture from rfl, h]

/-- Settles O24, from the bytes of a record and the positions of the list. -/
theorem recordsAreRead : Obligations.RecordsAreRead := by
  unfold Obligations.RecordsAreRead
  refine ⟨fun s hopen => ⟨fun a p r l m ha hp hlist hr hl => ?found, fun a p h => readAlarm_refused hopen ?bad,
    fun a p ha hp h => readAlarm_notFound hopen (idOk_of_lt ha hp) h, fun n hn => ?beyond, fun n hn => ?list⟩,
    fun now k r => ⟨handBytes now r.handling, alarmBytes_eq now k r, handBytes_length now r.handling, fun h => ?unack,
      fun n b h => ?ack, fun e n b h => ?shelved⟩⟩
  case found =>
    rw [readAlarm_found hopen (idOk_of_lt ha hp) (hlist ▸ findRecord_first hr hl), hlist, positionOf_first hr hl]
  case bad =>
    exact idOk_eq_false h
  case beyond => exact refuses_of_rule rfl hopen (if_neg (Nat.not_le.mpr hn))
  case list =>
    refine ⟨_, (exec_of_rule rfl hopen (u := s.checkIn) (r := .ok) (if_pos hn)).trans rfl, listBytes_eq _ _ _,
      listBytes_length _ _ _⟩
  case unack =>
    rw [h]
    rfl
  case ack =>
    rw [h, handBytes, ackBytes, bytes3_eq_octets]
    rfl
  case shelved =>
    rw [h]
    refine ⟨?_, fun hout => ?_, fun hleft hfits => ?_⟩
    · rw [← bytes3_eq_octets]
      rfl
    · rw [handBytes, shelfBytes, remaining_out hout]
      rfl
    · rw [handBytes, shelfBytes, remaining_left hleft hfits, octets_two]
      rfl

/-! ### The reads that clear (R51, R178) -/

theorem readAttention_eq (hopen : Open s) : exec .readAttention s = .next { s with
    node := noted s
    port := { answered s 0x03 .ok (.bytes (octets 3 s.port.attention.toNat)) with attention := 0 } } := by
  rw [← bytes3_eq_octets]
  exact (exec_of_rule (code := 0x03) (rule := ruleReadAttention) rfl hopen rfl).trans rfl

theorem readWindow_eq (hopen : Open s) : exec .readWindow s = .next { told s 0x08 .ok (.bytes s.windowBytes) with
    window := { s.window with changed := false } } :=
  (exec_of_rule (code := 0x08) (rule := ruleReadWindow) rfl hopen rfl).trans rfl

theorem modeByte_eq (w : Window) : modeByte w =
    BitVec.ofNat 8 ((if w.direction = .up then 1 else 0) + (if w.follow then 2 else 0)) := by
  unfold modeByte
  cases w.direction <;> cases w.follow <;> rfl

theorem snapshotBytes_eq (x : Option Snapshot) : snapshotBytes x = match x with
    | some x => x.id.area :: octets 2 x.id.point.toNat ++ [x.occurrence]
    | none => [0xFF, 0, 0, 0] := by
  cases x with
  | none => rfl
  | some x =>
    rw [snapshotBytes, idBytes, bytes2_eq_octets]

theorem rowBytes_eq (r : Option AlarmRecord) : rowBytes r = match r with
    | some r => r.id.area :: octets 2 r.id.point.toNat ++ [flagsOf r, r.occurrence]
    | none => [0xFF, 0, 0, 0, 0] := by
  cases r with
  | none => rfl
  | some r =>
    rw [rowBytes, idBytes, bytes2_eq_octets, recordFlags_eq]

theorem rowBytes_length (r : Option AlarmRecord) : (rowBytes r).length = 5 := by
  cases r <;> rfl

theorem snapshotBytes_length (x : Option Snapshot) : (snapshotBytes x).length = 4 := by
  cases x <;> rfl

theorem windowBytes_length (s : State) : s.windowBytes.length = 51 := by
  have hrows : (s.rows.flatMap rowBytes).length = 40 := by
    rw [length_flatMap_of_length rowBytes_length]
    simp [State.rows]
  simp [State.windowBytes, bytes2, snapshotBytes_length, hrows]

/-- Settles O25, from the bytes of the window's parts. -/
theorem readsThatClear : Obligations.ReadsThatClear := by
  unfold Obligations.ReadsThatClear
  intro s hopen
  refine ⟨readAttention_eq hopen, s.windowBytes, readWindow_eq hopen, windowBytes_length s, ?_⟩
  have hrows : s.rows.flatMap rowBytes = ((List.range 8).map fun i => match s.scoped[s.window.top + i]? with
      | some r => r.id.area :: octets 2 r.id.point.toNat ++ [flagsOf r, r.occurrence]
      | none => [0xFF, 0, 0, 0, 0]).flatten := by
    rw [List.flatMap_def, State.rows, List.map_map]
    exact congrArg List.flatten (List.map_congr_left fun i _ => rowBytes_eq _)
  rw [State.windowBytes, ← octets_two, modeByte_eq, snapshotBytes_eq, hrows]
  simp only [List.append_assoc, List.cons_append]
  cases s.window.scope <;> rfl

/-! ### The reads that clear nothing (R82, R100, R130, R154, R171, R179) -/

theorem slotReport_eq (s : State) (o : Operator) : s.checkIn.slotReport o = slotOf s o := rfl

theorem readStatus_eq (hopen : Open s) :
    exec .readStatus s = .next (told s 0x02 .ok (.status s.checkIn.statusReport)) :=
  (exec_of_rule (code := 0x02) (rule := ruleReadStatus) rfl hopen rfl).trans rfl

/-- The items of READ STATUS at the check-in that every request makes (R179). -/
theorem statusReport_eq (s : State) : s.checkIn.statusReport =
    { mode := s.node.mode, number := s.node.number, gap := s.node.gap, dark := false, sinceCheckIn := 0
      digest := s.node.digest, millTime := s.clock.millTime, now := s.clock.now, trim := s.clock.trim
      pattern := s.clock.pattern, shift := s.clock.shift, inLead := s.clock.inLead, overdue := s.clock.overdue
      nextStart := s.clock.pattern.nextStart s.clock.millTime
      active := s.signOn.active.map (slotOf s), relief := s.signOn.relief.map (slotOf s)
      activeStepRank := s.signOn.active.map fun o => max o.rank (o.acting.getD o.rank)
      listLength := s.picture.list.length, lastStale := s.picture.lastStale
      horn := s.picture.horn, lamp := s.picture.lamp, heldSet := s.heldSet, lastLost := s.lastLost
      urgentFree := 8 - s.tx.urgent.length, changeFree := 32 - s.tx.change.length
      lineA := s.bus.lineA.state, quietA := s.bus.lineA.quiet
      lineB := s.bus.lineB.state, quietB := s.bus.lineB.quiet, fails := s.bus.fails
      pictureValid := s.transfer.valid, refreshPhase := s.transfer.refresh.map fun x => x.phase
      attempt := match s.transfer.refresh with
        | none => 0
        | some x => x.attempt
      taken := match s.transfer.refresh with
        | none => 0
        | some x => x.taken
      pendingCount := s.transfer.pendingEvents.length
      streaming := match s.transfer.serving with
        | .idle => false
        | .streaming _ => true
      activeSize := match s.transfer.serving with
        | .idle => 0
        | .streaming x => ((List.range 16).filter x.active.getLsbD).length
      stagedSize := match s.transfer.serving with
        | .idle => 0
        | .streaming x => ((List.range 16).filter x.staged.getLsbD).length } := by
  have hage : s.checkIn.since s.checkIn.node.lastCheckIn = 0 := by
    show (s.clock.now - s.clock.now).toNat = 0
    simp
  have hstep : Operator.stepOne = fun o => max o.rank (o.acting.getD o.rank) := funext stepOne_eq
  unfold State.statusReport State.servingSizes
  rw [hage, hstep, show s.checkIn.transfer = s.transfer from rfl]
  cases s.transfer.refresh <;> cases s.transfer.serving <;> rfl

theorem since_eq (s : State) (x : Sec) : s.since x = (s.clock.now - x).toNat := rfl

theorem readHandover_eq (hopen : Open s) :
    exec .readHandover s = .next (told s 0x09 .ok (.handover s.handoverReport)) :=
  (exec_of_rule (code := 0x09) (rule := ruleReadHandover) rfl hopen rfl).trans rfl

theorem floods_eq {o : InOffer} {f : Sec} (h : s.handover.incoming = .presented o ∨ s.handover.incoming = .answered o f) :
    s.handoverReport.floods = ((List.range 32).filter o.areas.getLsbD).map fun a => (a, (s.area a).flood) := by
  have hoffer : s.handover.incoming.offer = some o := by
    obtain h | h := h
    · rw [h]
      rfl
    · rw [h]
      rfl
  rw [State.handoverReport, hoffer]
  rfl

theorem readPeer_refused {n : Byte} (hopen : Open s) (h : ¬(1 ≤ n.toNat ∧ n.toNat ≤ 16)) :
    Refuses (.readPeer n) 0x04 .badValue s :=
  refuses_of_rule rfl hopen (if_neg (by rwa [stationOk_iff]))

theorem readPeer_known {n : Byte} (hopen : Open s) (h : 1 ≤ n.toNat ∧ n.toNat ≤ 16) :
    (s.peer n = none → Refuses (.readPeer n) 0x04 .notFound s) ∧
      ∀ r, s.peer n = some r → exec (.readPeer n) s = .next (told s 0x04 .ok (.peer n r)) := by
  have hok : stationOk n = true := (stationOk_iff n).mpr h
  refine ⟨fun hnone => refuses_of_rule rfl hopen ?_, fun r hr =>
    (exec_of_rule (code := 0x04) (rule := ruleReadPeer n) (u := s.checkIn) rfl hopen ?_).trans rfl⟩
  · rw [ruleReadPeer, if_pos hok, show s.checkIn.peer n = s.peer n from rfl, hnone]
  · rw [ruleReadPeer, if_pos hok, show s.checkIn.peer n = s.peer n from rfl, hr]
    rfl

theorem readArea_eq {a : Byte} (hopen : Open s) (ha : a.toNat < 32) :
    exec (.readArea a) s = .next (told s 0x05 .ok (.area (s.areaReport a.toNat))) :=
  (exec_of_rule (code := 0x05) (rule := ruleReadArea a) (u := s.checkIn) rfl hopen
    (if_pos (decide_eq_true ha))).trans rfl

/-- The claim in flight is the first one of the urgent queue (R93). -/
theorem inFlight_first {a : Byte} {l m : List TxFrame} {x : TxFrame} {n : Half}
    (hqueue : s.tx.urgent = l ++ x :: m)
    (hl : ∀ y ∈ l, (∀ r n b, y.frame ≠ .claim r a n b) ∧ ∀ n b, y.frame ≠ .take a n b)
    (hx : (∃ r b, x.frame = .claim r a n b) ∨ ∃ b, x.frame = .take a n b) : s.inFlight a.toNat = some n := by
  have hbefore : State.inFlight { s with tx := { s.tx with urgent := l } } a.toNat = none :=
    (inFlight_iff { s with tx := { s.tx with urgent := l } } a).mpr hl
  unfold State.inFlight at hbefore ⊢
  rw [hqueue, List.findSome?_append, hbefore, Option.none_or]
  obtain ⟨r, b, hx⟩ | ⟨b, hx⟩ := hx
  · rw [List.findSome?_cons, hx]
    simp [claimOfFrame]
  · rw [List.findSome?_cons, hx]
    simp [claimOfFrame]

/-- Settles O23, request by request. -/
theorem readsChangeNothing : Obligations.ReadsChangeNothing := by
  unfold Obligations.ReadsChangeNothing
  intro s hopen
  refine ⟨(exec_of_rule (code := 0x01) (rule := ruleNop) rfl hopen rfl).trans rfl,
    fun code => refuses_of_rule (rule := ruleUnknown) rfl hopen rfl, ⟨s.heldSet, fun a => ?held, ?status⟩,
    ⟨_, _, _, readHandover_eq hopen, fun h => ?outIdle, fun o h => ?age, fun h => ?inIdle, fun o h => ?presented,
      fun o f h => ?answered, fun o f h => floods_eq h⟩,
    fun n => ⟨readPeer_refused hopen, fun hn => (readPeer_known hopen hn).1, fun r hn => (readPeer_known hopen hn).2 r⟩,
    fun a => ⟨fun ha => refuses_of_rule rfl hopen (if_neg ?area), fun ha => ⟨s.inFlight a.toNat, ?report,
      (inFlight_iff s a).mpr, fun l x m n => inFlight_first⟩⟩⟩
  case held => rw [heldSet_iff, holds_iff]
  case status =>
    exact (readStatus_eq hopen).trans (congrArg (fun x => Host.Outcome.next (told s 0x02 .ok (.status x))) (statusReport_eq s))
  case outIdle =>
    rw [State.outgoingAge, h]
  case age =>
    rw [State.outgoingAge]
    obtain h | h := h
    · rw [h]
      rfl
    · rw [h]
      rfl
  case inIdle =>
    rw [State.incomingLeft, h]
    exact ⟨rfl, rfl⟩
  case presented =>
    rw [State.incomingLeft, h]
    rfl
  case answered =>
    rw [State.incomingLeft, h]
    rfl
  case area => simpa [areaOk] using ha
  case report =>
    rw [readArea_eq hopen ha, State.areaReport, State.orphanAge]
    cases (s.area a.toNat).hold <;> rfl

end Sys2Proof.Answers

/-! PROOF. Every request by its rule: what a closed port does with it, and what a refusal leaves (R173, R176). -/

namespace Sys2Proof.Answers

open Sys2Proof.Machine Sys2Proof.Claims Sys2Proof.Keep

variable {c : Instr} {s t u : State}

/-! ### The three ways in which a rule answers -/

/-- A rule answers OK, or refuses with the state as it was, or refuses with the snapshot retaken (R176). -/
inductive Answered (s : State) : Reply → Prop
  | ok (t : State) (b : AnswerBody) : Answered s (.ok t b)
  | refused (r : ResultCode) (hgone : r ≠ .gone) (hchanged : r ≠ .changed) : Answered s (.refuse s r)
  | retaken (r : ResultCode) (h : r = .gone ∨ r = .changed) : Answered s (.retake s r)

/-- The codes of a table of checks are those of a refusal that retakes nothing. -/
def plainCodes (l : List (Bool × ResultCode)) : Bool := l.all fun x => x.2 != .gone && x.2 != .changed

theorem Answered.checked {l : List (Bool × ResultCode)} {effect : State → Reply} (h : plainCodes l = true)
    (heffect : Answered s (effect s)) : Answered s (checked l effect s) := by
  obtain ⟨r, hr, hrefused⟩ | ⟨-, hpassed⟩ := checked_cases l effect s
  · have hcode := List.all_eq_true.mp h (true, r) hr
    rw [Bool.and_eq_true, bne_iff_ne, bne_iff_ne] at hcode
    exact hrefused ▸ .refused r hcode.1 hcode.2
  · exact hpassed ▸ heffect

theorem Answered.ite {b : Prop} [Decidable b] {x y : Reply} (hx : Answered s x) (hy : Answered s y) :
    Answered s (if b then x else y) := by
  split
  · exact hx
  · exact hy

/-! ### The rules whose effect may refuse -/

theorem answers_readPeer (n : Byte) (s : State) : Answered s (ruleReadPeer n s) := by
  unfold ruleReadPeer
  refine .ite ?_ (.refused _ nofun nofun)
  cases s.peer n with
  | none => exact .refused _ nofun nofun
  | some r => exact .ok _ _

theorem answers_readAlarm (id : AlarmId) (s : State) : Answered s (ruleReadAlarm id s) := by
  unfold ruleReadAlarm
  refine .ite ?_ (.refused _ nofun nofun)
  cases findRecord id s.picture.list with
  | none => exact .refused _ nofun nofun
  | some r => exact .ok _ _

theorem answers_setActingRank (slot rank : Byte) (s : State) : Answered s (ruleSetActingRank slot rank s) := by
  refine .checked rfl ?_
  dsimp only
  cases s.slot slot with
  | none => exact .refused _ nofun nofun
  | some o => exact .ok _ _

theorem answers_acknowledge (id : AlarmId) (o : Byte) (s : State) : Answered s (ruleAcknowledge id o s) := by
  refine .checked rfl ?_
  cases findRecord id s.picture.list with
  | none => exact .refused _ nofun nofun
  | some r => exact .ite (.checked rfl (.ok _ _)) (.ok _ _)

theorem answers_unshelve (id : AlarmId) (s : State) : Answered s (ruleUnshelve id s) := by
  refine .checked rfl ?_
  cases findRecord id s.picture.list with
  | none => exact .refused _ nofun nofun
  | some r => exact .ite (.checked rfl (.ok _ _)) (.ok _ _)

theorem chosenArea_error {a : Byte} {r : ResultCode} (h : s.chosenArea a = .error r) : r = .noArea ∨ r = .badValue := by
  unfold State.chosenArea at h
  split at h
  · split at h
    · cases h
    · cases h
      exact .inl rfl
  · split at h
    · cases h
    · cases h
      exact .inr rfl

theorem answers_acknowledgeArea (a : Byte) (s : State) : Answered s (ruleAcknowledgeArea a s) := by
  refine .checked rfl ?_
  cases h : s.chosenArea a with
  | error r =>
    obtain rfl | rfl := chosenArea_error h
    · exact .refused _ nofun nofun
    · exact .refused _ nofun nofun
  | ok b => exact .checked rfl (.ok _ _)

theorem answers_setScope (x : Byte) (s : State) : Answered s (ruleSetScope x s) := by
  refine .checked rfl ?_
  dsimp only
  cases scopeOf x with
  | none => exact .refused _ nofun nofun
  | some y => exact .ok _ _

theorem answers_setEntryMode (d f : Byte) (s : State) : Answered s (ruleSetEntryMode d f s) := by
  refine .checked rfl ?_
  split
  · exact .ok _ _
  · exact .refused _ nofun nofun
  · exact .refused _ nofun nofun

theorem answers_acknowledgeAtCursor (s : State) : Answered s (ruleAcknowledgeAtCursor s) := by
  refine .checked rfl ?_
  cases s.window.snapshot with
  | none => exact .refused _ nofun nofun
  | some x =>
    dsimp only [State.acknowledgeSnapshot]
    cases findRecord x.id s.picture.list with
    | none => exact .retaken _ (.inl rfl)
    | some r => exact .ite (.retaken _ (.inr rfl)) (.ite (.ok _ _) (.checked rfl (.ok _ _)))

theorem answers_claimOrAnswer (act : Action) (wrong : Bool) (a : Nat) (f : Frame) (s : State) :
    Answered s (s.claimOrAnswer act wrong a f) := .ite (.ok _ _) (.checked rfl (.ok _ _))

theorem offerRefusal_plain {n : Station} {m : AreaSet} {r : ResultCode} (h : s.offerRefusal n m = some r) :
    r ≠ .gone ∧ r ≠ .changed := by
  have hplain : plainCodes (s.offerChecks n m ++
      (if s.isOwn n then s.seatChecks s.inFlood else s.remoteChecks s.inFlood n m)) = true := by
    split <;> rfl
  have hcode := List.all_eq_true.mp hplain (true, r) (firstFail_some h)
  rwa [Bool.and_eq_true, bne_iff_ne, bne_iff_ne] at hcode

theorem answers_offer (n : Station) (m : AreaSet) (s : State) : Answered s (ruleOffer n m s) := by
  unfold ruleOffer
  cases h : s.offerRefusal n m with
  | none => exact .ok _ _
  | some r => exact .refused r (offerRefusal_plain h).1 (offerRefusal_plain h).2

theorem answers_decide {n : Byte} {rest : InOffer → State → Reply} (h : ∀ o s, Answered s (rest o s)) (s : State) :
    Answered s (s.decide n rest) := by
  refine .checked rfl ?_
  cases s.presented with
  | none => exact .refused _ nofun nofun
  | some o => exact .ite (h o s) (.refused _ nofun nofun)

theorem answers_withdraw (s : State) : Answered s (ruleWithdraw s) := by
  refine .checked rfl ?_
  cases s.handover.outgoing with
  | idle => exact .refused _ nofun nofun
  | committing o => exact .refused _ nofun nofun
  | offered o => exact .ok _ _

/-! ### Every request but RESTART has a code and a rule -/

/-- A command is a request that its rule answers (R172 to R176). -/
def ByRule (c : Instr) : Prop :=
  ∃ code rule, (∀ s, exec c s = .next (request code rule s)) ∧ ∀ s, Answered s (rule s)

theorem byRule {code : Byte} {rule : State → Reply} (hexec : ∀ s, exec c s = .next (request code rule s))
    (h : ∀ s, Answered s (rule s)) : ByRule c := ⟨code, rule, hexec, h⟩

theorem byRule_checked {code : Byte} {checks : State → List (Bool × ResultCode)} {effect : State → State → Reply}
    (hexec : ∀ s, exec c s = .next (request code (fun s => checked (checks s) (effect s) s) s))
    (hplain : ∀ s, plainCodes (checks s) = true) (heffect : ∀ s, Answered s (effect s s)) : ByRule c :=
  byRule hexec fun s => .checked (hplain s) (heffect s)

theorem byRule_or_restart (h : isRequest c = true) : c = .restart ∨ ByRule c := by
  cases c
  case restart => exact .inl rfl
  case unknownRequest code => exact .inr (byRule (fun _ => rfl) fun _ => .refused _ nofun nofun)
  case nop => exact .inr (byRule (fun _ => rfl) fun _ => .ok _ _)
  case readStatus => exact .inr (byRule (fun _ => rfl) fun _ => .ok _ _)
  case readAttention => exact .inr (byRule (fun _ => rfl) fun _ => .ok _ _)
  case readPeer n => exact .inr (byRule (fun _ => rfl) (answers_readPeer n))
  case readArea a => exact .inr (byRule (fun _ => rfl) fun _ => .ite (.ok _ _) (.refused _ nofun nofun))
  case readAlarm a p => exact .inr (byRule (fun _ => rfl) (answers_readAlarm _))
  case readList n => exact .inr (byRule (fun _ => rfl) fun _ => .ite (.ok _ _) (.refused _ nofun nofun))
  case readWindow => exact .inr (byRule (fun _ => rfl) fun _ => .ok _ _)
  case readHandover => exact .inr (byRule (fun _ => rfl) fun _ => .ok _ _)
  case setTrim t => exact .inr (byRule (fun _ => rfl) fun _ => .ok _ _)
  case setStation n g => exact .inr (byRule_checked (fun _ => rfl) (fun _ => rfl) fun _ => .ok _ _)
  case setArea a k x => exact .inr (byRule_checked (fun _ => rfl) (fun _ => rfl) fun _ => .ok _ _)
  case setShiftPattern n m l g => exact .inr (byRule_checked (fun _ => rfl) (fun _ => rfl) fun _ => .ok _ _)
  case setClock t => exact .inr (byRule_checked (fun _ => rfl) (fun _ => rfl) fun _ => .ok _ _)
  case join => exact .inr (byRule_checked (fun _ => rfl) (fun _ => rfl) fun _ => .ok _ _)
  case signOn b r q => exact .inr (byRule_checked (fun _ => rfl) (fun _ => rfl) fun _ => .ok _ _)
  case signOnRelief b r q => exact .inr (byRule_checked (fun _ => rfl) (fun _ => rfl) fun _ => .ok _ _)
  case signOffActive => exact .inr (byRule_checked (fun _ => rfl) (fun _ => rfl) fun _ => .ok _ _)
  case signOffRelief x => exact .inr (byRule_checked (fun _ => rfl) (fun _ => rfl) fun _ => .ok _ _)
  case setActingRank x r => exact .inr (byRule (fun _ => rfl) (answers_setActingRank x r))
  case postRaise a p q => exact .inr (byRule_checked (fun _ => rfl) (fun _ => rfl) fun _ => .ok _ _)
  case postClear a p => exact .inr (byRule_checked (fun _ => rfl) (fun _ => rfl) fun _ => .ok _ _)
  case acknowledge a p o => exact .inr (byRule (fun _ => rfl) (answers_acknowledge _ o))
  case acknowledgeArea a => exact .inr (byRule (fun _ => rfl) (answers_acknowledgeArea a))
  case acknowledgeAtCursor => exact .inr (byRule (fun _ => rfl) answers_acknowledgeAtCursor)
  case shelve a p m => exact .inr (byRule_checked (fun _ => rfl) (fun _ => rfl) fun _ => .ok _ _)
  case unshelve a p => exact .inr (byRule (fun _ => rfl) (answers_unshelve _))
  case silenceHorn => exact .inr (byRule_checked (fun _ => rfl) (fun _ => rfl) fun _ => .ok _ _)
  case placeCursor r => exact .inr (byRule_checked (fun _ => rfl) (fun _ => rfl) fun _ => .ok _ _)
  case scroll o => exact .inr (byRule_checked (fun _ => rfl) (fun _ => rfl) fun _ => .ok _ _)
  case setScope x => exact .inr (byRule (fun _ => rfl) (answers_setScope x))
  case setFocus a => exact .inr (byRule_checked (fun _ => rfl) (fun _ => rfl) fun _ => .ite (.ok _ _) (.ok _ _))
  case setEntryMode d f => exact .inr (byRule (fun _ => rfl) (answers_setEntryMode d f))
  case claimArea a =>
    exact .inr (byRule_checked (fun _ => rfl) (fun _ => rfl) fun _ => answers_claimOrAnswer _ _ _ _ _)
  case takeArea a =>
    exact .inr (byRule_checked (fun _ => rfl) (fun _ => rfl) fun _ => answers_claimOrAnswer _ _ _ _ _)
  case offerHandover n m => exact .inr (byRule (fun _ => rfl) (answers_offer n m))
  case offerSeatChange m => exact .inr (byRule (fun _ => rfl) fun s => answers_offer s.own m s)
  case acceptHandover n =>
    exact .inr (byRule (fun _ => rfl) (answers_decide fun _ _ => .ite (.checked rfl (.ok _ _)) (.checked rfl (.ok _ _))))
  case declineHandover n =>
    exact .inr (byRule (fun _ => rfl) (answers_decide fun _ _ => .ite (.ok _ _) (.checked rfl (.ok _ _))))
  case withdrawOffer => exact .inr (byRule (fun _ => rfl) answers_withdraw)
  case scheduleOffer n m f => exact .inr (byRule_checked (fun _ => rfl) (fun _ => rfl) fun _ => .ok _ _)
  case cancelSchedule => exact .inr (byRule_checked (fun _ => rfl) (fun _ => rfl) fun _ => .ok _ _)
  all_goals cases h

/-! ### Closed ports and refusals -/

theorem portOpen_iff (s : State) : s.portOpen = true ↔ Open s := by
  simp [State.portOpen]

/-- A request made while the port is busy or has not started changes nothing (R173, R181). -/
theorem exec_closed (h : isRequest c = true) (hclosed : ¬Open s) : exec c s = .next s := by
  have hport : s.portOpen = false := by rw [← Bool.not_eq_true, portOpen_iff]; exact hclosed
  obtain rfl | ⟨code, rule, hexec, -⟩ := byRule_or_restart h
  · exact congrArg _ (if_neg (by simp [hport]))
  · rw [hexec, request_closed code rule s hport]

/-- Settles O16, from the three ways in which a rule answers. -/
theorem refusalsChangeNothing : Obligations.RefusalsChangeNothing := by
  unfold Obligations.RefusalsChangeNothing
  intro c s t h hopen hstep hresult
  obtain rfl | ⟨code, rule, hexec, hrule⟩ := byRule_or_restart h
  · have ht : exec .restart s = .next s.restarted := congrArg _ (if_pos hopen.portOpen)
    rw [ht] at hstep
    cases hstep
    exact absurd rfl hresult
  · rw [hexec, request_open code rule s hopen.portOpen] at hstep
    have hanswers := hrule s.checkIn
    generalize rule s.checkIn = reply at hanswers hstep
    cases hanswers with
    | ok v b =>
      cases hstep
      exact absurd rfl hresult
    | refused r hgone hchanged =>
      cases hstep
      exact ⟨fun _ => rfl, fun h => (h.elim hgone hchanged).elim⟩
    | retaken r hr =>
      cases hstep
      exact ⟨fun h => (hr.elim h.1 h.2).elim, fun _ => rfl⟩

end Sys2Proof.Answers

/-! PROOF. The console port's pins and bytes, and the cadences of horn and lamp (12.1, 12.2, 12.4, 12.6, 13.4). -/

namespace Sys2Proof.Answers

open Sys2Proof.Machine Sys2Proof.Claims Sys2Proof.Keep

variable {c : Instr} {s t u : State}

/-! ### Flags, pins and the status byte -/

/-- The flags in the order of their positions (13.4). -/
def flagOrder : List Flag :=
  [.handoverDue, .handoverOverdue, .offerReceived, .offerEnded, .handoverFailed, .claimLost, .takeoverNeeded,
    .areaTaken, .floodChange, .escalation, .ackStale, .listFull, .peerChange, .peerTrouble, .lineFault, .busFault,
    .duplicateStation, .configDiffers, .timeSkew, .badgeTwice, .pictureDone, .pictureDoubtful, .feedMismatch,
    .scheduleFired]

theorem flagOrder_bits : flagOrder.map Flag.bit = List.range 24 := rfl

/-- Every bit of the flags is a flag's. -/
theorem attention_ne_zero_iff (s : State) : s.port.attention ≠ 0 ↔ ∃ f, s.flagSet f = true := by
  refine ⟨fun h => ?_, fun ⟨f, hf⟩ h0 => ?_⟩
  · refine Classical.byContradiction fun hnone => ?_
    refine h (BitVec.eq_of_getLsbD_eq fun i hi => ?_)
    obtain ⟨f, -, hf⟩ := List.mem_map.mp (flagOrder_bits ▸ List.mem_range.mpr hi : i ∈ flagOrder.map Flag.bit)
    rw [← hf]
    exact (Bool.eq_false_iff.mpr fun hset => hnone ⟨f, hset⟩).trans BitVec.getLsbD_zero.symm
  · rw [State.flagSet, h0] at hf
    exact absurd (hf.symm.trans BitVec.getLsbD_zero) (by decide)

theorem statusByte_bits (s : State) : s.statusByte.getLsbD 7 = (s.port.busy || !s.port.started) ∧
    s.statusByte.getLsbD 6 = (s.port.attention != 0) ∧ s.statusByte.getLsbD 5 = s.window.changed ∧
    s.statusByte.getLsbD 4 = s.node.dark ∧ s.statusByte.getLsbD 3 = false ∧
    s.statusByte.extractLsb' 0 3 = modeCode s.node.mode := by
  unfold State.statusByte bit1
  generalize (s.port.busy || !s.port.started) = b7
  generalize (s.port.attention != 0) = b6
  generalize s.window.changed = b5
  generalize s.node.dark = b4
  generalize modeCode s.node.mode = m
  revert b7 b6 b5 b4 m
  decide

theorem hornPin_iff (s : State) : s.hornPin = true ↔ s.port.started = true ∧
    ((∃ h, s.picture.horn = .sounding .steady h) ∨ (∃ h, s.picture.horn = .sounding .oneHz h ∧ h % 2 = 0) ∨
      (∃ h, s.picture.horn = .sounding .halfHz h ∧ h % 4 < 2)) := by
  rw [State.hornPin, Bool.and_eq_true]
  refine and_congr_right fun _ => ?_
  cases s.picture.horn with
  | quiet => simp
  | silenced => simp
  | sounding p h => cases p <;> simp

theorem lampPin_iff (s : State) : s.lampPin = true ↔
    s.port.started = true ∧ (s.picture.lamp = .steady ∨ s.picture.lamp = .flashing true) := by
  rw [State.lampPin, Bool.and_eq_true]
  refine and_congr_right fun _ => ?_
  cases s.picture.lamp <;> simp

/-! ### The bytes shifted out (R174, R175) -/

theorem shiftedOut_length (s : State) (n : Nat) : (s.shiftedOut n).length = n := by
  simp only [State.shiftedOut, List.length_take, List.length_append, List.length_cons, List.length_replicate]
  omega

theorem shiftedOut_closed (h : ¬Open s) (n : Nat) :
    s.shiftedOut n = (s.statusByte :: List.replicate n 0xFF).take n := by
  rw [← portOpen_iff, Bool.not_eq_true] at h
  rw [State.shiftedOut, h]
  rfl

theorem shiftedOut_open (h : Open s) (n : Nat) : s.shiftedOut n =
    (s.statusByte :: resultByte s.port.answer.result :: s.port.answer.number :: s.port.answer.request ::
      BitVec.ofNat 8 (bodyBytes s.port.answer.body).length :: bodyBytes s.port.answer.body ++
        List.replicate n 0xFF).take n := by
  rw [State.shiftedOut, h.portOpen]
  rfl

/-- The byte that is shifted out at a bit, most significant bit first. -/
theorem misoPin_driven (s : State) (k : Nat) : ∃ b, (s.shiftedOut (k / 8 + 1)).getLast? = some b ∧
    (s.shiftedOut (k / 8 + 1))[k / 8]? = some b ∧ s.misoPin false false k = some (b.getMsbD (k % 8)) := by
  have hlt : k / 8 < (s.shiftedOut (k / 8 + 1)).length := by simp [shiftedOut_length]
  have hget := List.getElem?_eq_getElem hlt
  refine ⟨_, ?_, hget, ?_⟩
  · rw [List.getLast?_eq_getElem?, shiftedOut_length]
    exact hget
  · simp [State.misoPin, hget]

theorem misoPin_highZ (s : State) (reset cs : Bool) (k : Nat) :
    s.misoPin reset cs k = none ↔ reset = true ∨ cs = true := by
  cases reset <;> cases cs <;> simp [State.misoPin]

theorem misoPin_status (s : State) {k : Nat} (h : k < 8) : s.misoPin false false k = some (s.statusByte.getMsbD k) := by
  obtain ⟨b, -, hb, hpin⟩ := misoPin_driven s k
  rw [Nat.div_eq_of_lt h] at hb
  rw [hpin, Nat.mod_eq_of_lt h]
  have hfirst : (s.shiftedOut 1)[0]? = some s.statusByte := rfl
  rw [hfirst] at hb
  rw [Option.some.inj hb]

theorem misoPin_closed (hclosed : ¬Open s) {k : Nat} (h : 8 ≤ k) : s.misoPin false false k = some true := by
  obtain ⟨b, -, hb, hpin⟩ := misoPin_driven s k
  obtain ⟨m, hm⟩ : ∃ m, k / 8 = m + 1 := ⟨k / 8 - 1, by omega⟩
  have hff : b = 0xFF := by
    rw [shiftedOut_closed hclosed, hm] at hb
    simpa [List.getElem?_replicate, List.getElem?_take, eq_comm] using hb
  have hbit : ∀ i, i < 8 → (0xFF#8).getMsbD i = true := by decide
  rw [hpin, hff]
  exact congrArg some (hbit _ (Nat.mod_lt _ (by decide)))

theorem bodyBytes_le (b : AnswerBody) (h : ∀ l, b ≠ .bytes l) : (bodyBytes b).length ≤ 125 := by
  unfold bodyBytes
  split
  · exact Nat.zero_le _
  · next l => exact absurd rfl (h l)
  · exact List.length_take_le _ _

/-! ### The bits sampled (R172) -/

theorem portBits_eq_msb (b : Byte) : portBits b = [b.getMsbD 0, b.getMsbD 1, b.getMsbD 2, b.getMsbD 3, b.getMsbD 4,
    b.getMsbD 5, b.getMsbD 6, b.getMsbD 7] := rfl

theorem portBits_flatMap_length (l : List Byte) : (l.flatMap portBits).length = l.length * 8 := by
  induction l with
  | nil => rfl
  | cons b rest ih =>
    rw [List.flatMap_cons, List.length_append, ih, List.length_cons, portBits_eq]
    simp only [List.length_cons, List.length_nil]
    omega

theorem sampled_whole (s : State) (l : List Byte) : s.sampled (l.flatMap portBits) = s.transaction false l := by
  rw [State.sampled, portBytes_flatMap, portBits_flatMap_length, Nat.mul_mod_left]
  rfl

/-- Settles O22: the cadences, the status byte and the pins, and the bytes shifted out, each by its own lemma. -/
theorem portAndCadenceEvents : Obligations.PortAndCadenceEvents := by
  unfold Obligations.PortAndCadenceEvents
  intro s
  obtain ⟨h7, h6, h5, h4, h3, hmode⟩ := statusByte_bits s
  refine ⟨rfl, rfl, fun _ => rfl, fun c h => exec_closed h, fun p half h => ?horn, fun high h => ?lamp,
    fun h => ?hornRests, fun h => ?lampRests, ⟨?busy, ?attention, h5, h4, h3, ?mode⟩, ?attn, hornPin_iff s, lampPin_iff s,
    fun k reset cs => misoPin_highZ s reset cs k, fun k => misoPin_status s, fun h k => misoPin_closed h,
    fun k => ?driven, shiftedOut_closed, fun h n body hbody => hbody ▸ shiftedOut_open h n, rfl, rfl, fun _ => rfl,
    bodyBytes_le, sampled_whole s, portBits_eq_msb⟩
  case horn =>
    rw [show exec (.annunciatorHalfSecond .horn) s = .next (s.cadence .horn) from rfl, State.cadence, h]
    cases p <;> rfl
  case lamp =>
    rw [show exec (.annunciatorHalfSecond .lamp) s = .next (s.cadence .lamp) from rfl, State.cadence, h]
    rfl
  case hornRests =>
    have htick : s.picture.horn.tick = s.picture.horn := by
      obtain h | h := h
      · rw [h]
        rfl
      · rw [h]
        rfl
    rw [show exec (.annunciatorHalfSecond .horn) s = .next (s.cadence .horn) from rfl, State.cadence, htick]
  case lampRests =>
    have htick : s.picture.lamp.tick = s.picture.lamp := by
      obtain h | h := h
      · rw [h]
        rfl
      · rw [h]
        rfl
    rw [show exec (.annunciatorHalfSecond .lamp) s = .next (s.cadence .lamp) from rfl, State.cadence, htick]
  case busy =>
    rw [h7, ← portOpen_iff, State.portOpen]
    cases s.port.started <;> cases s.port.busy <;> simp
  case attention => rw [h6, bne_iff_ne, attention_ne_zero_iff]
  case mode =>
    rw [hmode]
    cases s.node.mode <;> rfl
  case attn => rw [State.attnLow, Bool.and_eq_true, bne_iff_ne, attention_ne_zero_iff]
  case driven =>
    obtain ⟨b, hlast, -, hpin⟩ := misoPin_driven s k
    exact ⟨b, hlast, hpin⟩

end Sys2Proof.Answers

/-! PROOF. The layouts of chapter 13: frame bodies, frames on a line and console requests are read back. -/

namespace Sys2Proof.Answers

open Sys2Proof.Machine Sys2Proof.Claims Sys2Proof.Keep

/-! ### Multi-byte fields (13) -/

@[simp] theorem join2_bytes (x : Half) : join2 (x.extractLsb' 8 8) (x.extractLsb' 0 8) = x :=
  BitVec.extractLsb'_append_extractLsb' (w := 8) (len := 8)

@[simp] theorem join3_bytes (x : BitVec 24) :
    join3 (x.extractLsb' 16 8) (x.extractLsb' 8 8) (x.extractLsb' 0 8) = x := by
  rw [join3, BitVec.extractLsb'_append_extractLsb'_eq_extractLsb' (by rfl)]
  exact BitVec.extractLsb'_append_extractLsb' (w := 16) (len := 8)

@[simp] theorem join4_bytes (x : Quad) :
    join4 (x.extractLsb' 24 8) (x.extractLsb' 16 8) (x.extractLsb' 8 8) (x.extractLsb' 0 8) = x := by
  rw [join4, BitVec.extractLsb'_append_extractLsb'_eq_extractLsb' (by rfl),
    BitVec.extractLsb'_append_extractLsb'_eq_extractLsb' (by rfl)]
  exact BitVec.extractLsb'_append_extractLsb' (w := 24) (len := 8)

/-! ### Lists of entries (13.3) -/

theorem readChanges_bytes (es : List ChangeEntry) : readChanges (es.flatMap changeEntryBytes) = some es := by
  induction es with
  | nil => rfl
  | cons e rest ih => simp [changeEntryBytes, idBytes, bytes2, bytes4, readChanges, ih]

theorem readAcks_bytes (es : List AckEntry) : readAcks (es.flatMap ackEntryBytes) = some es := by
  induction es with
  | nil => rfl
  | cons e rest ih => simp [ackEntryBytes, idBytes, bytes2, readAcks, ih]

theorem readCommits_bytes (es : List CommitEntry) : readCommits (es.flatMap commitEntryBytes) = some es := by
  induction es with
  | nil => rfl
  | cons e rest ih => simp [commitEntryBytes, bytes2, readCommits, ih]

theorem readSummary_field (x : OfferSummary) :
    readSummary (bit1 x.flood ++ x.unack ++ x.escalated ++ x.shelved) = x := by
  have hvalue : (bit1 x.flood ++ x.unack ++ x.escalated ++ x.shelved).toNat =
      (((bit1 x.flood).toNat * 512 + x.unack.toNat) * 512 + x.escalated.toNat) * 32 + x.shelved.toNat := by
    simp only [toNat_append_eq, Nat.reducePow]
  have hunack := x.unack.isLt
  have hescalated := x.escalated.isLt
  have hshelved := x.shelved.isLt
  have hflood : (bit1 x.flood ++ x.unack ++ x.escalated ++ x.shelved).getLsbD 23 = x.flood := by
    simp only [BitVec.getLsbD_append]
    simp [bit1]
  have hfields : (bit1 x.flood ++ x.unack ++ x.escalated ++ x.shelved).extractLsb' 14 9 = x.unack ∧
      (bit1 x.flood ++ x.unack ++ x.escalated ++ x.shelved).extractLsb' 5 9 = x.escalated ∧
      (bit1 x.flood ++ x.unack ++ x.escalated ++ x.shelved).extractLsb' 0 5 = x.shelved := by
    refine ⟨BitVec.eq_of_toNat_eq ?_, BitVec.eq_of_toNat_eq ?_, BitVec.eq_of_toNat_eq ?_⟩
    all_goals
      rw [BitVec.extractLsb'_toNat, Nat.shiftRight_eq_div_pow, hvalue]
      omega
  unfold readSummary
  rw [hflood, hfields.1, hfields.2.1, hfields.2.2]

theorem readSummaries_bytes (xs : List OfferSummary) : readSummaries (xs.flatMap summaryBytes) = some xs := by
  induction xs with
  | nil => rfl
  | cons x rest ih =>
    rw [List.flatMap_cons, summaryBytes, bytes3]
    simp only [List.cons_append, List.nil_append, readSummaries, ih, join3_bytes, readSummary_field, Option.map_some]

/-- The area byte of a claim list entry: bit 7 is set when a badge follows (13.3). -/
theorem areaByte_bits (a : BitVec 5) : (0#3 ++ a)[7] = false ∧ (0#3 ++ a).extractLsb' 0 5 = a ∧
    (0x4#3 ++ a)[7] = true ∧ (0x4#3 ++ a).extractLsb' 0 5 = a := by
  revert a
  decide

theorem readClaims_bytes (es : List ClaimEntry) {n : Nat} (h : es.length ≤ n) :
    readClaims n (es.flatMap claimEntryBytes) = some es := by
  induction es generalizing n with
  | nil => cases n <;> rfl
  | cons e rest ih =>
    obtain ⟨m, rfl⟩ : ∃ m, n = m + 1 := ⟨n - 1, by simp at h; omega⟩
    obtain ⟨hplain, harea, hbadge, harea'⟩ := areaByte_bits e.area
    have hrest := ih (n := m) (by simpa using h)
    obtain ⟨area, serial, badge⟩ := e
    cases badge with
    | none => simp [claimEntryBytes, bytes2, readClaims, hplain, harea, hrest]
    | some b => simp [claimEntryBytes, bytes2, bytes3, readClaims, hbadge, harea', hrest]

/-- The flags byte of a record (13.3). -/
theorem flagsByte_bits (p : BitVec 3) (c : Bool) (h : BitVec 2) : (flagsByte p c h false).extractLsb' 4 2 = h ∧
    (flagsByte p c h false).extractLsb' 0 3 = p ∧ (flagsByte p c h false)[3] = c := by
  revert p c h
  decide

theorem readPictureTail_bytes (h : PictureHandling) (rest : List Byte) :
    readPictureTail (pictureHandlingCode h) (pictureHandlingBytes h ++ rest) = some (h, rest) := by
  cases h <;> simp [readPictureTail, pictureHandlingCode, pictureHandlingBytes, bytes2, bytes3]

theorem readPictures_bytes (rs : List PictureRecord) {n : Nat} (h : rs.length ≤ n) :
    readPictures n (rs.flatMap pictureRecordBytes) = some rs := by
  induction rs generalizing n with
  | nil => cases n <;> rfl
  | cons r rest ih =>
    obtain ⟨m, rfl⟩ : ∃ m, n = m + 1 := ⟨n - 1, by simp at h; omega⟩
    obtain ⟨hcode, hpriority, hcleared⟩ := flagsByte_bits r.priority r.cleared (pictureHandlingCode r.handling)
    have hrest := ih (n := m) (by simpa using h)
    have htail := readPictureTail_bytes r.handling (rest.flatMap pictureRecordBytes)
    simp [pictureRecordBytes, idBytes, bytes2, bytes3, bytes4, readPictures, hcode, hpriority, hcleared, htail, hrest]

/-! ### Frame bodies (13.3) -/

theorem presenceFlags_bits (p : PresenceBody) : (presenceFlags p).getLsbD 0 = p.dark ∧
    (presenceFlags p).getLsbD 1 = p.overdue ∧ (presenceFlags p).getLsbD 2 = p.pictureValid ∧
    (presenceFlags p).getLsbD 3 = p.joinMark := by
  unfold presenceFlags
  cases p.dark <;> cases p.overdue <;> cases p.pictureValid <;> cases p.joinMark <;> decide

/-- The byte of lines and trouble (13.3). -/
theorem linesByte_bits (x : Reports) (lineB lineA : BitVec 2) (l : Byte) (hl : l = bit1 x.duplicateSeen ++
    bit1 x.lineDisturbed ++ bit1 x.echoFault ++ bit1 x.listFull ++ lineB ++ lineA) :
    l.extractLsb' 0 2 = lineA ∧ l.extractLsb' 2 2 = lineB ∧ readReports l = x := by
  subst hl
  obtain ⟨r0, r1, r2, r3⟩ := x
  revert lineA lineB r0 r1 r2 r3
  decide

theorem presenceLines_bits (p : PresenceBody) : (presenceLines p).extractLsb' 0 2 = p.lineA ∧
    (presenceLines p).extractLsb' 2 2 = p.lineB ∧ readReports (presenceLines p) = p.reports :=
  linesByte_bits p.reports p.lineB p.lineA _ rfl

theorem length_le_flatMap {α : Type} {f : α → List Byte} (hf : ∀ x, 1 ≤ (f x).length) (l : List α) :
    l.length ≤ (l.flatMap f).length := by
  induction l with
  | nil => exact Nat.zero_le _
  | cons x rest ih =>
    have hx := hf x
    rw [List.flatMap_cons, List.length_append, List.length_cons]
    omega

theorem claimEntryBytes_length (e : ClaimEntry) : (claimEntryBytes e).length = claimEntrySize e := by
  obtain ⟨a, n, b⟩ := e
  cases b <;> rfl

theorem pictureRecordBytes_length (r : PictureRecord) :
    13 ≤ (pictureRecordBytes r).length ∧ (pictureRecordBytes r).length ≤ 19 := by
  obtain ⟨id, p, c, h, o, t, feed, age⟩ := r
  cases h <;> simp [pictureRecordBytes, idBytes, bytes2, bytes3, bytes4, pictureHandlingBytes]

/-- The body of a frame is read back, before its counts are checked (13.3). -/
theorem readBody_frameBody (f : Frame) : readBody (frameKind f) (frameBody f) = some f := by
  cases f with
  | presence p =>
    obtain ⟨hdark, hoverdue, hvalid, hmark⟩ := presenceFlags_bits p
    obtain ⟨hlineA, hlineB, hreports⟩ := presenceLines_bits p
    have hclaims := readClaims_bytes p.claims (length_le_flatMap (f := claimEntryBytes) (fun e => by
      rw [claimEntryBytes_length, claimEntrySize]
      split <;> decide) p.claims)
    show (readClaims (p.claims.flatMap claimEntryBytes).length (p.claims.flatMap claimEntryBytes)).map
      (fun es => Frame.presence (readPresence (presenceFlags p) (presenceLines p) _ _ _ p.activeRank _ _ _ _ _ _ _ _ _ es)) = _
    rw [hclaims, Option.map_some, readPresence, join2_bytes, join3_bytes, join3_bytes, join4_bytes, hdark, hoverdue,
      hvalid, hmark, hlineA, hlineB, hreports]
  | alarmChange es => exact congrArg (Option.map Frame.alarmChange) (readChanges_bytes es)
  | ack b es =>
    show (readAcks (es.flatMap ackEntryBytes)).map (Frame.ack (join3 _ _ _)) = _
    rw [readAcks_bytes, join3_bytes]
    rfl
  | shelve id d b =>
    show some (Frame.shelve ⟨id.area, join2 _ _⟩ (join2 _ _) (join3 _ _ _)) = _
    rw [join2_bytes, join2_bytes, join3_bytes]
  | unshelve id =>
    show some (Frame.unshelve ⟨id.area, join2 _ _⟩) = _
    rw [join2_bytes]
  | claim r a n b =>
    show some (Frame.claim r a (join2 _ _) (join3 _ _ _)) = _
    rw [join2_bytes, join3_bytes]
  | take a n b =>
    show some (Frame.take a (join2 _ _) (join3 _ _ _)) = _
    rw [join2_bytes, join3_bytes]
  | offer n t b m xs =>
    show (readSummaries (xs.flatMap summaryBytes)).map (Frame.offer n t (join3 _ _ _) (join4 _ _ _ _)) = _
    rw [readSummaries_bytes, join3_bytes, join4_bytes]
    rfl
  | answer o n d r b =>
    show some (Frame.answer o n d r (join3 _ _ _)) = _
    rw [join3_bytes]
  | commit n i b es =>
    show (readCommits (es.flatMap commitEntryBytes)).map (Frame.commit n i (join3 _ _ _)) = _
    rw [readCommits_bytes, join3_bytes]
    rfl
  | withdraw n t => rfl
  | pictureRequest => rfl
  | picture m i rs =>
    have hrecords := readPictures_bytes rs (length_le_flatMap (f := pictureRecordBytes)
      (fun r => Nat.le_trans (by decide) (pictureRecordBytes_length r).1) rs)
    show (readPictures _ (rs.flatMap pictureRecordBytes)).map (Frame.picture (join2 _ _) i) = _
    rw [hrecords, join2_bytes]
    rfl
  | pictureEnd m n =>
    show some (Frame.pictureEnd (join2 _ _) (join2 _ _)) = _
    rw [join2_bytes, join2_bytes]

theorem decodeFrame_frameBody {f : Frame} (h : frameFits f = true) :
    decodeFrame (frameKind f) (frameBody f) = some f := by
  rw [decodeFrame, readBody_frameBody]
  exact if_pos h

/-- Settles O17: each field and each list of entries is read back, and the counts are those of the layout. -/
theorem frameBodiesReadBack : Obligations.FrameBodiesReadBack := by
  unfold Obligations.FrameBodiesReadBack
  exact fun _ => decodeFrame_frameBody

/-! ### The frame on a line (R132, 13.2) -/

theorem length_flatMap_le {α : Type} {f : α → List Byte} {k : Nat} (hf : ∀ x, (f x).length ≤ k) (l : List α) :
    (l.flatMap f).length ≤ l.length * k := by
  induction l with
  | nil => exact Nat.zero_le _
  | cons x rest ih =>
    have hx := hf x
    rw [List.flatMap_cons, List.length_append, List.length_cons, Nat.succ_mul]
    omega

theorem claims_length (es : List ClaimEntry) : (es.flatMap claimEntryBytes).length = claimsSize es := by
  induction es with
  | nil => rfl
  | cons e rest ih =>
    rw [List.flatMap_cons, List.length_append, ih, claimEntryBytes_length]
    rfl

theorem areaCount_le (m : AreaSet) : areaCount m ≤ 32 :=
  Nat.le_trans (List.length_filter_le _ _) (Nat.le_of_eq List.length_range)

/-- A body that fits its layout has at most 120 bytes (R132). -/
theorem frameBody_length {f : Frame} (h : frameFits f = true) : (frameBody f).length ≤ 120 := by
  cases f with
  | presence p =>
    have hsize : claimsSize p.claims ≤ 103 := of_decide_eq_true h
    have hclaims := claims_length p.claims
    simp only [frameBody, bytes2, bytes3, bytes4, List.length_cons, List.length_append, List.length_nil]
    omega
  | alarmChange es =>
    have hle := length_flatMap_le (f := changeEntryBytes) (k := 9) (fun _ => Nat.le_refl 9) es
    simp only [frameFits, Bool.and_eq_true, decide_eq_true_eq] at h
    simp only [frameBody]
    omega
  | ack b es =>
    have hle := length_flatMap_le (f := ackEntryBytes) (k := 4) (fun _ => Nat.le_refl 4) es
    simp only [frameFits, Bool.and_eq_true, decide_eq_true_eq] at h
    simp only [frameBody, bytes3, List.length_append, List.length_cons, List.length_nil]
    omega
  | offer n t b m xs =>
    have hle := length_flatMap_le (f := summaryBytes) (k := 3) (fun _ => Nat.le_refl 3) xs
    have hcount := areaCount_le m
    simp only [frameFits, Bool.and_eq_true, beq_iff_eq] at h
    simp only [frameBody, bytes3, bytes4, List.length_append, List.length_cons, List.length_nil]
    omega
  | commit n i b es =>
    have hle := length_flatMap_le (f := commitEntryBytes) (k := 3) (fun _ => Nat.le_refl 3) es
    simp only [frameFits, Bool.and_eq_true, decide_eq_true_eq] at h
    simp only [frameBody, bytes3, List.length_append, List.length_cons, List.length_nil]
    omega
  | picture m i rs =>
    have hle := length_flatMap_le (f := pictureRecordBytes) (k := 19) (fun r => (pictureRecordBytes_length r).2) rs
    simp only [frameFits, Bool.and_eq_true, decide_eq_true_eq] at h
    simp only [frameBody, bytes2, List.length_append, List.length_cons, List.length_nil]
    omega
  | shelve id d b => simp [frameBody, idBytes, bytes2, bytes3]
  | unshelve id => simp [frameBody, idBytes, bytes2]
  | claim r a n b => simp [frameBody, bytes2, bytes3]
  | take a n b => simp [frameBody, bytes2, bytes3]
  | answer o n d r b => simp [frameBody, bytes3]
  | withdraw n t => simp [frameBody]
  | pictureRequest => simp [frameBody]
  | pictureEnd m n => simp [frameBody, bytes2]

/-- The bytes of a frame are a good copy of it (R132). -/
theorem goodCopy_wire (kind sender seq : Byte) {body : List Byte} (h : body.length ≤ 120) :
    goodCopy (wire kind sender seq body) = some ⟨kind, sender, seq, body⟩ := by
  have hn : (BitVec.ofNat 8 body.length).toNat = body.length := by
    rw [BitVec.toNat_ofNat]
    exact Nat.mod_eq_of_lt (by omega)
  have hcrc : (bytes2 (crc16 (frameCore kind sender seq body))).length = 2 := rfl
  have hwire : wire kind sender seq body = 0x55#8 :: 0x55#8 :: 0xC3#8 :: kind :: sender :: seq ::
      BitVec.ofNat 8 body.length :: (body ++ bytes2 (crc16 (frameCore kind sender seq body))) := rfl
  rw [hwire, goodCopy]
  rw [hn, List.take_left, List.drop_left, List.length_append, hcrc]
  exact if_pos (by simp [h])

theorem receivedCommand_frame {f : Frame} {sender seq : Byte} {own : Option Station} {copyA copyB : Copy}
    (hfits : frameFits f = true) (hok : stationOk sender = true) (hown : own ≠ some sender) :
    receivedCommand own ⟨frameKind f, sender, seq, frameBody f⟩ copyA copyB = received ⟨sender, seq, copyA, copyB⟩ f := by
  have hother : (own == some sender) = false := beq_eq_false_iff_ne.mpr hown
  unfold receivedCommand
  rw [hother, hok, decodeFrame_frameBody hfits]
  cases f <;> rfl

/-- A byte whose stop bit is wrong spoils the copy (R132). -/
theorem lineBytes_spoiled (l : List Byte) {i : Nat} (h : i < l.length) (k : Nat) :
    lineBytes k ((lineBits l).set (10 * i + 9) false) = none := by
  induction l generalizing i k with
  | nil => cases h
  | cons b rest ih =>
    rw [lineBits_cons]
    cases i with
    | zero => rfl
    | succ i =>
      have hrest := ih (Nat.lt_of_succ_lt_succ h) 0
      have hset : (byteOnLine b ++ lineBits rest).set (10 * (i + 1) + 9) false =
          byteOnLine b ++ (lineBits rest).set (10 * i + 9) false := by
        rw [List.set_append_right _ _ (by rw [byteOnLine_eq]; simp only [List.length_cons, List.length_nil]; omega)]
        rfl
      rw [hset, byteOnLine_eq]
      simp [lineBytes, hrest]

theorem goodBits_spoiled {l : List Byte} {i : Nat} (h : i < l.length) :
    goodBits ((lineBits l).set (10 * i + 9) false) = none := by
  have hstart : ((lineBits l).set (10 * i + 9) false).dropWhile id = (lineBits l).set (10 * i + 9) false := by
    cases l with
    | nil => cases h
    | cons b rest => rfl
  rw [goodBits, hstart, lineBytes_spoiled l h]
  rfl

/-- Settles O18: the copy by its bytes and its bits, the command by the body, and the spoiled copy by its stop bit. -/
theorem sentFrameIsReceived : Obligations.SentFrameIsReceived := by
  unfold Obligations.SentFrameIsReceived
  refine ⟨fun b => rfl, fun f sender seq own copyA copyB hfits hok hown => ?_, fun l i => goodBits_spoiled⟩
  have hgood := goodCopy_wire (frameKind f) sender seq (frameBody_length hfits)
  exact ⟨_, hgood, (goodBits_lineBits _).trans hgood, receivedCommand_frame hfits hok hown⟩

/-! ### Console requests (13.4) -/

theorem readSettings_bytes (x : AreaSettings) : readSettings (settingsBytes x) = some x := by
  show some (AreaSettings.mk x.feed x.standby x.ackRank x.shelveRank x.holdRank x.takeRank (join2 _ _) (join2 _ _)
    x.shelveLimit) = _
  rw [join2_bytes, join2_bytes]

/-- Settles O19, request by request. -/
theorem requestsReadBack : Obligations.RequestsReadBack := by
  unfold Obligations.RequestsReadBack
  intro own c code body hshape h
  cases c
  case nop => cases h; rfl
  case readStatus => cases h; rfl
  case readAttention => cases h; rfl
  case readPeer n => cases h; rfl
  case readArea a => cases h; rfl
  case readAlarm a p =>
    cases h
    show Instr.readAlarm a (join2 _ _) = _
    rw [join2_bytes]
  case readList n =>
    cases h
    show Instr.readList (join2 _ _) = _
    rw [join2_bytes]
  case readWindow => cases h; rfl
  case readHandover => cases h; rfl
  case setTrim t => cases h; rfl
  case restart => cases h; rfl
  case setStation n g => cases h; rfl
  case setArea a k x =>
    cases x with
    | none =>
      cases h
      exact if_neg (bne_iff_ne.mp hshape)
    | some x =>
      cases h
      have hread := readSettings_bytes x
      show (if k = 0x00 then _ else match readSettings (settingsBytes x) with
        | some y => Instr.setArea a k (some y)
        | none => .unknownRequest 0x11) = _
      rw [if_neg (bne_iff_ne.mp hshape), hread]
  case setShiftPattern n m l g =>
    cases h
    show Instr.setShiftPattern n (join2 _ _) l g = _
    rw [join2_bytes]
  case setClock t =>
    cases h
    show Instr.setClock (join4 _ _ _ _) = _
    rw [join4_bytes]
  case join => cases h; rfl
  case signOn b r q =>
    cases h
    show Instr.signOn (join3 _ _ _) r (join4 _ _ _ _) = _
    rw [join3_bytes, join4_bytes]
  case signOnRelief b r q =>
    cases h
    show Instr.signOnRelief (join3 _ _ _) r (join4 _ _ _ _) = _
    rw [join3_bytes, join4_bytes]
  case signOffActive => cases h; rfl
  case signOffRelief x =>
    cases h
    exact if_neg (bne_iff_ne.mp hshape)
  case setActingRank x r => cases h; rfl
  case postRaise a p q =>
    cases h
    show Instr.postRaise a (join2 _ _) q = _
    rw [join2_bytes]
  case postClear a p =>
    cases h
    show Instr.postClear a (join2 _ _) = _
    rw [join2_bytes]
  case acknowledge a p o =>
    cases h
    show Instr.acknowledge a (join2 _ _) o = _
    rw [join2_bytes]
  case acknowledgeArea a => cases h; rfl
  case acknowledgeAtCursor => cases h; rfl
  case shelve a p d =>
    cases h
    show Instr.shelve a (join2 _ _) (join2 _ _) = _
    rw [join2_bytes, join2_bytes]
  case unshelve a p =>
    cases h
    show Instr.unshelve a (join2 _ _) = _
    rw [join2_bytes]
  case silenceHorn => cases h; rfl
  case placeCursor r => cases h; rfl
  case scroll o =>
    cases h
    show Instr.scroll (join2 _ _) = _
    rw [join2_bytes]
  case setScope x => cases h; rfl
  case setFocus a => cases h; rfl
  case setEntryMode d f => cases h; rfl
  case claimArea a => cases h; rfl
  case takeArea a => cases h; rfl
  case offerHandover n m =>
    cases h
    show (if some own == some n then Instr.offerSeatChange (join4 _ _ _ _) else .offerHandover n (join4 _ _ _ _)) = _
    rw [join4_bytes]
    by_cases hn : n = own
    · subst hn
      rw [if_pos (beq_self_eq_true _)]
      exact (if_pos rfl).symm
    · have hown : ¬(some own == some n) = true := fun he => hn (Option.some.inj (eq_of_beq he)).symm
      rw [if_neg hown]
      exact (if_neg hn).symm
  case offerSeatChange m =>
    cases h
    show (if some own == some own then Instr.offerSeatChange (join4 _ _ _ _) else .offerHandover own (join4 _ _ _ _)) = _
    rw [join4_bytes, if_pos (beq_self_eq_true _)]
  case acceptHandover n => cases h; rfl
  case declineHandover n => cases h; rfl
  case withdrawOffer => cases h; rfl
  case scheduleOffer n m f =>
    cases h
    show Instr.scheduleOffer n (join4 _ _ _ _) (join4 _ _ _ _) = _
    rw [join4_bytes, join4_bytes]
  case cancelSchedule => cases h; rfl
  all_goals cases h

end Sys2Proof.Answers

/-! PROOF. Reception: a frame from a peer known to be PRESENT goes to the block that owns its kind (R141, R155); and the
OFFER, ANSWER and WITHDRAW frames (8.3 to 8.5). -/

namespace Sys2Proof.Answers

open Sys2Proof.Machine Sys2Proof.Claims Sys2Proof.Keep

variable {c : Instr} {s t u : State} {rx : Rx} {f : Frame}

/-! ### What every frame does before its owner applies it -/

theorem line_setLine (n : LineName) (l : Line) (s : State) : (s.setLine n l).line n = l := by
  cases n <;> rfl

theorem goodCopyOn_sound {n : LineName} (h : Sound (s.line n)) :
    s.goodCopyOn n = s.setLine n { s.line n with heard := true } := by
  obtain ⟨hgood, hdue⟩ := h
  have hsame : s.silenceLine n = s := if_neg (by simp [hdue])
  unfold State.goodCopyOn
  dsimp only
  rw [hsame, hgood]

/-- The lines deliver a good copy each. -/
def linesHeard (s : State) : State := { s with bus := { s.bus with
  lineA := { s.bus.lineA with heard := true }, lineB := { s.bus.lineB with heard := true } } }

theorem linesDeliver_good (hA : Sound s.bus.lineA) (hB : Sound s.bus.lineB) :
    (s.lineDelivers .a .good).lineDelivers .b .good = linesHeard s := by
  have hfirst : s.lineDelivers .a .good = s.setLine .a { s.line .a with heard := true } := goodCopyOn_sound hA
  rw [hfirst]
  exact goodCopyOn_sound (n := .b) hB

/-- A PRESENT peer that is not falling silent is tracked: its silence count is 0 (R155). -/
theorem track_present {n : Station} {r : PeerRecord} (hr : s.peer n = some r) (hpresent : r.state = .present)
    (hsilence : r.silence < 3) : s.track n = s.setPeer n { r with silence := 0 } := by
  have hafter : silenceAfter r = 0 := if_neg (by
    rw [Bool.and_eq_true, beq_iff_eq, beq_iff_eq]
    omega)
  have hnew : (r.state == .lost) = false := by rw [hpresent]; rfl
  unfold State.track
  rw [hr]
  dsimp only
  rw [hafter, hnew, ← hpresent]
  rfl

theorem hears_stationOk (h : Hears s rx) : stationOk rx.sender = true := (stationOk_iff _).mpr ⟨h.low, h.high⟩

theorem hears_other (h : Hears s rx) : s.isOwn rx.sender = false := (isOwn_eq_false_iff s _).mpr h.other

/-- A frame that is heard is tracked, and a well-formed one goes to the block that owns its kind (R141, R155, R183). -/
theorem receive_heard (h : Hears s rx) (x : Option Frame) : s.receive rx true x =
    x.elim (heard s rx) ((heard s rx).applyFrame rx.sender (s.peer rx.sender)) := by
  obtain ⟨r, hr, hpresent, hsilence⟩ := h.known
  have hok := hears_stationOk h
  have hother := hears_other h
  have hgood : anyGood rx = true := by rw [anyGood, h.copyA]; rfl
  have hecho : s.isEcho rx = false := by rw [State.isEcho, hother]; rfl
  have hfresh : ((linesHeard s).lastSeq rx.sender == some rx.seq) = false := beq_eq_false_iff_ne.mpr h.fresh
  have hnote : (linesHeard s).noteSeq rx.sender rx.seq = { linesHeard s with bus := { (linesHeard s).bus with
      lastSeq := s.bus.lastSeq.set (rx.sender.toNat - 1) (some rx.seq) } } := if_pos hok
  have htrack : State.track rx.sender ((linesHeard s).noteSeq rx.sender rx.seq) = heard s rx := by
    have hpeer : ((linesHeard s).noteSeq rx.sender rx.seq).peer rx.sender = some r := by rw [hnote]; exact hr
    rw [track_present hpeer hpresent hsilence, hnote, State.setPeer, if_pos hok, heard, hr]
    rfl
  have hown : ((linesHeard s).noteSeq rx.sender rx.seq).isOwn rx.sender = false := by rw [hnote]; exact hother
  have hbefore : ((linesHeard s).noteSeq rx.sender rx.seq).peer rx.sender = s.peer rx.sender := by rw [hnote]; rfl
  unfold State.receive
  rw [h.receives, hgood, hecho, h.copyA, h.copyB, linesDeliver_good h.lineA h.lineB]
  dsimp only
  rw [hok, hfresh]
  show State.accepted rx x ((linesHeard s).noteSeq rx.sender rx.seq) = _
  unfold State.accepted
  rw [hown, htrack, hbefore]
  cases x <;> rfl

theorem hear_eq (h : Hears s rx) (hfits : frameFits f = true) :
    s.hear rx f = (heard s rx).applyFrame rx.sender (s.peer rx.sender) f := by
  have hframe : wellFormedFrame f = some f := if_pos hfits
  rw [State.hear, hframe]
  exact receive_heard h (some f)

/-- A frame whose body does not fit the layout of its kind is tracked, and no block takes it (R183). -/
theorem hear_unfit (h : Hears s rx) (hfits : frameFits f = false) : s.hear rx f = heard s rx := by
  have hframe : wellFormedFrame f = none := if_neg (by rw [hfits]; exact Bool.false_ne_true)
  rw [State.hear, hframe]
  exact receive_heard h none

theorem exec_received (rx : Rx) (f : Frame) (s : State) : exec (received rx f) s = .next (s.hear rx f) := by
  cases f <;> rfl

/-- The command of a frame that is heard does what its owner does with it. -/
theorem exec_heard (h : Hears s rx) (hfits : frameFits f = true) :
    exec (received rx f) s = .next ((heard s rx).applyFrame rx.sender (s.peer rx.sender) f) := by
  rw [exec_received, hear_eq h hfits]

end Sys2Proof.Answers

/-! PROOF. OFFER, ANSWER and WITHDRAW frames (8.3 to 8.5). -/

namespace Sys2Proof.Answers

open Sys2Proof.Machine Sys2Proof.Claims Sys2Proof.Keep

variable {c : Instr} {s t u : State} {rx : Rx} {f : Frame} {n m : Station} {k : Byte} {b : Badge}

/-! ### OFFER (R117) -/

theorem applyOffer_ignored {areas : AreaSet} {xs : List OfferSummary} (h : s.node.number ≠ some m ∨ ¬Active s) :
    s.applyOffer n k m b areas xs = s := by
  refine if_pos ?_
  obtain h | h := h
  · rw [(isOwn_eq_false_iff s m).mpr h]
    rfl
  · have hoff : s.isActive = false := by rw [← Bool.not_eq_true, isActive_iff]; exact h
    rw [hoff, Bool.not_false, Bool.or_true, Bool.true_or]

/-- The checks of an OFFER at its target (R117). -/
theorem applyOffer_target {areas : AreaSet} {xs : List OfferSummary} (hm : s.node.number = some m) (hactive : Active s)
    (hn : s.isOwn n = false) : s.applyOffer n k m b areas xs =
      if !s.inIdle then s.queueIfRoom (answerDecline n k reasonBusy)
      else if !s.seated then s.queueIfRoom (answerDecline n k reasonNoOperator)
      else ({ s with handover := { s.handover with
        incoming := .presented ⟨n, k, areas, xs, b, s.now⟩ } }).latch .offerReceived := by
  refine if_neg ?_
  rw [(isOwn_iff s m).mpr hm, isActive_iff.mpr hactive, hn]
  decide

/-! ### ANSWER (R119) -/

theorem applyAnswer_ignored {d r : Byte} (h : s.node.number ≠ some m ∨ ∀ o, s.handover.outgoing ≠ .offered o) :
    s.applyAnswer n m k d r b = s := by
  unfold State.applyAnswer
  split
  · next o ho =>
    obtain h | h := h
    · rw [(isOwn_eq_false_iff s m).mpr h]
      rfl
    · exact absurd ho (h o)
  · rfl
  · rfl

theorem applyAnswer_offered {o : OutOffer} {d r : Byte} (ho : s.handover.outgoing = .offered o)
    (hm : s.node.number = some m) : s.applyAnswer n m k d r b =
      if n = o.target ∧ k = o.number then
        if d = 0x01 then s.answerAccepted n b o else if d = 0x02 then s.endOut o (.declined r) else s
      else s := by
  unfold State.applyAnswer
  rw [ho]
  dsimp only
  rw [(isOwn_iff s m).mpr hm, Bool.true_and]
  simp only [Bool.and_eq_true, beq_iff_eq]
  rfl

/-- The areas that an accepted offer commits. -/
theorem commitSet_eq {o : OutOffer} {x : AreaSet}
    (h : ∀ a, a < 32 → (x.getLsbD a = true ↔ o.areas.getLsbD a = true ∧ s.holds a = true)) :
    (areaSetOf fun a => o.areas.getLsbD a && s.holds a) = x := by
  refine BitVec.eq_of_getLsbD_eq fun a ha => ?_
  rw [Bool.eq_iff_iff, getLsbD_areaSetOf, Bool.and_eq_true, decide_eq_true_eq, Bool.and_eq_true, h a ha]
  exact and_iff_right ha

theorem answerAccepted_none {o : OutOffer} (hset : (areaSetOf fun a => o.areas.getLsbD a && s.holds a) = 0) :
    s.answerAccepted n b o = (s.queueIfRoom (.withdraw o.number o.target)).endOut o .areasLost := by
  unfold State.answerAccepted
  dsimp only
  rw [hset]
  rfl

theorem answerAccepted_full {o : OutOffer} (hset : (areaSetOf fun a => o.areas.getLsbD a && s.holds a) ≠ 0)
    (hfull : 8 ≤ s.tx.urgent.length) : s.answerAccepted n b o = s.endOut o .noRoom := by
  unfold State.answerAccepted
  dsimp only
  rw [if_neg (by simpa using hset), hasRoom_eq_false hfull]
  rfl

theorem answerAccepted_room {o : OutOffer} (hset : (areaSetOf fun a => o.areas.getLsbD a && s.holds a) ≠ 0)
    (hroom : s.tx.urgent.length < 8) : s.answerAccepted n b o = { s with
      handover := { s.handover with
        outgoing := .committing { o with areas := areaSetOf fun a => o.areas.getLsbD a && s.holds a } }
      tx := queued s (.commit o.number n b (s.commitEntries (areaSetOf fun a => o.areas.getLsbD a && s.holds a))) } := by
  unfold State.answerAccepted
  dsimp only
  rw [if_neg (by simpa using hset), hasRoom_eq_true hroom]
  rfl

/-! ### WITHDRAW (R121) -/

theorem applyWithdraw_ignored (h : s.node.number ≠ some m ∨ s.handover.incoming = .idle) :
    s.applyWithdraw n k m = s := by
  unfold State.applyWithdraw
  obtain h | h := h
  · rw [(isOwn_eq_false_iff s m).mpr h]
    cases s.handover.incoming <;> rfl
  · rw [h]

theorem applyWithdraw_standing {o : InOffer} {g : Sec} (hm : s.node.number = some m) (hn : s.isOwn n = false)
    (h : s.handover.incoming = .presented o ∨ s.handover.incoming = .answered o g) : s.applyWithdraw n k m =
      if o.origin = n ∧ o.number = k then s.endIn o .withdrawn else s := by
  have htest : (s.isOwn m && o.origin == n && o.number == k && !s.isOwn n) = decide (o.origin = n ∧ o.number = k) := by
    rw [(isOwn_iff s m).mpr hm, hn]
    simp [Bool.beq_eq_decide_eq]
  unfold State.applyWithdraw
  obtain h | h := h
  · rw [h]
    dsimp only
    rw [htest]
    simp only [decide_eq_true_eq]
  · rw [h]
    dsimp only
    rw [htest]
    simp only [decide_eq_true_eq]

/-- Settles O59: each frame at the station it names, by the lemma about what its owner does with it. -/
theorem offerFramesAreTaken : Obligations.OfferFramesAreTaken := by
  unfold Obligations.OfferFramesAreTaken
  intro s rx k dest b h
  have hn : (heard s rx).isOwn rx.sender = false := (hears_other h :)
  have hoffer : ∀ {areas : AreaSet} {xs : List OfferSummary} {v : State}, frameFits (.offer k dest b areas xs) = true →
      (heard s rx).applyOffer rx.sender k dest b areas xs = v → exec (.offerFrame rx k dest b areas xs) s = .next v :=
    fun hfits hv => (exec_heard h hfits).trans (congrArg _ hv)
  have hanswer : ∀ {origin : Station} {d r : Byte} {v : State},
      (heard s rx).applyAnswer rx.sender origin k d r b = v → exec (.answerFrame rx origin k d r b) s = .next v :=
    fun {origin d r _} hv => (exec_heard (f := .answer origin k d r b) h rfl).trans (congrArg _ hv)
  have hwithdraw : ∀ {v : State},
      (heard s rx).applyWithdraw rx.sender k dest = v → exec (.withdrawFrame rx k dest) s = .next v :=
    fun hv => (exec_heard (f := .withdraw k dest) h rfl).trans (congrArg _ hv)
  refine ⟨fun m xs hfits => ⟨fun hno => hoffer hfits (applyOffer_ignored hno), fun hdest hactive => ?offers⟩,
    fun origin d r => ⟨fun hno => hanswer (applyAnswer_ignored hno), fun o horigin ho => ?answers⟩,
    fun hno => hwithdraw (applyWithdraw_ignored hno), fun o g hdest hin => ?withdraws⟩
  case offers =>
    have happly := applyOffer_target (s := heard s rx) (k := k) (b := b) (areas := m) (xs := xs) hdest hactive hn
    refine ⟨fun hbusy hroom => hoffer hfits (happly.trans ?_), fun hidle hseat hroom => hoffer hfits (happly.trans ?_),
      fun hno hfull => hoffer hfits (happly.trans ?_), fun hidle hseat => hoffer hfits (happly.trans ?_)⟩
    · have hno : State.inIdle (heard s rx) = false := inIdle_eq_false hbusy
      rw [hno, Bool.not_false, if_pos rfl, queueIfRoom_room (s := heard s rx) hroom]
      rfl
    · have hyes : State.inIdle (heard s rx) = true := inIdle_eq_true hidle
      have hnone : State.seated (heard s rx) = false := (seated_eq_false_iff s).mpr hseat
      rw [hyes, hnone, Bool.not_true, Bool.not_false, if_neg Bool.false_ne_true, if_pos rfl,
        queueIfRoom_room (s := heard s rx) hroom]
      rfl
    · rw [queueIfRoom_full (s := heard s rx) hfull, queueIfRoom_full (s := heard s rx) hfull]
      obtain hbusy | hseat := hno
      · have hno : State.inIdle (heard s rx) = false := inIdle_eq_false hbusy
        rw [hno]
        rfl
      · have hnone : State.seated (heard s rx) = false := (seated_eq_false_iff s).mpr hseat
        rw [hnone, Bool.not_false, if_pos rfl, ite_self]
    · have hyes : State.inIdle (heard s rx) = true := inIdle_eq_true hidle
      have hseated : State.seated (heard s rx) = true := (seated_eq_true_iff s).mpr hseat
      rw [hyes, hseated]
      rfl
  case answers =>
    have happly := applyAnswer_offered (s := heard s rx) (n := rx.sender) (k := k) (d := d) (r := r) (b := b) ho horigin
    refine ⟨fun hno => hanswer (happly.trans ?_), fun ht hk hd => hanswer (happly.trans ?_), fun m ht hk hd hm => ?_⟩
    · split
      · next hmatch =>
        obtain hno | hno | ⟨hd1, hd2⟩ := hno
        · exact absurd hmatch.1.symm hno
        · exact absurd hmatch.2.symm hno
        · rw [if_neg hd1, if_neg hd2]
      · rfl
    · rw [if_pos ⟨ht.symm, hk.symm⟩, hd, if_neg (by decide), if_pos rfl, ← ht, ← hk]
      rfl
    · have haccept : exec (.answerFrame rx origin k d r b) s =
          .next ((heard s rx).answerAccepted rx.sender b o) :=
        hanswer (happly.trans ((if_pos ⟨ht.symm, hk.symm⟩).trans (if_pos hd)))
      have hset := commitSet_eq (s := heard s rx) hm
      rw [haccept]
      refine ⟨fun u hnone hu => ?_, fun hsome hroom => ?_, fun hsome hfull => ?_⟩
      · rw [answerAccepted_none (hset.trans hnone), hu, ht, hk]
        refine ⟨fun hroom => ?_, fun hfull => ?_⟩
        · rw [queueIfRoom_room (s := heard s rx) hroom, ← ht, ← hk]
          rfl
        · rw [queueIfRoom_full (s := heard s rx) hfull, ← ht, ← hk]
          rfl
      · have hentries : (heard s rx).commitEntries m = ((List.range 32).filter m.getLsbD).map fun a =>
            ⟨BitVec.ofNat 8 a, if (s.area a).serial = 0xFFFF then 0xFFFF else (s.area a).serial + 1⟩ :=
          List.map_congr_left fun a _ => congrArg (CommitEntry.mk (BitVec.ofNat 8 a)) (nextSerial_eq (heard s rx) a)
        rw [answerAccepted_room (s := heard s rx) (by rw [hset]; exact hsome) hroom, hset, hentries, hk]
        rfl
      · rw [answerAccepted_full (s := heard s rx) (by rw [hset]; exact hsome) hfull, ← ht, ← hk]
        rfl
  case withdraws =>
    have happly := applyWithdraw_standing (s := heard s rx) (k := k) hdest hn hin
    refine ⟨fun hno => hwithdraw (happly.trans (if_neg ?_)), fun ho hk => hwithdraw (happly.trans ?_)⟩
    · rintro ⟨ho, hk⟩
      exact hno.elim (absurd ho) (absurd hk)
    · rw [if_pos ⟨ho, hk⟩, ← ho, ← hk]
      rfl

end Sys2Proof.Answers

/-! PROOF. Hold fields put in place and handed on, the claim rule, and CLAIM, TAKE and COMMIT frames (6.3, 8.4). -/

namespace Sys2Proof.Answers

open Sys2Proof.Machine Sys2Proof.Claims Sys2Proof.Keep

variable {c : Instr} {s t u : State} {rx : Rx} {f : Frame} {n m : Station} {k : Byte} {b : Badge} {a : Nat} {serial : Half}

/-! ### The hand-on of a change (R41, R50, R89) -/

theorem throughWindow_eq {put : State → State} (h : (put s).window = s.window) :
    s.throughWindow put = followed s (put s) := by
  unfold State.throughWindow followed
  rw [← h]
  rfl

/-- The hold fields of an area, as `handedOn` takes them. -/
def heldBy (a : Nat) (h : Hold) (serial : Half) (s : State) : State :=
  { s with areas := s.areas.set a { s.area a with hold := h, serial := serial } }

/-- Hold fields are given where an area has a record. -/
theorem holderStatus_heldBy {h : Hold} (ha : a < s.areas.length) :
    ((heldBy a h serial s).area a).hold.holderStatus = h.holderStatus :=
  congrArg (fun r : Area => r.hold.holderStatus) (State.area_setArea_self s a _ ha)

theorem withHold_eq {h : Hold} (ha : a < s.areas.length) :
    withHold a h serial s = handedOn a s (heldBy a h serial s) := by
  have hfollow : s.throughWindow (fun x => x.setArea a { x.area a with hold := h, serial := serial }) =
      followed s (heldBy a h serial s) := throughWindow_eq rfl
  have hstatus := holderStatus_heldBy (serial := serial) (h := h) ha
  have hmoved : (s.holds a != (heldBy a h serial s).holds a && s.window.scope == .held) = true ↔
      s.window.scope = .held ∧ s.holds a ≠ (heldBy a h serial s).holds a := by simp [and_comm]
  have hchanged : (h.holderStatus != (s.area a).hold.holderStatus) = true ↔
      ¬h.holderStatus = (s.area a).hold.holderStatus := by simp
  unfold withHold handedOn
  dsimp only
  rw [hfollow, hstatus, show (s.setArea a { s.area a with hold := h, serial := serial }).holds a =
    (heldBy a h serial s).holds a from rfl]
  simp only [hmoved, hchanged]
  by_cases hscope : s.window.scope = .held ∧ s.holds a ≠ (heldBy a h serial s).holds a
  · by_cases hsame : h.holderStatus = (s.area a).hold.holderStatus
    · simp only [if_pos hscope, if_pos hsame, if_neg (not_not_intro hsame)]
      rfl
    · simp only [if_pos hscope, if_pos hsame, if_neg hsame]
      rfl
  · by_cases hsame : h.holderStatus = (s.area a).hold.holderStatus
    · simp only [if_neg hscope, if_pos hsame, if_neg (not_not_intro hsame)]
      rfl
    · simp only [if_neg hscope, if_pos hsame, if_neg hsame]
      rfl

/-- The hand-on changes the window, the horn and the lamp. -/
theorem handedOn_eq (a : Nat) (s u : State) :
    handedOn a s u = { u with window := (handedOn a s u).window, picture := (handedOn a s u).picture } := by
  unfold handedOn
  dsimp only
  split
  · split <;> rfl
  · split <;> rfl

/-! ### The area-lost notice (R124) -/

theorem areaLost_eq (a : Nat) (s : State) : s.areaLost a = areaGone a s := by
  unfold State.areaLost areaGone
  split
  · next h => rw [h]; rfl
  · next o h =>
    rw [h]
    dsimp only [dropArea]
    by_cases hkept : o.areas &&& ~~~BitVec.twoPow 32 a ≠ 0 ∨ s.node.number = some o.target
    · rw [if_pos hkept, if_neg]
      rw [Bool.and_eq_true, beq_iff_eq, Bool.not_eq_true', isOwn_eq_false_iff]
      exact fun hno => hkept.elim (fun h => h hno.1) hno.2
    · obtain ⟨hnone, hremote⟩ := not_or.mp hkept
      rw [if_neg hkept, if_pos (by
        rw [Bool.and_eq_true, beq_iff_eq, Bool.not_eq_true', isOwn_eq_false_iff]
        exact ⟨Classical.not_not.mp hnone, hremote⟩)]
      obtain hroom | hfull := Nat.lt_or_ge s.tx.urgent.length 8
      · rw [if_pos hroom]
        refine (dropOffer_withdrawn ?_ ?_ _).trans ?_
        · exact hremote
        · exact hroom
        · rfl
      · rw [if_neg (Nat.not_lt.mpr hfull)]
        refine (dropOffer_full ?_ ?_ _).trans ?_
        · exact hremote
        · exact hfull
        · rfl
  · next o h => rw [h]; rfl

theorem areaGone_idle (h : s.handover.outgoing = .idle) : areaGone a s = { s with
    handover := { s.handover with rebadge := s.handover.rebadge &&& ~~~BitVec.twoPow 32 a } } := by
  unfold areaGone
  rw [h]

theorem areaGone_committing {o : OutOffer} (h : s.handover.outgoing = .committing o) : areaGone a s = { s with
    handover := { s.handover with
      rebadge := s.handover.rebadge &&& ~~~BitVec.twoPow 32 a
      outgoing := .committing { o with areas := o.areas &&& ~~~BitVec.twoPow 32 a } } } := by
  unfold areaGone
  rw [h]

theorem areaGone_left {o : OutOffer} (h : s.handover.outgoing = .offered o)
    (hleft : o.areas &&& ~~~BitVec.twoPow 32 a ≠ 0 ∨ s.node.number = some o.target) : areaGone a s = { s with
      handover := { s.handover with
        rebadge := s.handover.rebadge &&& ~~~BitVec.twoPow 32 a
        outgoing := .offered { o with areas := o.areas &&& ~~~BitVec.twoPow 32 a } } } := by
  unfold areaGone
  rw [h]
  exact if_pos hleft

theorem areaGone_last {o : OutOffer} (h : s.handover.outgoing = .offered o)
    (hnone : o.areas &&& ~~~BitVec.twoPow 32 a = 0) (hremote : s.node.number ≠ some o.target) : areaGone a s = { s with
      handover := { s.handover with
        rebadge := s.handover.rebadge &&& ~~~BitVec.twoPow 32 a
        outgoing := .idle, lastOut := some ⟨o.number, o.target, .areasLost⟩ }
      tx := if s.tx.urgent.length < 8 then queued s (.withdraw o.number o.target) else s.tx
      port := flagged s .handoverFailed } := by
  unfold areaGone
  rw [h]
  exact if_neg (not_or.mpr ⟨not_not_intro hnone, hremote⟩)

/-! ### The claim rule (R88, R89) -/

theorem setHold_handedOn {h : Hold} (ha : a < s.areas.length) : s.setHold a h serial =
    if s.holds a && !(heldBy a h serial s).holds a then areaGone a (handedOn a s (heldBy a h serial s))
    else handedOn a s (heldBy a h serial s) := by
  have hholds : (withHold a h serial s).holds a = (heldBy a h serial s).holds a := rfl
  rw [setHold_eq, areaLost_eq, hholds, withHold_eq ha]
  cases s.holds a <;> cases (heldBy a h serial s).holds a <;> rfl

/-- An area that loses its holder here by a claim that is not this station's own COMMIT latches CLAIM_LOST before the
hold fields are put in place; the hand-on does not look at it. -/
theorem setHold_claimLost {h : Hold} (ha : a < s.areas.length) : (s.claimLost a).setHold a h serial =
    if s.holds a && !(heldBy a h serial s).holds a then
      areaGone a { handedOn a s (heldBy a h serial s) with lastLost := some a, port := flagged s .claimLost }
    else { handedOn a s (heldBy a h serial s) with lastLost := some a, port := flagged s .claimLost } := by
  have hhold : withHold a h serial (s.claimLost a) =
      { withHold a h serial s with lastLost := some a, port := flagged s .claimLost } := rfl
  have hholds : (withHold a h serial s).holds a = (heldBy a h serial s).holds a := rfl
  rw [setHold_eq, areaLost_eq, show (s.claimLost a).holds a = s.holds a from rfl,
    show (withHold a h serial (s.claimLost a)).holds a = (withHold a h serial s).holds a from rfl, hhold, hholds,
    withHold_eq ha]
  cases s.holds a <;> cases (heldBy a h serial s).holds a <;> rfl

theorem holds_handedOn (a : Nat) (s u : State) : (handedOn a s u).holds = u.holds := by
  rw [handedOn_eq]
  rfl

theorem port_handedOn (a : Nat) (s u : State) : (handedOn a s u).port = u.port := by
  rw [handedOn_eq]

theorem claimAccepted_eq (r : Area) (x : Claim) : claimAccepted r x = beats x.station x.serial r := by
  unfold claimAccepted beats
  by_cases hless : r.serial.toNat < x.serial.toNat
  · rw [if_pos hless, decide_eq_true hless, Bool.true_or]
  · rw [if_neg hless, decide_eq_false hless, Bool.false_or]
    by_cases hsame : x.serial = r.serial
    · rw [if_pos hsame, beq_iff_eq.mpr hsame.symm, Bool.true_and]
      cases r.hold <;> rfl
    · rw [if_neg hsame, beq_eq_false_iff_ne.mpr (Ne.symm hsame), Bool.false_and]

/-- An accepted claim of another station's frame (R89). -/
theorem acceptClaim_eq {src : ClaimSource} {x : Claim} {orphan : Bool} (ha : x.area < s.areas.length) :
    s.acceptClaim src false orphan x =
      claimed (claimHold s.now orphan x) x.serial (!s.isOwn x.station) x.area s := by
  have hclaimed : claimed (claimHold s.now orphan x) x.serial (!s.isOwn x.station) x.area s =
      if s.holds x.area && !(heldBy x.area (claimHold s.now orphan x) x.serial s).holds x.area then
        areaGone x.area (if s.holds x.area && !s.isOwn x.station then
          { handedOn x.area s (heldBy x.area (claimHold s.now orphan x) x.serial s) with
            lastLost := some x.area, port := flagged s .claimLost }
          else handedOn x.area s (heldBy x.area (claimHold s.now orphan x) x.serial s))
      else if s.holds x.area && !s.isOwn x.station then
          { handedOn x.area s (heldBy x.area (claimHold s.now orphan x) x.serial s) with
            lastLost := some x.area, port := flagged s .claimLost }
          else handedOn x.area s (heldBy x.area (claimHold s.now orphan x) x.serial s) := by
    unfold claimed
    dsimp only
    rw [holds_handedOn, flagged, port_handedOn]
    rfl
  rw [hclaimed]
  unfold State.acceptClaim
  dsimp only
  rw [Bool.false_and, Bool.false_and, Bool.not_false, Bool.and_true]
  show (if s.holds x.area && !s.isOwn x.station then s.claimLost x.area else s).setHold x.area _ x.serial = _
  by_cases hlost : (s.holds x.area && !s.isOwn x.station) = true
  · simp only [hlost, if_true]
    exact setHold_claimLost ha
  · simp only [hlost, Bool.false_eq_true, if_false]
    exact setHold_handedOn ha

end Sys2Proof.Answers

/-! PROOF. CLAIM, TAKE and COMMIT frames (6.3, 8.4). -/

namespace Sys2Proof.Answers

open Sys2Proof.Machine Sys2Proof.Claims Sys2Proof.Keep

variable {c : Instr} {s t u : State} {rx : Rx} {f : Frame} {n m : Station} {k : Byte} {b : Badge} {a : Nat} {serial : Half}

/-! ### One claim (R87 to R89) -/

theorem lt_of_configured (h : (s.area a).config ≠ none) : a < s.areas.length := by
  refine Classical.byContradiction fun hge => ?_
  rw [State.area, getD_of_ge _ (Nat.le_of_not_lt hge)] at h
  exact h rfl

/-- A claim in another station's frame: what it makes of the state, or none of it (R87 to R89). -/
theorem applyClaim_eq {src : ClaimSource} {orphan : Bool} (hn : stationOk n = true) :
    s.applyClaim src false orphan ⟨a, serial, n, b⟩ = (tried n b orphan (!s.isOwn n) serial a s).getD s := by
  unfold State.applyClaim State.claimHeard State.configured tried
  dsimp only
  rw [hn, Bool.and_true, claimAccepted_eq]
  by_cases hconfig : (s.area a).config = none
  · rw [hconfig]
    rfl
  · have hsome : (s.area a).config.isSome = true := Option.isSome_iff_ne_none.mpr hconfig
    have hnone : (s.area a).config.isNone = false := by rw [← Option.not_isSome, hsome]; rfl
    rw [hsome, hnone, if_pos rfl, Bool.false_or]
    by_cases hbeats : beats n serial (s.area a) = true
    · rw [hbeats, if_pos rfl, acceptClaim_eq (lt_of_configured hconfig)]
      rfl
    · rw [Bool.eq_false_iff.mpr hbeats]
      rfl

theorem tried_none_iff {orphan loss : Bool} : tried n b orphan loss serial a s = none ↔
    (s.area a).config = none ∨ beats n serial (s.area a) = false := by
  unfold tried
  split
  · next h => simpa using h
  · next h => simpa using h

theorem tried_accepted {orphan loss : Bool} (hconfig : (s.area a).config ≠ none)
    (hbeats : beats n serial (s.area a) = true) : tried n b orphan loss serial a s =
      some (claimed (if orphan then .orphaned n b s.clock.now .running else .held n b) serial loss a s) := by
  refine if_neg ?_
  rw [hbeats]
  simpa using hconfig

theorem beats_iff (n : Station) (serial : Half) (r : Area) : beats n serial r = true ↔
    r.serial.toNat < serial.toNat ∨
      (serial = r.serial ∧ ∀ t b, r.hold = .held t b → n.toNat ≤ t.toNat) := by
  unfold beats
  rw [Bool.or_eq_true, Bool.and_eq_true, decide_eq_true_iff, beq_iff_eq]
  refine or_congr_right (and_congr eq_comm ?_)
  cases r.hold <;> simp

theorem beats_eq_false {r : Area} (h : serial.toNat < r.serial.toNat ∨
    (serial = r.serial ∧ ∃ t b, r.hold = .held t b ∧ t.toNat < n.toNat)) : beats n serial r = false := by
  rw [← Bool.not_eq_true, beats_iff]
  rintro (hmore | ⟨hsame, hall⟩)
  · obtain hless | ⟨hsame, -⟩ := h
    · omega
    · rw [hsame] at hmore
      exact absurd hmore (Nat.lt_irrefl _)
  · obtain hless | ⟨-, t0, b0, hheld, hlow⟩ := h
    · rw [hsame] at hless
      exact absurd hless (Nat.lt_irrefl _)
    · exact absurd (hall t0 b0 hheld) (Nat.not_le.mpr hlow)

/-! ### What an accepted claim leaves as it was -/

theorem areaGone_eq (a : Nat) (s : State) : areaGone a s = { s with
    handover := (areaGone a s).handover, tx := (areaGone a s).tx, port := (areaGone a s).port } := by
  unfold areaGone
  split <;> try rfl
  dsimp only
  split <;> rfl

theorem areaGone_incoming (a : Nat) (s : State) : (areaGone a s).handover.incoming = s.handover.incoming := by
  unfold areaGone
  split <;> try rfl
  dsimp only
  split <;> rfl

theorem claimed_frame (h : Hold) (serial : Half) (loss : Bool) (a : Nat) (s : State) :
    (claimed h serial loss a s).node = s.node ∧ (claimed h serial loss a s).signOn = s.signOn ∧
      (claimed h serial loss a s).handover.incoming = s.handover.incoming := by
  have hgone : ∀ v : State, (areaGone a v).node = v.node ∧ (areaGone a v).signOn = v.signOn ∧
      (areaGone a v).handover.incoming = v.handover.incoming := fun v =>
    ⟨by rw [areaGone_eq], by rw [areaGone_eq], areaGone_incoming a v⟩
  unfold claimed
  rw [handedOn_eq]
  dsimp only
  split
  · split
    · exact hgone _
    · exact hgone _
  · split <;> exact ⟨rfl, rfl, rfl⟩

/-! ### The entries of a COMMIT (R120) -/

/-- The entries of a COMMIT one after another, where each is a claim that is tried (R87, R120). -/
theorem commitEntries_of {own orphan loss : Bool} (hn : stationOk n = true) (es : List CommitEntry) (moved : AreaSet)
    (s : State) (hclaims : ∀ v : State, v.node = s.node → ∀ e : CommitEntry,
      v.applyClaim .commit own orphan ⟨e.area.toNat, e.serial, n, b⟩ =
        (tried n b orphan loss e.serial e.area.toNat v).getD v) :
    s.applyCommitEntries own orphan n b es moved = es.foldl (committedTo n b orphan loss) (moved, s) := by
  induction es generalizing moved s with
  | nil => rfl
  | cons e rest ih =>
    have hclaim := hclaims s rfl e
    unfold State.applyCommitEntries
    dsimp only [commitClaim]
    rw [List.foldl_cons, hclaim, committedTo]
    dsimp only
    by_cases hnone : tried n b orphan loss e.serial e.area.toNat s = none
    · have htaken : (s.claimHeard ⟨e.area.toNat, e.serial, n, b⟩ &&
          claimAccepted (s.area e.area.toNat) ⟨e.area.toNat, e.serial, n, b⟩) = false := by
        rw [claimAccepted_eq, State.claimHeard, State.configured]
        obtain h | h := tried_none_iff.mp hnone
        · dsimp only
          rw [h]
          rfl
        · dsimp only
          rw [h, Bool.and_false]
      rw [hnone, htaken]
      exact ih moved s hclaims
    · obtain ⟨v, hv⟩ := Option.ne_none_iff_exists'.mp hnone
      obtain ⟨hconfig, hbeats⟩ := not_or.mp (mt tried_none_iff.mpr hnone)
      have htaken : (s.claimHeard ⟨e.area.toNat, e.serial, n, b⟩ &&
          claimAccepted (s.area e.area.toNat) ⟨e.area.toNat, e.serial, n, b⟩) = true := by
        rw [claimAccepted_eq, State.claimHeard, State.configured]
        dsimp only
        rw [eq_true_of_ne_false hbeats, hn, Option.isSome_iff_ne_none.mpr hconfig]
        rfl
      have hnode : v.node = s.node := by
        rw [tried_accepted hconfig (eq_true_of_ne_false hbeats)] at hv
        rw [← Option.some.inj hv]
        exact (claimed_frame _ _ _ _ _).1
      rw [hv, htaken]
      exact ih _ v fun x hx => hclaims x (hx.trans hnode)

theorem commitEntries_eq {orphan : Bool} (hn : stationOk n = true) (es : List CommitEntry) (moved : AreaSet) (s : State) :
    s.applyCommitEntries false orphan n b es moved =
      es.foldl (committedTo n b orphan (s.node.number != some n)) (moved, s) := by
  refine commitEntries_of hn es moved s fun v hv e => ?_
  rw [applyClaim_eq hn]
  show (tried n b orphan (v.node.number != some n) e.serial e.area.toNat v).getD v = _
  rw [hv]

theorem commitEntries_unheard {orphan : Bool} (hn : stationOk n = false) (es : List CommitEntry) (moved : AreaSet)
    (s : State) : s.applyCommitEntries false orphan n b es moved = (moved, s) := by
  induction es with
  | nil => rfl
  | cons e rest ih =>
    have hunheard : s.claimHeard (commitClaim n b e) = false := by
      rw [State.claimHeard]
      exact (congrArg _ hn).trans (Bool.and_false _)
    unfold State.applyCommitEntries State.applyClaim
    dsimp only
    rw [hunheard]
    exact ih

theorem committedTo_frame (orphan loss : Bool) (x : AreaSet × State) (e : CommitEntry) :
    (committedTo n b orphan loss x e).2.node = x.2.node ∧ (committedTo n b orphan loss x e).2.signOn = x.2.signOn ∧
      (committedTo n b orphan loss x e).2.handover.incoming = x.2.handover.incoming := by
  unfold committedTo
  split
  · exact ⟨rfl, rfl, rfl⟩
  · next v hv =>
    unfold tried at hv
    split at hv
    · cases hv
    · rw [← Option.some.inj hv]
      exact claimed_frame _ _ _ _ _

theorem foldl_committedTo_frame (orphan loss : Bool) (es : List CommitEntry) (x : AreaSet × State) :
    (es.foldl (committedTo n b orphan loss) x).2.node = x.2.node ∧
      (es.foldl (committedTo n b orphan loss) x).2.signOn = x.2.signOn ∧
      (es.foldl (committedTo n b orphan loss) x).2.handover.incoming = x.2.handover.incoming := by
  induction es generalizing x with
  | nil => exact ⟨rfl, rfl, rfl⟩
  | cons e rest ih =>
    obtain ⟨hnode, hsignOn, hin⟩ := ih (committedTo n b orphan loss x e)
    obtain ⟨hnode', hsignOn', hin'⟩ := committedTo_frame (n := n) (b := b) orphan loss x e
    exact ⟨hnode.trans hnode', hsignOn.trans hsignOn', hin.trans hin'⟩

/-! ### A COMMIT at a receiving station (R120) -/

theorem peer_heard_sender (h : stationOk rx.sender = true) (s : State) :
    (heard s rx).peer rx.sender = (s.peer rx.sender).map fun r => { r with silence := 0 } := by
  unfold heard State.peer
  rw [if_pos h, if_pos h]
  dsimp only
  rw [List.getD_eq_getElem?_getD, List.getElem?_set_self']
  by_cases hlt : rx.sender.toNat - 1 < s.peers.length
  · simp [hlt]
  · simp [hlt, List.getD_eq_getElem?_getD]

theorem peer_heard_other (h : stationOk rx.sender = true) (s : State) (hm : m ≠ rx.sender) :
    (heard s rx).peer m = s.peer m := by
  unfold heard State.peer
  split
  · next hok => simp [List.getD_eq_getElem?_getD, index_ne h hok hm]
  · rfl

theorem commitOrphans_heard (h : stationOk rx.sender = true) (s : State) (m : Station) :
    (heard s rx).commitOrphans m = commitOrphaned m s := by
  have hpeer : ((heard s rx).peer m).any (fun r => r.state == .lost || r.isDark) =
      (s.peer m).any fun r => r.state == .lost || r.isDark := by
    by_cases hm : m = rx.sender
    · rw [hm, peer_heard_sender h]
      cases s.peer rx.sender <;> rfl
    · rw [peer_heard_other h s hm]
  have hseated : (!(heard s rx).seated) = s.signOn.active.isNone := Option.not_isSome _
  unfold State.commitOrphans commitOrphaned
  rw [hpeer, hseated]
  exact ite_of_iff (isOwn_iff s m)

theorem commitEndIn_answered {o : InOffer} {g : Sec} {held : AreaSet} (h : s.handover.incoming = .answered o g)
    (ho : o.origin = n) (hk : o.number = k) : s.commitEndIn n k held = { s with
      handover := { s.handover with incoming := .idle, lastIn := some ⟨k, n, .committed held⟩ }
      port := flagged s .offerEnded } := by
  subst ho hk
  unfold State.commitEndIn
  rw [h]
  exact if_pos (by rw [beq_self_eq_true, beq_self_eq_true]; rfl)

theorem commitEndIn_other {held : AreaSet}
    (h : ∀ o g, s.handover.incoming = .answered o g → o.origin ≠ n ∨ o.number ≠ k) : s.commitEndIn n k held = { s with
      handover := { s.handover with lastIn := some ⟨k, n, .committed held⟩ }
      port := flagged s .offerEnded } := by
  unfold State.commitEndIn
  split
  · next o g ho =>
    refine if_neg ?_
    rw [Bool.and_eq_true, beq_iff_eq, beq_iff_eq]
    exact fun hmatch => (h o g ho).elim (absurd hmatch.1) (absurd hmatch.2)
  · rfl
  · rfl

/-- A COMMIT from another station (R120). -/
theorem applyCommit_eq {es : List CommitEntry} {r : AreaSet × State} (hsender : s.isOwn m = false)
    (hr : s.applyCommitEntries false (s.commitOrphans n) n b es 0 = r) : s.applyCommit m k n b es =
      if s.isOwn n then r.2.commitEndIn m k (if s.commitOrphans n then 0 else r.1) else r.2 := by
  unfold State.applyCommit
  dsimp only
  rw [hsender, hr]
  rfl

/-! ### One claim of a CLAIM or TAKE frame -/

/-- The claim of a CLAIM or TAKE frame: what it makes of the state, or none of it (R87 to R89). -/
theorem exec_claim (h : Hears s rx) {area : Byte} {reason : Byte}
    (hc : c = .claimFrame rx reason area serial b ∨ c = .takeFrame rx area serial b) :
    exec c s = .next ((tried rx.sender b false true serial area.toNat (heard s rx)).getD (heard s rx)) := by
  have hn : (heard s rx).isOwn rx.sender = false := (hears_other h :)
  have hclaim : ∀ src, (heard s rx).applyClaim src ((heard s rx).isOwn rx.sender) false ⟨area.toNat, serial, rx.sender, b⟩ =
      (tried rx.sender b false true serial area.toNat (heard s rx)).getD (heard s rx) := by
    intro src
    rw [hn, applyClaim_eq (hears_stationOk h), hn]
    rfl
  obtain rfl | rfl := hc
  · exact (exec_heard (f := .claim reason area serial b) h rfl).trans (congrArg _ (hclaim _))
  · exact (exec_heard (f := .take area serial b) h rfl).trans (congrArg _ (hclaim _))

theorem claimed_kept {h : Hold} {loss : Bool} (hno : s.holds a = false) :
    claimed h serial loss a s = handedOn a s (heldBy a h serial s) := by
  unfold claimed
  dsimp only
  rw [hno]
  rfl

/-- An area that this station loses by a claim: what the area-lost notice starts from. -/
theorem claimed_lost (ha : a < s.areas.length) (hyes : s.holds a = true) (hn : s.isOwn n = false) :
    claimed (.held n b) serial true a s =
      areaGone a { handedOn a s (heldBy a (.held n b) serial s) with
        lastLost := some a, port := flagged s .claimLost } := by
  have hafter : (heldBy a (.held n b) serial s).holds a = false := by
    rw [State.holds, show (heldBy a (.held n b) serial s).area a = _ from State.area_setArea_self s a _ ha]
    exact hn
  unfold claimed
  dsimp only
  rw [holds_handedOn, hyes, show State.holds { s with areas := _ } a = false from hafter, flagged, port_handedOn]
  rfl

/-- Settles O58: the claims one by one as `tried` has them, the area-lost notice by what the outgoing offer is. -/
theorem claimFramesAreSettled : Obligations.ClaimFramesAreSettled := by
  unfold Obligations.ClaimFramesAreSettled
  intro s rx a n b reason h
  have hsender := hears_stationOk h
  have hother := hears_other h
  have hignored : tried rx.sender b false true n a.toNat (heard s rx) = none →
      exec (.claimFrame rx reason a n b) s = .next (heard s rx) ∧ exec (.takeFrame rx a n b) s = .next (heard s rx) := by
    intro hnone
    rw [exec_claim h (.inl rfl), exec_claim (reason := reason) h (.inr rfl), hnone]
    exact ⟨rfl, rfl⟩
  refine ⟨fun hconfig => hignored (tried_none_iff.mpr (.inl hconfig)),
    fun hrejected => hignored (tried_none_iff.mpr (.inr (beats_eq_false hrejected))), ?accepted, ?commits⟩
  case accepted =>
    intro k u c hk hbeats hu hc
    have hconfig : (s.area a.toNat).config ≠ none := by rw [hk]; exact Option.some_ne_none k
    have ha : a.toNat < s.areas.length := lt_of_configured hconfig
    have hrun : exec c s = .next (claimed (.held rx.sender b) n true a.toNat (heard s rx)) := by
      rw [exec_claim h hc, tried_accepted (s := heard s rx) hconfig ((beats_iff _ _ _).mpr hbeats)]
      rfl
    have hgiven : handedOn a.toNat (heard s rx) (heldBy a.toNat (.held rx.sender b) n (heard s rx)) = u := hu.symm
    have hu' := handedOn_eq a.toNat s { heard s rx with
        areas := s.areas.set a.toNat { s.area a.toNat with hold := .held rx.sender b, serial := n } }
    rw [← hu] at hu'
    have hport : u.port = s.port := (congrArg State.port hu' :)
    have hhandover : u.handover = s.handover := (congrArg State.handover hu' :)
    have htx : u.tx = s.tx := (congrArg State.tx hu' :)
    have hnode : u.node = s.node := (congrArg State.node hu' :)
    refine ⟨fun hno => ?_, fun ho left hyes hho => ?_⟩
    · rw [hrun, claimed_kept (s := heard s rx) hno, hgiven]
    · have hlost : exec c s = .next (areaGone a.toNat { u with
          lastLost := some a.toNat, port := flagged s .claimLost }) := by
        rw [hrun, claimed_lost (s := heard s rx) ha hyes hother, hgiven]
        rfl
      rw [hlost, hho]
      refine ⟨fun hidle => ?_, fun o hout hleft => ?_, fun o hout hleft => ⟨fun hmore => ?_, fun hnone hremote => ?_⟩⟩
      · rw [areaGone_idle (by exact hhandover ▸ hidle), hhandover]
      · rw [areaGone_committing (by exact hhandover ▸ hout), hhandover, hleft]
      · rw [areaGone_left (by exact hhandover ▸ hout) (by rw [← hleft, hnode]; exact hmore), hhandover, hleft]
      · rw [areaGone_last (by exact hhandover ▸ hout) (hleft ▸ hnone) (by rw [hnode]; exact hremote), hhandover, htx]
        rfl
  case commits =>
    intro number dest es hfits
    have hrun : ∀ {r}, State.applyCommitEntries false ((heard s rx).commitOrphans dest) dest b es 0 (heard s rx) = r →
        exec (.commitFrame rx number dest b es) s = .next (if s.isOwn dest then
          r.2.commitEndIn rx.sender number (if (heard s rx).commitOrphans dest then 0 else r.1) else r.2) := fun hr =>
      (exec_heard (f := .commit number dest b es) h hfits).trans (congrArg _ (applyCommit_eq (s := heard s rx) hother hr))
    refine ⟨fun hbad hno => ?_, fun r hlow hhigh hr => ?_⟩
    · have hunheard : stationOk dest = false := by
        rw [← Bool.not_eq_true, stationOk_iff]
        exact hbad
      rw [hrun (commitEntries_unheard hunheard es 0 _), (isOwn_eq_false_iff s dest).mpr hno]
      rfl
    · have hok : stationOk dest = true := (stationOk_iff dest).mpr ⟨hlow, hhigh⟩
      have hentries := commitEntries_eq (orphan := (heard s rx).commitOrphans dest) (b := b) hok es 0 (heard s rx)
      rw [commitOrphans_heard hsender] at hentries hrun
      have hrun' := hrun (hentries.trans hr.symm)
      refine ⟨fun hno => ?_, fun incoming hdest hin => ?_⟩
      · rw [hrun', (isOwn_eq_false_iff s dest).mpr hno]
        rfl
      · have horphan : commitOrphaned dest s = s.signOn.active.isNone := if_pos hdest
        have hincoming : r.2.handover.incoming = s.handover.incoming := by
          rw [hr]
          exact (foldl_committedTo_frame _ _ _ _).2.2
        have hheld : (if s.signOn.active.isNone then 0 else r.1) = if s.signOn.active = none then 0 else r.1 :=
          ite_of_iff Option.isNone_iff_eq_none
        rw [hrun', (isOwn_iff s dest).mpr hdest, if_pos rfl, horphan, hheld]
        obtain ⟨rfl, o, g, ho, horigin, hnumber⟩ | ⟨rfl, hnot⟩ := hin
        · rw [commitEndIn_answered (hincoming.trans ho) horigin hnumber]
        · rw [commitEndIn_other (by rw [hincoming]; exact hnot), ← hincoming]

end Sys2Proof.Answers

/-! PROOF. A change of the alarm list handed on to window, horn and lamp (R10, R15, R41, R50), and a frame of several
entries taken by turns. -/

namespace Sys2Proof.Answers

open Sys2Proof.Machine Sys2Proof.Claims Sys2Proof.Keep

variable {c : Instr} {s t u : State} {rx : Rx} {f : Frame} {n m : Station} {k : Byte} {b : Badge}
  {l : List AlarmRecord} {id : AlarmId} {r : AlarmRecord} {d : Bool}

/-! ### A list handed on -/

theorem setList_eq (l : List AlarmRecord) (s : State) : s.setList l = relisted l s := by
  unfold State.setList
  rw [throughWindow_eq rfl]
  rfl

theorem soundFor_eq (s : State) (r : AlarmRecord) (flood : Bool) : s.soundFor r flood = demanded (sounds s r flood) s :=
  rfl

/-- A list handed on, with a sound demand or without one. -/
structure HandsOn (d : Bool) (l : List AlarmRecord) (u t : State) : Prop where
  list       : t.picture.list = l
  change     : ListChange u t
  window     : WindowFollows u t
  annunciate : Annunciates d u t
  sounds     : sounds t = sounds u
  whole      : t = demanded d (relisted l u)

theorem handsOn_demanded (d : Bool) (l : List AlarmRecord) (u : State) :
    HandsOn d l u (demanded d (relisted l u)) := by
  have hmoved : ∀ t : State, t.scoped = State.scoped { u with picture := { u.picture with list := l } } →
      t.window.top = (relisted l u).window.top → (u.window.changed || viewMoved u t) = (relisted l u).window.changed := by
    intro t hscoped htop
    unfold viewMoved State.view State.rows
    rw [htop, show (atTop u.window.top t).scoped = t.scoped from rfl, hscoped, ← Bool.or_assoc]
    rfl
  cases d with
  | false => exact ⟨rfl, rfl, ⟨rfl, (hmoved (relisted l u) rfl rfl).symm⟩, rfl, rfl, rfl⟩
  | true => exact ⟨rfl, rfl, ⟨rfl, (hmoved (demanded true (relisted l u)) rfl rfl).symm⟩, rfl, rfl, rfl⟩

theorem handsOn_setList (l : List AlarmRecord) (u : State) : HandsOn false l u (u.setList l) := by
  rw [setList_eq]
  exact handsOn_demanded false l u

/-- A list handed on, and the sound demand of one record (R16, R33). -/
theorem handsOn_soundFor (l : List AlarmRecord) (r : AlarmRecord) (flood : Bool) (u : State) :
    HandsOn (sounds ((u.setList l).soundFor r flood) r flood) l u ((u.setList l).soundFor r flood) := by
  rw [setList_eq, soundFor_eq]
  have h := handsOn_demanded (sounds (relisted l u) r flood) l u
  rw [show sounds (relisted l u) = sounds u from rfl] at h
  rw [show sounds (relisted l u) = sounds u from rfl, h.sounds]
  exact h

/-! ### What the list operations leave of the other ids -/

theorem findRecord_dropRecord_other {other : AlarmId} (h : other ≠ id) :
    findRecord other (dropRecord id l) = findRecord other l := by
  rw [findRecord_dropRecord, if_neg h]

theorem findRecord_changeRecord_self {g : AlarmRecord → AlarmRecord} (hg : ∀ x, (g x).id = x.id)
    (hr : findRecord id l = some r) : findRecord id (changeRecord id g l) = some (g r) := by
  rw [findRecord_changeRecord _ _ _ hg, if_pos rfl, hr]
  rfl

theorem findRecord_changeRecord_other {other : AlarmId} {g : AlarmRecord → AlarmRecord} (hg : ∀ x, (g x).id = x.id)
    (h : other ≠ id) : findRecord other (changeRecord id g l) = findRecord other l := by
  rw [findRecord_changeRecord _ _ _ hg, if_neg h]

theorem findRecord_moveRecord_self (r : AlarmRecord) (l : List AlarmRecord) :
    findRecord r.id (moveRecord r l) = some r := by
  unfold moveRecord
  rw [findRecord_place _ _ _ fun _ => by rw [findRecord_dropRecord, if_pos rfl], if_pos rfl]

theorem findRecord_moveRecord_other {other : AlarmId} (h : other ≠ r.id) :
    findRecord other (moveRecord r l) = findRecord other l := by
  unfold moveRecord
  rw [findRecord_place _ _ _ fun e => absurd e.symm h, if_neg (Ne.symm h), findRecord_dropRecord_other h]

/-! ### The entries of a frame by turns -/

/-- A state with another bus part and another scheduler. -/
def wired (g : Bus → Bus) (q : Transmit → Transmit) (s : State) : State := { s with bus := g s.bus, tx := q s.tx }

/-- A state with other stored sequences. -/
def withSeqs (x : List (Option Byte)) (s : State) : State := wired (fun y => { y with lastSeq := x }) (fun y => y) s

/-- After a frame a further one from the same sender with another sequence is heard. -/
theorem hears_next {q : Byte} (h : Hears s rx) (hq : q ≠ rx.seq) (hmode : t.node.mode = s.node.mode)
    (hnumber : t.node.number = s.node.number) (hbus : t.bus = (heard s rx).bus) (hpeers : t.peers = (heard s rx).peers) :
    Hears t { rx with seq := q } := by
  have hsender := hears_stationOk h
  obtain ⟨r, hr, hpresent, hsilence⟩ := h.known
  have hpeer : t.peer rx.sender = (s.peer rx.sender).map fun r => { r with silence := 0 } := by
    rw [← peer_heard_sender hsender, State.peer, hpeers, State.peer]
  refine ⟨hmode ▸ h.receives, h.copyA, h.copyB, h.low, h.high, hnumber ▸ h.other, ?_, ?_, ?_, ?_⟩
  · have hseq : (heard s rx).lastSeq rx.sender = none ∨ (heard s rx).lastSeq rx.sender = some rx.seq := by
      unfold heard State.lastSeq
      rw [if_pos hsender]
      dsimp only
      rw [List.getD_eq_getElem?_getD, List.getElem?_set_self']
      cases s.bus.lastSeq[rx.sender.toNat - 1]? with
      | none => exact .inl rfl
      | some _ => exact .inr rfl
    rw [lastSeq_congr hbus]
    obtain hseq | hseq := hseq
    · rw [hseq]
      exact nofun
    · rw [hseq]
      exact fun e => hq (Option.some.inj e).symm
  · rw [hbus]
    exact h.lineA
  · rw [hbus]
    exact h.lineB
  · exact ⟨{ r with silence := 0 }, by rw [hpeer, hr]; rfl, hpresent, Nat.succ_pos 2⟩

theorem heard_next {q : Byte} (h : Hears s rx) (hbus : t.bus = (heard s rx).bus) (hpeers : t.peers = (heard s rx).peers) :
    ∃ x, heard t { rx with seq := q } = withSeqs x t := by
  have hsender := hears_stationOk h
  have hpeer : t.peer rx.sender = (s.peer rx.sender).map fun r => { r with silence := 0 } := by
    rw [← peer_heard_sender hsender, State.peer, hpeers, State.peer]
  have hsame : t.peers.set (rx.sender.toNat - 1) ((t.peer rx.sender).map fun r => { r with silence := 0 }) = t.peers := by
    rw [hpeer, Option.map_map, hpeers, heard]
    dsimp only
    rw [List.set_set]
    rfl
  refine ⟨t.bus.lastSeq.set (rx.sender.toNat - 1) (some q), ?_⟩
  unfold heard withSeqs wired
  dsimp only
  rw [hsame, hbus]
  rfl

/-- A frame does what its first part and then a further frame of the rest do, where the parts do so after the tracking. -/
theorem inTurn_of {f f' g : Frame} {q : Byte} {act act' : State → State} (h : Hears s rx) (hq : q ≠ rx.seq)
    (hf : frameFits f = true) (hf' : frameFits f' = true) (hg : frameFits g = true)
    (hfirst : ∀ x v, State.applyFrame rx.sender x f' v = act v) (hrest : ∀ x v, State.applyFrame rx.sender x g v = act' v)
    (hwhole : ∀ x v, State.applyFrame rx.sender x f v = act' (act v))
    (hmode : ∀ v, (act v).node.mode = v.node.mode) (hnumber : ∀ v, (act v).node.number = v.node.number)
    (hbus : ∀ v, (act v).bus = v.bus) (hpeers : ∀ v, (act v).peers = v.peers)
    (hseqs : ∀ x v, act' (withSeqs x v) = withSeqs x (act' v)) (hbus' : ∀ v, (act' v).bus = v.bus) :
    InTurn (received rx f) (received rx f') (received { rx with seq := q } g) s := by
  have hnext := hears_next (t := act (heard s rx)) h hq (hmode _) (hnumber _) (hbus _) (hpeers _)
  obtain ⟨x, hx⟩ := heard_next (t := act (heard s rx)) (q := q) h (hbus _) (hpeers _)
  refine ⟨act (heard s rx), withSeqs x (act' (act (heard s rx))), ?_, ?_, ?_⟩
  · rw [exec_heard h hf', hfirst]
  · rw [exec_heard hnext hg, hx]
    exact congrArg Host.Outcome.next ((hrest _ _).trans (hseqs _ _))
  · rw [exec_heard h hf, hwhole]
    refine congrArg Host.Outcome.next ?_
    show _ = withSeqs (act (heard s rx)).bus.lastSeq (act' (act (heard s rx)))
    rw [← hbus' (act (heard s rx))]
    rfl

end Sys2Proof.Answers

/-! PROOF. ACK, SHELVE and UNSHELVE frames at a receiving station (2.4, 2.7, 2.8). -/

namespace Sys2Proof.Answers

open Sys2Proof.Machine Sys2Proof.Claims Sys2Proof.Keep

variable {c : Instr} {s t u : State} {rx : Rx} {f : Frame} {n m : Station} {k : Byte} {b : Badge}
  {l : List AlarmRecord} {id : AlarmId} {r : AlarmRecord} {d : Bool} {e : AckEntry}

/-! ### ACK (R25) -/

theorem ackEntry_unfound (h : findRecord e.id s.picture.list = none)
    (hno : s.transfer.refresh = none ∨ (s.area e.id.area.toNat).config = none) : s.ackEntry n b e = s := by
  unfold State.ackEntry
  rw [h]
  refine if_neg ?_
  rw [State.refreshing, State.configured]
  obtain hno | hno := hno
  · simp [hno]
  · simp [hno]

theorem ackEntry_waits (h : findRecord e.id s.picture.list = none) (hrefresh : s.transfer.refresh ≠ none)
    (hconfig : (s.area e.id.area.toNat).config ≠ none) :
    s.ackEntry n b e = s.addPending ⟨e.id, .ack e.occurrence n b⟩ := by
  unfold State.ackEntry
  rw [h]
  refine if_pos ?_
  rw [State.refreshing, State.configured, Option.isSome_iff_ne_none.mpr hrefresh, Option.isSome_iff_ne_none.mpr hconfig]
  rfl

theorem addPending_room {e : PendingEvent} (h : s.transfer.pendingEvents.length < 32) : s.addPending e =
    { s with transfer := { s.transfer with pendingEvents := s.transfer.pendingEvents ++ [e] } } := if_pos h

theorem addPending_full {e : PendingEvent} (h : 32 ≤ s.transfer.pendingEvents.length) : s.addPending e =
    { s with
      transfer := { s.transfer with pendingEvents := s.transfer.pendingEvents.tail ++ [e] }
      port := flagged s .pictureDoubtful } := if_neg (Nat.not_lt.mpr h)

/-- An ACK entry that does not match an UNACK record is left, at another station than its sender (R25, R26). -/
theorem ackEntry_left (h : findRecord e.id s.picture.list = some r) (hother : s.isOwn n = false)
    (hno : r.occurrence ≠ e.occurrence ∨ r.handling.isUnack = false) : s.ackEntry n b e = s := by
  unfold State.ackEntry
  rw [h]
  dsimp only
  rw [hother]
  obtain hne | hunack := hno
  · by_cases hless : e.occurrence.toNat < r.occurrence.toNat
    · exact if_pos hless
    · have hmore : r.occurrence.toNat < e.occurrence.toNat :=
        Nat.lt_of_le_of_ne (Nat.le_of_not_lt hless) fun heq => hne (BitVec.eq_of_toNat_eq heq)
      rw [if_neg hless, if_pos hmore]
  · rw [hunack, if_neg Bool.false_ne_true, if_neg Bool.false_ne_true, ite_self, ite_self]

/-- The list after a matching ACK entry (R25). -/
def acknowledged (n : Station) (b : Badge) (r : AlarmRecord) (l : List AlarmRecord) : List AlarmRecord :=
  if r.cleared then dropRecord r.id l
  else changeRecord r.id (fun x => { x with handling := .ack n b, escalated := false }) l

theorem findRecord_acknowledged (hr : findRecord r.id l = some r) : findRecord r.id (acknowledged n b r l) =
    if r.cleared = true then none else some { r with handling := .ack n b, escalated := false } := by
  unfold acknowledged
  split
  · rw [findRecord_dropRecord, if_pos rfl]
  · exact findRecord_changeRecord_self (fun _ => rfl) hr

theorem findRecord_acknowledged_other {other : AlarmId} (h : other ≠ r.id) :
    findRecord other (acknowledged n b r l) = findRecord other l := by
  unfold acknowledged
  split
  · exact findRecord_dropRecord_other h
  · exact findRecord_changeRecord_other (fun _ => rfl) h

theorem ackEntry_match (h : findRecord e.id s.picture.list = some r) (hocc : r.occurrence = e.occurrence)
    (hunack : r.handling = .unack) : s.ackEntry n b e = s.setList (acknowledged n b r s.picture.list) := by
  unfold State.ackEntry
  rw [h]
  dsimp only
  rw [hocc, if_neg (Nat.lt_irrefl _), if_neg (Nat.lt_irrefl _), hunack]
  unfold State.acknowledgeRecord acknowledged
  by_cases hcleared : r.cleared = true
  · simp only [hcleared, if_true]
    rfl
  · simp only [hcleared, Bool.false_eq_true, if_false]
    rfl

theorem ackEntry_wired (g : Bus → Bus) (q : Transmit → Transmit) (v : State) :
    State.ackEntry n b e (wired g q v) = wired g q (v.ackEntry n b e) := by
  unfold State.ackEntry
  rw [show (wired g q v).picture = v.picture from rfl]
  split
  · rw [show (wired g q v).refreshing = v.refreshing from rfl, show (wired g q v).configured = v.configured from rfl]
    split
    · unfold State.addPending
      rw [show (wired g q v).transfer = v.transfer from rfl]
      split <;> rfl
    · rfl
  · next r _ =>
    rw [show (wired g q v).isOwn = v.isOwn from rfl]
    split
    · split <;> rfl
    · split
      · rfl
      · split
        · unfold State.acknowledgeRecord
          split <;> rfl
        · rfl

theorem applyAcks_wired (g : Bus → Bus) (q : Transmit → Transmit) (es : List AckEntry) (v : State) :
    State.applyAcks n b es (wired g q v) = wired g q (v.applyAcks n b es) := by
  unfold State.applyAcks
  induction es generalizing v with
  | nil => rfl
  | cons e rest ih => rw [List.foldl_cons, List.foldl_cons, ackEntry_wired, ih]

/-! ### SHELVE (R31) -/

theorem applyShelve_none {minutes : Half} (h : findRecord id s.picture.list = none ∨
    s.shelveLimit id.area ≤ shelvedCount id.area id s.picture.list) : s.applyShelve n id minutes b = s := by
  unfold State.applyShelve
  split
  · rfl
  · next r hr => exact if_pos (h.resolve_left (by rw [hr]; exact Option.some_ne_none r))

theorem applyShelve_found {minutes : Half} (h : findRecord id s.picture.list = some r)
    (hroom : shelvedCount id.area id s.picture.list < s.shelveLimit id.area) : s.applyShelve n id minutes b =
      s.setList (changeRecord id (fun x => { x with
        handling := .shelved (s.now + BitVec.ofNat 32 (minutes.toNat * 60)) n b, escalated := false }) s.picture.list) := by
  unfold State.applyShelve
  rw [h]
  exact if_neg (Nat.not_le.mpr hroom)

/-! ### UNSHELVE (R33) -/

theorem applyUnshelve_left (h : ∀ r, findRecord id s.picture.list = some r → r.handling.isShelved = false) :
    s.applyUnshelve id = s := by
  unfold State.applyUnshelve
  split
  · rfl
  · next r hr => exact if_neg (by rw [h r hr]; exact Bool.false_ne_true)

theorem applyUnshelve_shelved (h : findRecord id s.picture.list = some r) (hshelved : r.handling.isShelved = true) :
    s.applyUnshelve id = s.unshelveRecord (s.inFlood id.area.toNat) r := by
  unfold State.applyUnshelve
  rw [h]
  exact if_pos hshelved

/-- A change of the alarm list that a frame makes, as the statements give it. -/
theorem listChange_of {act : State} {x : Option AlarmRecord} {demand : State → Bool} (hrun : exec c s = .next act)
    (hands : HandsOn (demand act) l (heard s rx) act) (hself : findRecord id l = x)
    (hother : ∀ other, other ≠ id → findRecord other l = findRecord other s.picture.list) :
    ∃ t, exec c s = .next t ∧ ListChange (heard s rx) t ∧ WindowFollows s t ∧ OthersKept id s t ∧
      Annunciates (demand t) (heard s rx) t ∧ findRecord id t.picture.list = x :=
  ⟨act, hrun, hands.change, hands.window, fun other ho => by rw [hands.list]; exact hother other ho, hands.annunciate,
    by rw [hands.list]; exact hself⟩

/-- Settles O57: what each frame does to the list, and the list handed on. -/
theorem alarmFramesChangeTheRecord : Obligations.AlarmFramesChangeTheRecord := by
  unfold Obligations.AlarmFramesChangeTheRecord
  intro s rx b h
  have hother : (heard s rx).isOwn rx.sender = false := (hears_other h :)
  have hack : ∀ {e : AckEntry} {v : State}, (heard s rx).ackEntry rx.sender b e = v →
      exec (.ackFrame rx b [e]) s = .next v := fun {e _} hv =>
    (exec_heard (f := .ack b [e]) h rfl).trans (congrArg _ hv)
  have hshelve : ∀ {id : AlarmId} {minutes : Half} {v : State}, (heard s rx).applyShelve rx.sender id minutes b = v →
      exec (.shelveFrame rx id minutes b) s = .next v := fun {id minutes _} hv =>
    (exec_heard (f := .shelve id minutes b) h rfl).trans (congrArg _ hv)
  have hunshelve : ∀ {id : AlarmId} {v : State}, (heard s rx).applyUnshelve id = v →
      exec (.unshelveFrame rx id) s = .next v := fun {id _} hv =>
    (exec_heard (f := .unshelve id) h rfl).trans (congrArg _ hv)
  refine ⟨fun e es q hes hlength hq => ?turns, fun e hnone hno => hack (ackEntry_unfound (s := heard s rx) hnone hno),
    fun e hnone hrefresh hconfig hroom => hack ?waits, fun e hnone hrefresh hconfig hfull => hack ?full,
    fun e r hr => ⟨fun hno => hack (ackEntry_left (s := heard s rx) hr hother hno), fun hocc hunack => ?matching⟩,
    fun id minutes => ⟨fun hno => hshelve (applyShelve_none (s := heard s rx) hno), fun r hr hroom => ?shelve⟩,
    fun id => ⟨fun hnone => hunshelve (applyUnshelve_left (s := heard s rx) fun r hr => ?_), fun r hr =>
      ⟨fun hno => hunshelve (applyUnshelve_left (s := heard s rx) fun x hx => ?_), fun hshelved => ?unshelve⟩⟩⟩
  case turns =>
    have hpositive : 1 ≤ es.length := List.length_pos_iff.mpr hes
    exact inTurn_of (f := .ack b (e :: es)) (f' := .ack b [e]) (g := .ack b es)
      (act := State.ackEntry rx.sender b e) (act' := State.applyAcks rx.sender b es) h hq
      (by simp [frameFits]; omega) rfl (by simp [frameFits, hpositive]; omega) (fun _ _ => rfl) (fun _ _ => rfl)
      (fun _ _ => rfl) (fun _ => by simp) (fun _ => by simp) (fun _ => by simp) (fun _ => by simp)
      (fun _ => applyAcks_wired _ _ es) (fun _ => by simp)
  case waits =>
    rw [ackEntry_waits (s := heard s rx) hnone hrefresh hconfig, addPending_room (s := heard s rx) hroom]
    rfl
  case full =>
    rw [ackEntry_waits (s := heard s rx) hnone hrefresh hconfig, addPending_full (s := heard s rx) hfull]
    rfl
  case matching =>
    have hid : r.id = e.id := (findRecord_some hr).2
    refine listChange_of (demand := fun _ => false) (hack (ackEntry_match (s := heard s rx) hr hocc hunack))
      (handsOn_setList _ _) ?_ fun other ho => findRecord_acknowledged_other (hid ▸ ho)
    rw [← hid]
    exact findRecord_acknowledged (hid ▸ hr)
  case shelve =>
    exact listChange_of (demand := fun _ => false) (hshelve (applyShelve_found (s := heard s rx) hr hroom))
      (handsOn_setList _ _) (findRecord_changeRecord_self (fun _ => rfl) hr)
      fun other ho => findRecord_changeRecord_other (fun _ => rfl) ho
  · exact absurd (hnone.symm.trans hr) nofun
  · obtain rfl : r = x := Option.some.inj (hr.symm.trans hx)
    exact hno
  case unshelve =>
    have hid : r.id = id := (findRecord_some hr).2
    have hrun := hunshelve (applyUnshelve_shelved (s := heard s rx) hr hshelved)
    unfold State.unshelveRecord at hrun
    by_cases hcleared : r.cleared = true
    · rw [if_pos hcleared] at hrun
      simp only [hcleared, if_true, Bool.not_true, Bool.false_and]
      refine listChange_of (demand := fun _ => false) hrun (handsOn_setList _ _) ?_ fun other ho => ?_
      · rw [hid, findRecord_dropRecord, if_pos rfl]
      · exact findRecord_dropRecord_other (hid ▸ ho)
    · rw [if_neg hcleared] at hrun
      simp only [hcleared, Bool.not_false, Bool.true_and, Bool.false_eq_true, if_false]
      refine listChange_of (demand := fun t => sounds t { r with handling := .unack } (s.area id.area.toNat).flood) hrun
        (handsOn_soundFor _ _ _ _) ?_ fun other ho => findRecord_moveRecord_other (hid ▸ ho)
      rw [← hid]
      refine (findRecord_moveRecord_self { r with handling := .unack, arrivalSec := s.clock.now } _).trans (congrArg some ?_)
      rw [Bool.eq_false_iff.mpr hcleared]

end Sys2Proof.Answers

/-! PROOF. A raise: the load unit, the record's position, the record that makes room, and what the window sees
(1.2, 1.3, 3.4, 4.2). -/

namespace Sys2Proof.Answers

open Sys2Proof.Machine Sys2Proof.Claims Sys2Proof.Keep

variable {c : Instr} {s t u v : State} {rx : Rx} {f : Frame} {n m : Station} {k : Byte} {b : Badge}
  {l : List AlarmRecord} {id : AlarmId} {r : AlarmRecord} {d : Bool} {p : Priority} {a : Nat}

/-! ### Order and position (R2) -/

theorem before_iff (x y : AlarmRecord) : x.before y = true ↔ Ahead x y := by
  unfold AlarmRecord.before Ahead
  by_cases hpriority : x.priority.num = y.priority.num
  · rw [if_neg (by simpa using hpriority)]
    by_cases hsec : x.arrivalSec = y.arrivalSec
    · rw [if_neg (by simpa using hsec), hsec, earlierSeq]
      simp [hpriority]
    · have hne : x.arrivalSec.toNat ≠ y.arrivalSec.toNat := fun e => hsec (BitVec.eq_of_toNat_eq e)
      rw [if_pos (by simpa using hsec)]
      simp [hpriority, hsec]
  · rw [if_pos (by simpa using hpriority)]
    simp [hpriority]

theorem placed_place (r : AlarmRecord) (l : List AlarmRecord) : Placed r l (place r l) := by
  induction l with
  | nil => exact ⟨[], [], rfl, rfl, nofun, nofun⟩
  | cons x rest ih =>
    unfold place
    split
    · next hbefore =>
      exact ⟨[], x :: rest, rfl, rfl, nofun, fun y hy => Option.some.inj hy ▸ (before_iff r x).mp hbefore⟩
    · next hnot =>
      obtain ⟨k, m, hrest, hplace, hk, hm⟩ := ih
      refine ⟨x :: k, m, by rw [hrest]; rfl, by rw [hplace]; rfl, fun y hy => ?_, hm⟩
      obtain rfl | hy := List.mem_cons.mp hy
      · exact mt (before_iff r y).mpr hnot
      · exact hk y hy

/-! ### The record that makes room (R3) -/

theorem evictee_eq_of_first {y : AlarmRecord} {m : List AlarmRecord} (hack : y.handling.isAck = true)
    (hl : ∀ x ∈ l, x.handling.isAck = true → x.priority.num < y.priority.num)
    (hm : ∀ x ∈ m, x.handling.isAck = true → x.priority.num ≤ y.priority.num) : evictee (l ++ y :: m) = some y := by
  induction l with
  | nil =>
    rw [List.nil_append]
    unfold evictee
    split
    · exact if_pos hack
    · next e he =>
      obtain ⟨hmem, heack⟩ := evictee_some he
      exact if_pos (by simp [hack, hm e hmem heack])
  | cons x rest ih =>
    have hrest := ih fun z hz => hl z (List.mem_cons_of_mem _ hz)
    rw [List.cons_append]
    unfold evictee
    rw [hrest]
    refine if_neg ?_
    rw [Bool.and_eq_true, decide_eq_true_iff]
    exact fun ⟨hx, hless⟩ => absurd (hl x List.mem_cons_self hx) (Nat.not_lt.mpr hless)

theorem evictee_eq_none (h : ∀ x ∈ l, x.handling.isAck = false) : evictee l = none := by
  cases he : evictee l with
  | none => rfl
  | some e =>
    obtain ⟨hmem, hack⟩ := evictee_some he
    exact absurd (h e hmem) (by simp [hack])

theorem insert_room (h : s.picture.list.length < 256) : s.insert r =
    some (relisted (place { r with arrivalSeq := s.picture.arrivals } s.picture.list) s.takeArrival) :=
  (if_pos h).trans (congrArg some (setList_eq _ _))

theorem insert_evicting {y : AlarmRecord} (h : 256 ≤ s.picture.list.length) (hy : evictee s.picture.list = some y) :
    s.insert r = some (relisted (place { r with arrivalSeq := s.picture.arrivals }
      (relisted (dropRecord y.id s.picture.list) s.takeArrival).picture.list)
      (relisted (dropRecord y.id s.picture.list) s.takeArrival)) := by
  refine (if_neg (Nat.not_lt.mpr h)).trans ?_
  rw [hy, ← setList_eq, ← setList_eq]

theorem insert_full (h : 256 ≤ s.picture.list.length) (hno : ∀ x ∈ s.picture.list, x.handling.isAck = false) :
    s.insert r = none := by
  refine (if_neg (Nat.not_lt.mpr h)).trans ?_
  rw [evictee_eq_none hno]

/-! ### Several changes of the list -/

theorem listChange_iff (u t : State) : ListChange u t ↔ ∃ list horn lamp top changed,
    t = { u with
      picture := { u.picture with list := list, horn := horn, lamp := lamp }
      window := { u.window with top := top, changed := changed } } := by
  refine ⟨fun h => ⟨_, _, _, _, _, h⟩, ?_⟩
  rintro ⟨list, horn, lamp, top, changed, rfl⟩
  rfl

theorem listChange_trans (h : ListChange u v) (h' : ListChange v t) : ListChange u t := by
  obtain ⟨list, horn, lamp, top, changed, rfl⟩ := (listChange_iff u v).mp h
  obtain ⟨list', horn', lamp', top', changed', rfl⟩ := (listChange_iff _ t).mp h'
  exact (listChange_iff u _).mpr ⟨list', horn', lamp', top', changed', rfl⟩

/-! ### What the window sees (R40, R50) -/

/-- The scoped list depends on the list, the scope and the held set. -/
theorem scoped_congr (hlist : u.picture.list = s.picture.list) (hscope : u.window.scope = s.window.scope)
    (hfocus : u.window.focus = s.window.focus) (hholds : u.holds = s.holds) : u.scoped = s.scoped := by
  have hadmits : u.admits = s.admits := by
    funext r
    unfold State.admits
    rw [hscope, hfocus, hholds]
  rw [State.scoped, hlist, hadmits, State.scoped]

theorem rows_congr (hscoped : u.scoped = s.scoped) (htop : u.window.top = s.window.top) : u.rows = s.rows := by
  rw [State.rows, hscoped, htop, State.rows]

/-- A window follows a change of the list from every state that shows the same. -/
theorem windowFollows_of_same (hrows : u.rows = s.rows) (hwindow : u.window = s.window) (h : WindowFollows u t) :
    WindowFollows s t := by
  unfold WindowFollows viewMoved State.view at h ⊢
  rw [hwindow, hrows] at h
  exact h

/-! ### The load unit (R57, R59) -/

theorem addLoad_load (r : Area) (p : Priority) : (r.addLoad p).load = min 65535 (r.load + p.weight) := by
  unfold Area.addLoad Area.floodTest
  split <;> rfl

theorem addLoad_eq (r : Area) (p : Priority) :
    r.addLoad p = { r with load := (r.addLoad p).load, flood := (r.addLoad p).flood } := by
  unfold Area.addLoad Area.floodTest
  split <;> rfl

theorem addLoad_flood_iff {r : Area} {k : AreaConfig} (hk : r.config = some k) : (r.addLoad p).flood = true ↔
    if r.flood = true then k.floodOff < (r.addLoad p).load else k.floodOn ≤ (r.addLoad p).load := by
  rw [addLoad_load]
  unfold Area.addLoad Area.floodTest
  dsimp only
  rw [hk]
  dsimp only
  cases r.flood <;> simp

/-- A state after the load unit has taken a raise and the arrival sequence has been given. -/
def raised (id : AlarmId) (p : Priority) (s : State) : State := { s with
  areas := s.areas.set id.area.toNat ((s.area id.area.toNat).addLoad p)
  picture := { s.picture with arrivals := s.picture.arrivals + 1 }
  transfer := { s.transfer with pendingEvents := s.transfer.pendingEvents.filter fun x => x.id != id }
  port := { s.port with
    attention := if ((s.area id.area.toNat).addLoad p).flood = (s.area id.area.toNat).flood then s.port.attention
      else plus s.port.attention .floodChange } }

/-- The state that a raise entry finds its record in. -/
def loaded (id : AlarmId) (p : Priority) (s : State) : State := (s.addLoad p id.area.toNat).dropPending id

theorem takeArrival_loaded (id : AlarmId) (p : Priority) (s : State) :
    (loaded id p s).takeArrival = raised id p s := by
  unfold loaded raised State.addLoad State.latchIf
  by_cases hsame : ((s.area id.area.toNat).addLoad p).flood = (s.area id.area.toNat).flood
  · rw [if_neg (by simp [hsame]), if_pos hsame]
    rfl
  · rw [if_pos (by simpa using hsame), if_neg hsame]
    rfl

theorem loaded_eq (id : AlarmId) (p : Priority) (s : State) :
    loaded id p s = { raised id p s with picture := s.picture } := by
  rw [← takeArrival_loaded]
  have hpicture : (loaded id p s).picture = s.picture := by
    unfold loaded State.addLoad State.latchIf
    split <;> rfl
  rw [← hpicture]
  rfl

theorem holds_raised (id : AlarmId) (p : Priority) (s : State) : (raised id p s).holds = s.holds := by
  funext a
  unfold State.holds
  have harea : ((raised id p s).area a).hold = (s.area a).hold := by
    by_cases ha : id.area.toNat = a
    · subst ha
      by_cases hlt : id.area.toNat < s.areas.length
      · rw [show (raised id p s).area id.area.toNat = _ from State.area_setArea_self s _ _ hlt, addLoad_eq]
      · rw [State.area, raised, List.set_eq_of_length_le (Nat.le_of_not_lt hlt)]
        rfl
    · rw [show (raised id p s).area a = s.area a from State.area_setArea_other s _ a _ ha]
  rw [harea]
  rfl

theorem rows_raised (id : AlarmId) (p : Priority) (s : State) : (raised id p s).rows = s.rows :=
  rows_congr (scoped_congr rfl rfl rfl (holds_raised id p s)) rfl

end Sys2Proof.Answers

/-! PROOF. The entries of an ALARM CHANGE (1.2, 1.3). -/

namespace Sys2Proof.Answers

open Sys2Proof.Machine Sys2Proof.Claims Sys2Proof.Keep

variable {c : Instr} {s t u v : State} {rx : Rx} {n : Station} {l : List AlarmRecord} {id : AlarmId} {r : AlarmRecord}
  {p : Priority} {e : ChangeEntry} {rt : Quad}

/-! ### The feed check (R5) -/

theorem feedCheck_iff (n : Station) (id : AlarmId) (s : State) :
    s.feedCheck n id = true ↔ ∃ k, (s.area id.area.toNat).config = some k ∧ k.feed = n := by
  unfold State.feedCheck
  cases (s.area id.area.toNat).config <;> simp

theorem changeEntry_mismatch (h : ∀ k, (s.area e.id.area.toNat).config = some k → k.feed ≠ n) :
    s.changeEntry n e = s.latch .feedMismatch := by
  refine if_neg ?_
  rw [feedCheck_iff]
  exact fun ⟨k, hk, hfeed⟩ => h k hk hfeed

theorem changeEntry_raise (h : s.feedCheck n e.id = true) (hk : e.kind = 0x01)
    (hp : priorityOf e.priority.toNat = some p) : s.changeEntry n e = s.raise n e.id p e.raiseTime := by
  unfold State.changeEntry
  rw [if_pos h, hk, hp]
  rfl

theorem changeEntry_nameless (h : s.feedCheck n e.id = true) (hk : e.kind = 0x01)
    (hp : priorityOf e.priority.toNat = none) : s.changeEntry n e = s := by
  unfold State.changeEntry
  rw [if_pos h, hk, hp]
  rfl

theorem changeEntry_clear (h : s.feedCheck n e.id = true) (hk : e.kind = 0x02) : s.changeEntry n e = s.clear e.id := by
  unfold State.changeEntry
  rw [if_pos h, hk]
  rfl

theorem changeEntry_kindless (h : s.feedCheck n e.id = true) (hk : e.kind ≠ 0x01) (hk' : e.kind ≠ 0x02) :
    s.changeEntry n e = s := by
  unfold State.changeEntry
  rw [if_pos h, (beq_eq_false_iff_ne.mpr hk : (e.kind == 0x01#8) = false),
    (beq_eq_false_iff_ne.mpr hk' : (e.kind == 0x02#8) = false)]
  rfl

/-! ### A raise (R6, R7) -/

theorem raise_new (h : findRecord id s.picture.list = none) :
    s.raise n id p rt = (loaded id p s).newRaise n id p rt := by
  unfold State.raise
  rw [show (s.addLoad p id.area.toNat).dropPending id = loaded id p s from rfl, loaded_eq]
  dsimp only
  rw [h]

theorem raise_found (h : findRecord id s.picture.list = some r) :
    s.raise n id p rt = (loaded id p s).reRaise n p rt r := by
  unfold State.raise
  rw [show (s.addLoad p id.area.toNat).dropPending id = loaded id p s from rfl, loaded_eq]
  dsimp only
  rw [h]

/-- The record of a new raise (R6). -/
def raisedRecord (n : Station) (id : AlarmId) (p : Priority) (rt : Quad) (s : State) : AlarmRecord :=
  ⟨id, p, false, .unack, 1, rt, s.clock.now, s.picture.arrivals, false, n⟩

theorem list_loaded (id : AlarmId) (p : Priority) (s : State) : (loaded id p s).picture = s.picture := by
  rw [loaded_eq]

theorem now_loaded (id : AlarmId) (p : Priority) (s : State) : (loaded id p s).now = s.clock.now := by
  rw [loaded_eq]
  rfl

theorem inserted_record (n : Station) (id : AlarmId) (p : Priority) (rt : Quad) (s : State) :
    { newRecord (loaded id p s).now n id p rt with arrivalSeq := (loaded id p s).picture.arrivals } =
      raisedRecord n id p rt s := by
  rw [list_loaded, now_loaded]
  rfl

theorem newRaise_room (h : s.picture.list.length < 256) : (loaded id p s).newRaise n id p rt =
    ((raised id p s).setList (place (raisedRecord n id p rt s) s.picture.list)).soundFor (raisedRecord n id p rt s)
      ((raised id p s).inFlood id.area.toNat) := by
  unfold State.newRaise
  dsimp only
  rw [insert_room (s := loaded id p s) (by rw [list_loaded]; exact h), inserted_record, list_loaded, takeArrival_loaded,
    ← setList_eq, ← inserted_record]
  rfl

theorem newRaise_evicting {y : AlarmRecord} (h : 256 ≤ s.picture.list.length) (hy : evictee s.picture.list = some y) :
    (loaded id p s).newRaise n id p rt =
      ((relisted (dropRecord y.id s.picture.list) (raised id p s)).setList (place (raisedRecord n id p rt s)
        (dropRecord y.id s.picture.list))).soundFor (raisedRecord n id p rt s) ((raised id p s).inFlood id.area.toNat) := by
  unfold State.newRaise
  dsimp only
  rw [insert_evicting (s := loaded id p s) (by rw [list_loaded]; exact h) (by rw [list_loaded]; exact hy),
    inserted_record, list_loaded, takeArrival_loaded, ← setList_eq, ← setList_eq, ← inserted_record]
  rfl

theorem newRaise_full (h : 256 ≤ s.picture.list.length) (hno : ∀ x ∈ s.picture.list, x.handling.isAck = false) :
    (loaded id p s).newRaise n id p rt = (loaded id p s).listFull := by
  unfold State.newRaise
  dsimp only
  rw [insert_full (s := loaded id p s) (by rw [list_loaded]; exact h) (by rw [list_loaded]; exact hno)]

/-- A re-raised record in its new position, before the window-changed test of R50's own. -/
def reRaisedRecord (n : Station) (p : Priority) (rt : Quad) (r : AlarmRecord) (s : State) : AlarmRecord :=
  r.reraised s.clock.now s.picture.arrivals n p rt

theorem soundFor_shown (u : State) (r : AlarmRecord) (flood : Bool) :
    (u.soundFor r flood).window = u.window ∧ (u.soundFor r flood).inView = u.inView := by
  rw [soundFor_eq]
  cases sounds u r flood <;> exact ⟨rfl, rfl⟩

/-- A state with its window-changed indicator also set where a record stands in the view, before or after (R50). -/
def shownIn (id : AlarmId) (before : Bool) (t : State) : State :=
  { t with window := { t.window with changed := t.window.changed || before || t.inView id } }

theorem soundFor_shownIn (u : State) (id : AlarmId) (before : Bool) (r : AlarmRecord) (flood : Bool) :
    (shownIn id before u).soundFor r flood = shownIn id before (u.soundFor r flood) := by
  rw [soundFor_eq, soundFor_eq, show sounds (shownIn id before u) r flood = sounds u r flood from rfl]
  cases sounds u r flood <;> rfl

theorem reRaise_eq : (loaded r.id p s).reRaise n p rt r = shownIn r.id (s.inView r.id)
    (((raised r.id p s).setList (moveRecord (reRaisedRecord n p rt r s) s.picture.list)).soundFor
      (reRaisedRecord n p rt r s) ((raised r.id p s).inFlood r.id.area.toNat)) := by
  have hview : (loaded r.id p s).inView = s.inView := by
    funext x
    have hrows : (loaded r.id p s).rows = s.rows := by
      rw [loaded_eq]
      exact rows_raised r.id p s
    rw [State.inView, hrows, State.inView]
  rw [← soundFor_shownIn]
  unfold State.reRaise
  dsimp only
  rw [list_loaded, now_loaded, takeArrival_loaded, hview]
  rfl

/-! ### A clear (R8) -/

theorem clear_unfound (h : findRecord id s.picture.list = none) (hno : s.transfer.refresh = none) : s.clear id = s := by
  unfold State.clear
  rw [h]
  refine if_neg ?_
  rw [State.refreshing, hno]
  exact Bool.false_ne_true

theorem clear_waits (h : findRecord id s.picture.list = none) (hrefresh : s.transfer.refresh ≠ none) :
    s.clear id = s.addPending ⟨id, .clear⟩ := by
  unfold State.clear
  rw [h]
  exact if_pos (Option.isSome_iff_ne_none.mpr hrefresh)

/-- The list after a clear of a record that is not CLEARED (R8). -/
def cleared (r : AlarmRecord) (l : List AlarmRecord) : List AlarmRecord :=
  if r.handling.isAck then dropRecord r.id l else changeRecord r.id (fun x => { x with cleared := true }) l

theorem findRecord_cleared (hr : findRecord r.id l = some r) :
    findRecord r.id (cleared r l) = if r.handling.isAck = true then none else some { r with cleared := true } := by
  unfold cleared
  split
  · rw [findRecord_dropRecord, if_pos rfl]
  · exact findRecord_changeRecord_self (fun _ => rfl) hr

theorem findRecord_cleared_other {other : AlarmId} (h : other ≠ r.id) :
    findRecord other (cleared r l) = findRecord other l := by
  unfold cleared
  split
  · exact findRecord_dropRecord_other h
  · exact findRecord_changeRecord_other (fun _ => rfl) h

theorem clear_found (h : findRecord id s.picture.list = some r) (hno : r.cleared = false) :
    s.clear id = s.setList (cleared r s.picture.list) := by
  unfold State.clear
  rw [h]
  dsimp only
  unfold State.clearRecord cleared
  rw [hno]
  by_cases hack : r.handling.isAck = true
  · rw [if_pos hack, if_pos hack]
  · rw [if_neg hack, if_neg hack]
    rfl

/-! ### The entries by turns (R4) -/

/-- An insertion does the same beside any change that it does not look at. -/
theorem insert_comm {g : State → State} (hpicture : ∀ v, (g v).picture = v.picture)
    (harrival : ∀ v, (g v).takeArrival = g v.takeArrival) (hlist : ∀ k v, relisted k (g v) = g (relisted k v))
    (v : State) (r : AlarmRecord) : (g v).insert r = (v.insert r).map g := by
  have hsame := hpicture v
  obtain hroom | hfull := Nat.lt_or_ge v.picture.list.length 256
  · rw [insert_room (s := g v) (by rw [hsame]; exact hroom), insert_room hroom, harrival, hlist, hsame]
    rfl
  · cases he : evictee v.picture.list with
    | none =>
      have hno : ∀ u : State, u.picture = v.picture → u.insert r = none := fun u hu =>
        (if_neg (by rw [hu]; exact Nat.not_lt.mpr hfull)).trans (by rw [hu, he])
      rw [hno v rfl, hno (g v) hsame]
      rfl
    | some y =>
      rw [insert_evicting (s := g v) (by rw [hsame]; exact hfull) (by rw [hsame]; exact he), insert_evicting hfull he,
        harrival, hsame, hlist, hlist, hpicture]
      rfl

/-- The scheduler after a report is set again in its presences (R153). -/
def reportedAgain (r : Report) (x : Transmit) : Transmit :=
  { x with
    presence := x.presence.map fun p => { p with again := setReportIn r p.again }
    nextPresence := x.nextPresence.map fun p => { p with again := setReportIn r p.again } }

/-- A change of the scheduler that leaves the presences alone. -/
def PresencesApart (q : Transmit → Transmit) : Prop := ∀ r x, q (reportedAgain r x) = reportedAgain r (q x)

theorem listFull_wired {q : Transmit → Transmit} (hq : PresencesApart q) (g : Bus → Bus) (v : State) :
    (wired g q v).listFull = wired g q v.listFull := by
  have htx : (wired g q v).listFull.tx = q v.listFull.tx := (hq .listFull v.tx).symm
  have hwhole : (wired g q v).listFull = { wired g q v.listFull with tx := (wired g q v).listFull.tx } := rfl
  rw [hwhole, htx]
  rfl

theorem relisted_wired (g : Bus → Bus) (q : Transmit → Transmit) (k : List AlarmRecord) (v : State) :
    relisted k (wired g q v) = wired g q (relisted k v) := rfl

theorem insert_wired (g : Bus → Bus) (q : Transmit → Transmit) (v : State) (r : AlarmRecord) :
    (wired g q v).insert r = (v.insert r).map (wired g q) :=
  insert_comm (g := wired g q) (fun _ => rfl) (fun _ => rfl) (relisted_wired g q) v r

theorem soundFor_wired (g : Bus → Bus) (q : Transmit → Transmit) (v : State) (r : AlarmRecord) (flood : Bool) :
    (wired g q v).soundFor r flood = wired g q (v.soundFor r flood) := by
  rw [soundFor_eq, soundFor_eq, show sounds (wired g q v) r flood = sounds v r flood from rfl]
  cases sounds v r flood <;> rfl

theorem addLoad_wired (g : Bus → Bus) (q : Transmit → Transmit) (v : State) (p : Priority) (a : Nat) :
    (wired g q v).addLoad p a = wired g q (v.addLoad p a) := by
  unfold State.addLoad State.latchIf
  rw [show (wired g q v).area = v.area from rfl]
  split <;> rfl

theorem newRaise_wired {q : Transmit → Transmit} (hq : PresencesApart q) (g : Bus → Bus) (v : State) :
    State.newRaise n id p rt (wired g q v) = wired g q (v.newRaise n id p rt) := by
  unfold State.newRaise
  dsimp only
  rw [insert_wired, show (wired g q v).now = v.now from rfl]
  cases v.insert (newRecord v.now n id p rt) with
  | none => exact listFull_wired hq g v
  | some u => exact soundFor_wired g q u _ _

theorem reRaise_wired (g : Bus → Bus) (q : Transmit → Transmit) (v : State) :
    State.reRaise n p rt r (wired g q v) = wired g q (v.reRaise n p rt r) := by
  have hlist : ∀ k, (wired g q v).takeArrival.setList k = wired g q (v.takeArrival.setList k) := fun _ => rfl
  unfold State.reRaise
  dsimp only
  rw [show (wired g q v).now = v.now from rfl, show (wired g q v).picture = v.picture from rfl,
    show (wired g q v).inView = v.inView from rfl, hlist]
  generalize v.takeArrival.setList _ = w
  exact soundFor_wired g q { w with window := { w.window with
    changed := w.window.changed || v.inView r.id || w.inView r.id } } _ _

theorem raise_wired {q : Transmit → Transmit} (hq : PresencesApart q) (g : Bus → Bus) (v : State) :
    State.raise n id p rt (wired g q v) = wired g q (v.raise n id p rt) := by
  have hloaded : loaded id p (wired g q v) = wired g q (loaded id p v) :=
    congrArg (State.dropPending id) (addLoad_wired g q v p _)
  cases h : findRecord id v.picture.list with
  | none => rw [raise_new (s := wired g q v) h, raise_new h, hloaded, newRaise_wired hq]
  | some r => rw [raise_found (s := wired g q v) h, raise_found h, hloaded, reRaise_wired]

theorem addPending_wired (g : Bus → Bus) (q : Transmit → Transmit) (v : State) (y : PendingEvent) :
    State.addPending y (wired g q v) = wired g q (v.addPending y) := by
  unfold State.addPending
  rw [show (wired g q v).transfer = v.transfer from rfl]
  split <;> rfl

theorem clear_wired (g : Bus → Bus) (q : Transmit → Transmit) (v : State) :
    State.clear id (wired g q v) = wired g q (v.clear id) := by
  unfold State.clear
  rw [show (wired g q v).picture = v.picture from rfl]
  split
  · next r _ =>
    unfold State.clearRecord
    split
    · rfl
    · split <;> rfl
  · rw [show (wired g q v).refreshing = v.refreshing from rfl, addPending_wired]
    split <;> rfl

theorem changeEntry_wired {q : Transmit → Transmit} (hq : PresencesApart q) (g : Bus → Bus) (v : State) :
    State.changeEntry n e (wired g q v) = wired g q (v.changeEntry n e) := by
  by_cases hfed : v.feedCheck n e.id = true
  · have hfed' : (wired g q v).feedCheck n e.id = true := hfed
    by_cases hraise : e.kind = 0x01
    · cases hp : priorityOf e.priority.toNat with
      | none => rw [changeEntry_nameless hfed' hraise hp, changeEntry_nameless hfed hraise hp]
      | some p => rw [changeEntry_raise hfed' hraise hp, changeEntry_raise hfed hraise hp, raise_wired hq]
    · by_cases hclear : e.kind = 0x02
      · rw [changeEntry_clear hfed' hclear, changeEntry_clear hfed hclear, clear_wired]
      · rw [changeEntry_kindless hfed' hraise hclear, changeEntry_kindless hfed hraise hclear]
  · have hfed' : ¬(wired g q v).feedCheck n e.id = true := hfed
    unfold State.changeEntry
    rw [if_neg hfed, if_neg hfed']
    rfl

theorem applyChanges_wired {q : Transmit → Transmit} (hq : PresencesApart q) (g : Bus → Bus) (es : List ChangeEntry)
    (v : State) :
    State.applyChanges n es (wired g q v) = wired g q (v.applyChanges n es) := by
  unfold State.applyChanges
  induction es generalizing v with
  | nil => rfl
  | cons e rest ih => rw [List.foldl_cons, List.foldl_cons, changeEntry_wired hq, ih]

/-- A change entry sets a report at most; the station's state and number stay. -/
theorem changeEntry_node (v : State) :
    (v.changeEntry n e).node = { v.node with reports := (v.changeEntry n e).node.reports } := by
  have hraise : ∀ p, (v.raise n e.id p e.raiseTime).node =
      { v.node with reports := (v.raise n e.id p e.raiseTime).node.reports } := by
    intro p
    have hnode : (loaded e.id p v).node = v.node := by
      rw [loaded_eq]
      rfl
    cases h : findRecord e.id v.picture.list with
    | none =>
      rw [raise_new h, ← hnode]
      unfold State.newRaise
      dsimp only
      split
      · rfl
      · next u hu => simp [State.insert_frame _ _ _ hu]
    | some r =>
      rw [raise_found h, ← hnode]
      simp
  by_cases hfed : v.feedCheck n e.id = true
  · by_cases hkind : e.kind = 0x01
    · cases hp : priorityOf e.priority.toNat with
      | none => rw [changeEntry_nameless hfed hkind hp]
      | some p => rw [changeEntry_raise hfed hkind hp]; exact hraise p
    · by_cases hclear : e.kind = 0x02
      · rw [changeEntry_clear hfed hclear]; simp
      · rw [changeEntry_kindless hfed hkind hclear]
  · unfold State.changeEntry
    rw [if_neg hfed]
    rfl

end Sys2Proof.Answers

/-! PROOF. ALARM CHANGE frames (1.2, 1.3, 3.4). -/

namespace Sys2Proof.Answers

open Sys2Proof.Machine Sys2Proof.Claims Sys2Proof.Keep

variable {c : Instr} {s t u v : State} {rx : Rx} {n : Station} {l : List AlarmRecord} {id : AlarmId} {r : AlarmRecord}
  {p : Priority} {e : ChangeEntry} {rt : Quad}

theorem inFlood_raised (h : (s.area id.area.toNat).config ≠ none) :
    (raised id p s).inFlood id.area.toNat = ((s.area id.area.toNat).addLoad p).flood :=
  congrArg Area.flood (State.area_setArea_self s _ _ (lt_of_configured h))

theorem othersKept_place (hid : r.id = id) :
    ∀ other, other ≠ id → findRecord other (place r l) = findRecord other l := by
  intro other ho
  rw [findRecord_place _ _ _ fun e => absurd (e.symm.trans hid) ho, if_neg (fun e => ho (e.symm.trans hid))]

theorem succSat_eq (x : Byte) : x.succSat = if x = 0xFF then 0xFF else x + 1 := by
  by_cases h : x = 0xFF
  · rw [if_pos h]
    exact (if_pos h).trans h
  · rw [if_neg h]
    exact if_neg h

/-- Settles O56: each entry by its kind; a raise by what `findRecord` and the list's places give. -/
theorem changeEntriesChangeTheList : Obligations.ChangeEntriesChangeTheList := by
  unfold Obligations.ChangeEntriesChangeTheList
  intro s rx e h
  have hrun : ∀ {x : State}, (heard s rx).changeEntry rx.sender e = x → exec (.alarmChange rx [e]) s = .next x :=
    fun hx => (exec_heard (f := .alarmChange [e]) h rfl).trans (congrArg _ hx)
  refine ⟨fun es q hes hlength hq => ?turns, fun hno => hrun (changeEntry_mismatch (s := heard s rx) hno),
    fun k hk hfeed => ?fed⟩
  case turns =>
    have hpositive : 1 ≤ es.length := List.length_pos_iff.mpr hes
    exact inTurn_of (f := .alarmChange (e :: es)) (f' := .alarmChange [e]) (g := .alarmChange es)
      (act := State.changeEntry rx.sender e) (act' := State.applyChanges rx.sender es) h hq
      (by simp [frameFits]; omega) rfl (by simp [frameFits, hpositive]; omega)
      (fun _ _ => rfl) (fun _ _ => rfl) (fun _ _ => rfl) (fun _ => by rw [changeEntry_node])
      (fun _ => by rw [changeEntry_node]) (fun _ => by simp) (fun _ => by simp) (fun _ => applyChanges_wired (fun _ _ => rfl) _ es)
      (fun _ => by simp)
  case fed =>
    have hfed : (heard s rx).feedCheck rx.sender e.id = true := (feedCheck_iff _ _ _).mpr ⟨k, hk, hfeed⟩
    have hconfig : ((heard s rx).area e.id.area.toNat).config ≠ none := by
      rw [show ((heard s rx).area e.id.area.toNat).config = some k from hk]
      exact Option.some_ne_none k
    refine ⟨fun hno hno' => hrun (changeEntry_kindless hfed hno hno'),
      fun hkind hp => hrun (changeEntry_nameless hfed hkind hp), fun p v u hkind hp hv hu => ?raises,
      fun r hkind hr hnot => ?clears, fun hkind hnone => ?waits⟩
    case raises =>
      have hraised : raised e.id p (heard s rx) = u := by rw [hu, hv]; rfl
      have hraise : ∀ {x : State}, (heard s rx).raise rx.sender e.id p e.raiseTime = x →
          exec (.alarmChange rx [e]) s = .next x := fun hx => hrun ((changeEntry_raise hfed hkind hp).trans hx)
      have hflood : u.inFlood e.id.area.toNat = v.flood := by
        rw [← hraised, inFlood_raised hconfig, hv]
        rfl
      have hrows : u.rows = s.rows := by
        rw [← hraised]
        exact rows_raised e.id p (heard s rx)
      have hwindow : u.window = s.window := by rw [hu]; rfl
      refine ⟨by rw [hv]; exact addLoad_load _ p, by rw [hv]; exact addLoad_eq _ p, ?_,
        fun n hnone hn => ⟨fun hroom => ?room, fun l y m room hfull hlist hack hl hm hroom => ?evicting,
          fun hfull hno => ?full⟩, fun r n hr hn => ?again⟩
      · rw [hv]
        exact addLoad_flood_iff hk
      case room =>
        have hstate := (raise_new (s := heard s rx) (n := rx.sender) (p := p) (rt := e.raiseTime) hnone).trans
          (newRaise_room (s := heard s rx) hroom)
        have hrecord : raisedRecord rx.sender e.id p e.raiseTime (heard s rx) = n := hn.symm
        rw [hraised, hrecord, hflood, show (heard s rx).picture = s.picture from rfl] at hstate
        have hands := handsOn_soundFor (place n s.picture.list) n v.flood u
        have hid : n.id = e.id := by rw [hn]
        refine ⟨_, hraise hstate, hands.change, fun other ho => ?_, ?_, ?_,
          windowFollows_of_same hrows hwindow hands.window, hands.annunciate⟩
        · rw [hands.list]
          exact othersKept_place hid other ho
        · rw [hands.list, findRecord_place _ _ _ fun _ => hnone, if_pos hid]
        · rw [hands.list]
          exact placed_place n s.picture.list
      case evicting =>
        have hevictee : evictee s.picture.list = some y := hlist ▸ evictee_eq_of_first hack hl hm
        have hstate := (raise_new (s := heard s rx) (n := rx.sender) (p := p) (rt := e.raiseTime) hnone).trans
          (newRaise_evicting (s := heard s rx) hfull hevictee)
        have hrecord : raisedRecord rx.sender e.id p e.raiseTime (heard s rx) = n := hn.symm
        have hmade : relisted (dropRecord y.id s.picture.list) u = room := hroom.symm
        rw [hraised, hrecord, hflood, show (heard s rx).picture = s.picture from rfl, hmade] at hstate
        have hlisted : room.picture.list = dropRecord y.id s.picture.list := by rw [← hmade]; rfl
        have hands := handsOn_soundFor (place n (dropRecord y.id s.picture.list)) n v.flood room
        have hchange : ListChange u room := hmade ▸ (handsOn_demanded false _ u).change
        refine ⟨_, hraise hstate, listChange_trans hchange hands.change, ?_, ?_⟩
        · rw [hands.list, hlisted]
          exact placed_place n _
        · rw [hands.list]
          exact hands.whole
      case full =>
        have hstate := (raise_new (s := heard s rx) (n := rx.sender) (p := p) (rt := e.raiseTime) hnone).trans
          (newRaise_full (s := heard s rx) hfull hno)
        rw [loaded_eq, hraised] at hstate
        refine (hraise hstate).trans (congrArg _ ?_)
        rw [hu]
        rfl
      case again =>
        have hid : r.id = e.id := (findRecord_some hr).2
        have hstate := (raise_found (s := heard s rx) (n := rx.sender) (p := p) (rt := e.raiseTime) hr)
        rw [← hid, reRaise_eq] at hstate
        have hrecord : reRaisedRecord rx.sender p e.raiseTime r (heard s rx) = n := by
          rw [hn, reRaisedRecord, AlarmRecord.reraised, succSat_eq]
          rfl
        rw [hid, hraised, hrecord, hflood, show (heard s rx).picture = s.picture from rfl] at hstate
        have hands := handsOn_soundFor (moveRecord n s.picture.list) n v.flood u
        generalize (u.setList (moveRecord n s.picture.list)).soundFor n v.flood = t at hstate hands
        have hnid : n.id = e.id := by rw [hn]; exact hid
        obtain ⟨htop, hchanged⟩ := windowFollows_of_same hrows hwindow hands.window
        refine ⟨_, hraise hstate, listChange_trans hands.change rfl, fun other ho => ?_, ?_, ?_, hands.annunciate, htop, ?_⟩
        · exact (congrArg (findRecord other) hands.list).trans (findRecord_moveRecord_other (hnid ▸ ho))
        · exact (congrArg (findRecord e.id) hands.list).trans (hnid ▸ findRecord_moveRecord_self n _)
        · rw [show (shownIn e.id _ t).picture = t.picture from rfl, hands.list, ← hnid]
          exact placed_place n _
        · show (t.window.changed || s.inView e.id || t.inView e.id) = _
          rw [hchanged]
          rfl
    case clears =>
      have hid : r.id = e.id := (findRecord_some hr).2
      have hstate := hrun ((changeEntry_clear hfed hkind).trans (clear_found (s := heard s rx) hr hnot))
      have hands := handsOn_setList (cleared r s.picture.list) (heard s rx)
      refine ⟨_, hstate, hands.change, fun other ho => ?_, hands.window, hands.annunciate, ?_⟩
      · exact findRecord_cleared_other (hid ▸ ho)
      · rw [← hid] at hr ⊢
        exact findRecord_cleared hr
    case waits =>
      have hstate := changeEntry_clear hfed hkind
      refine ⟨fun hno => hrun (hstate.trans (clear_unfound (s := heard s rx) hnone hno)),
        fun hrefresh hroom => hrun (hstate.trans ?_), fun hrefresh hfull => hrun (hstate.trans ?_)⟩
      · rw [clear_waits (s := heard s rx) hnone hrefresh, addPending_room (s := heard s rx) hroom]
        rfl
      · rw [clear_waits (s := heard s rx) hnone hrefresh, addPending_full (s := heard s rx) hfull]
        rfl

end Sys2Proof.Answers

/-! PROOF. The merge of a picture record, beside the refresh it is part of (11.4 to 11.6). -/

namespace Sys2Proof.Answers

open Sys2Proof.Machine Sys2Proof.Claims Sys2Proof.Keep

variable {c : Instr} {s t u v : State} {rx : Rx} {n : Station} {l : List AlarmRecord} {id : AlarmId} {r : AlarmRecord}
  {p : Priority} {x : List (Option Byte)} {y : Option Refresh} {w : PictureRecord}

/-! ### What the merge does not look at -/

/-- A state with other stored sequences and another refresh. -/
def apart (x : List (Option Byte)) (y : Option Refresh) (s : State) : State :=
  { s with bus := { s.bus with lastSeq := x }, transfer := { s.transfer with refresh := y } }

theorem relisted_apart (k : List AlarmRecord) (v : State) : relisted k (apart x y v) = apart x y (relisted k v) := rfl

theorem setList_apart (k : List AlarmRecord) (v : State) : (apart x y v).setList k = apart x y (v.setList k) := by
  rw [setList_eq, setList_eq, relisted_apart]

theorem insert_apart (v : State) (r : AlarmRecord) : (apart x y v).insert r = (v.insert r).map (apart x y) :=
  insert_comm (g := apart x y) (fun _ => rfl) (fun _ => rfl) relisted_apart v r

theorem applyPending_apart (v : State) (e : PendingEvent) :
    State.applyPending e (apart x y v) = apart x y (v.applyPending e) := by
  unfold State.applyPending
  rw [show (apart x y v).picture = v.picture from rfl]
  split
  · rfl
  · split
    · unfold State.clearRecord
      rw [show (apart x y v).picture = v.picture from rfl, setList_apart, setList_apart]
      split
      · rfl
      · split <;> rfl
    · unfold State.acknowledgeRecord
      rw [show (apart x y v).picture = v.picture from rfl, setList_apart, setList_apart]
      split
      · split <;> rfl
      · rfl

theorem matchPending_apart (v : State) (id : AlarmId) :
    State.matchPending id (apart x y v) = apart x y (v.matchPending id) := by
  unfold State.matchPending
  rw [show State.dropPending id (apart x y v) = apart x y (v.dropPending id) from rfl]
  exact List.foldl_hom (apart x y) (g₁ := fun s e => State.applyPending e s) (g₂ := fun s e => State.applyPending e s)
    fun v e => applyPending_apart v e

theorem insertPicture_apart (v : State) : State.insertPicture w (apart x y v) = apart x y (v.insertPicture w) := by
  unfold State.insertPicture
  dsimp only
  rw [show (apart x y v).picture = v.picture from rfl, show (apart x y v).now = v.now from rfl,
    show (apart x y v).shelveLimit = v.shelveLimit from rfl]
  split
  · rfl
  · split
    · rfl
    · next z _ =>
      rw [insert_apart]
      cases v.insert z with
      | none => rfl
      | some u => exact matchPending_apart u w.id

theorem mergeRecord_apart (v : State) (w : PictureRecord) :
    State.mergeRecord w (apart x y v) = apart x y (v.mergeRecord w) := by
  unfold State.mergeRecord
  rw [show (apart x y v).picture = v.picture from rfl,
    show State.pictureIgnored w (apart x y v) = v.pictureIgnored w from rfl, setList_apart]
  split
  · rfl
  · split
    · exact insertPicture_apart v
    · split
      · rfl
      · exact insertPicture_apart _

theorem mergeAll_apart (v : State) (ws : List PictureRecord) :
    State.mergeAll ws (apart x y v) = apart x y (v.mergeAll ws) :=
  List.foldl_hom (apart x y) (g₁ := fun s w => State.mergeRecord w s) (g₂ := fun s w => State.mergeRecord w s)
    fun v w => mergeRecord_apart v w

theorem matchPending_refresh (v : State) (id : AlarmId) :
    (v.matchPending id).transfer.refresh = v.transfer.refresh := by
  unfold State.matchPending
  exact foldl_keeps (fun s => s.transfer.refresh) _ (fun s e => by simp) _ _

theorem insertPicture_kept (v : State) : (v.insertPicture w).transfer.refresh = v.transfer.refresh ∧
    (v.insertPicture w).node.mode = v.node.mode ∧ (v.insertPicture w).node.number = v.node.number := by
  unfold State.insertPicture
  dsimp only
  split
  · exact ⟨rfl, rfl, rfl⟩
  · split
    · exact ⟨rfl, rfl, rfl⟩
    · split
      · exact ⟨rfl, rfl, rfl⟩
      · next u hu => simp [matchPending_refresh, State.insert_frame _ _ _ hu]

theorem mergeRecord_kept (v : State) (w : PictureRecord) : (v.mergeRecord w).transfer.refresh = v.transfer.refresh ∧
    (v.mergeRecord w).node.mode = v.node.mode ∧ (v.mergeRecord w).node.number = v.node.number := by
  unfold State.mergeRecord
  split
  · exact ⟨rfl, rfl, rfl⟩
  · split
    · exact insertPicture_kept v
    · split
      · exact ⟨rfl, rfl, rfl⟩
      · exact insertPicture_kept _

theorem mergeAll_kept (v : State) (ws : List PictureRecord) : (v.mergeAll ws).transfer.refresh = v.transfer.refresh ∧
    (v.mergeAll ws).node.mode = v.node.mode ∧ (v.mergeAll ws).node.number = v.node.number :=
  ⟨foldl_keeps (fun s => s.transfer.refresh) _ (fun s w => (mergeRecord_kept s w).1) _ _,
    foldl_keeps (fun s => s.node.mode) _ (fun s w => (mergeRecord_kept s w).2.1) _ _,
    foldl_keeps (fun s => s.node.number) _ (fun s w => (mergeRecord_kept s w).2.2) _ _⟩

/-! ### Pending entries (R168) -/

/-- What the pending entries of an id make of a state: that record as `matched` has it, and every other one kept. -/
structure Matched (id : AlarmId) (z : Option AlarmRecord) (u t : State) : Prop where
  change : ListChange u t
  self   : findRecord id t.picture.list = z
  others : ∀ other, other ≠ id → findRecord other t.picture.list = findRecord other u.picture.list

theorem Matched.setList {z : Option AlarmRecord} (hself : findRecord id l = z)
    (hothers : ∀ other, other ≠ id → findRecord other l = findRecord other u.picture.list) : Matched id z u (u.setList l) :=
  ⟨(handsOn_setList l u).change, hself, hothers⟩

theorem clearRecord_matched (h : findRecord r.id u.picture.list = some r) : Matched r.id
    (if r.handling.isAck = true then none else some { r with cleared := true }) u (u.clearRecord r) := by
  by_cases hcleared : r.handling.isAck = false ∧ r.cleared = true
  · obtain ⟨hack, hyes⟩ := hcleared
    have hsame : u.clearRecord r = u := by
      unfold State.clearRecord
      rw [hack, hyes]
      rfl
    have hrecord : { r with cleared := true } = r := by rw [← hyes]
    rw [hsame, hack, hrecord]
    exact ⟨rfl, h, fun _ _ => rfl⟩
  · have hlist : u.clearRecord r = u.setList (cleared r u.picture.list) := by
      unfold State.clearRecord cleared
      cases hack : r.handling.isAck with
      | true => rfl
      | false =>
        have hno : r.cleared = false := by simpa [hack] using hcleared
        rw [hno]
        rfl
    rw [hlist]
    exact .setList (findRecord_cleared h) fun other ho => findRecord_cleared_other ho

theorem acknowledgeRecord_matched {m : Station} {b : Badge} (h : findRecord r.id u.picture.list = some r) :
    Matched r.id (if r.cleared = true then none else some { r with handling := .ack m b, escalated := false }) u
      (u.acknowledgeRecord m b r) := by
  have hlist : u.acknowledgeRecord m b r = u.setList (acknowledged m b r u.picture.list) := by
    unfold State.acknowledgeRecord acknowledged
    cases r.cleared <;> rfl
  rw [hlist]
  exact .setList (findRecord_acknowledged h) fun other ho => findRecord_acknowledged_other ho

theorem isUnack_iff (x : Handling) : x.isUnack = true ↔ x = .unack := by
  cases x <;> simp [Handling.isUnack]

theorem applyPending_matched {e : PendingEvent} (he : e.id = id) :
    Matched id (matched (findRecord id u.picture.list) e) u (u.applyPending e) := by
  subst he
  unfold State.applyPending
  cases hr : findRecord e.id u.picture.list with
  | none => exact ⟨rfl, hr, fun _ _ => rfl⟩
  | some r =>
    have hid : r.id = e.id := (findRecord_some hr).2
    unfold matched
    dsimp only
    cases he : e.kind with
    | clear =>
      rw [← hid] at hr ⊢
      exact clearRecord_matched hr
    | ack o m b =>
      dsimp only
      have htest : (o == r.occurrence && r.handling.isUnack) = true ↔ o = r.occurrence ∧ r.handling = .unack := by
        rw [Bool.and_eq_true, beq_iff_eq, isUnack_iff]
      by_cases hmatch : o = r.occurrence ∧ r.handling = .unack
      · rw [if_pos hmatch, if_pos (htest.mpr hmatch)]
        rw [← hid] at hr ⊢
        exact acknowledgeRecord_matched hr
      · rw [if_neg hmatch, if_neg (mt htest.mp hmatch)]
        exact ⟨rfl, hr, fun _ _ => rfl⟩

theorem foldl_applyPending_matched (es : List PendingEvent) (hes : ∀ e ∈ es, e.id = id) (u : State) :
    Matched id (es.foldl matched (findRecord id u.picture.list)) u (es.foldl (fun s e => s.applyPending e) u) := by
  induction es generalizing u with
  | nil => exact ⟨rfl, rfl, fun _ _ => rfl⟩
  | cons e rest ih =>
    have hfirst := applyPending_matched (u := u) (hes e List.mem_cons_self)
    have hrest := ih (fun e he => hes e (List.mem_cons_of_mem _ he)) (u.applyPending e)
    rw [hfirst.self] at hrest
    exact ⟨listChange_trans hfirst.change hrest.change, hrest.self,
      fun other ho => (hrest.others other ho).trans (hfirst.others other ho)⟩

theorem matchPending_matched (id : AlarmId) (u : State) : Matched id
    ((u.transfer.pendingEvents.filter fun e => e.id == id).foldl matched (findRecord id u.picture.list))
    (u.dropPending id) (u.matchPending id) :=
  foldl_applyPending_matched _ (fun e he => by simpa using (List.mem_filter.mp he).2) (u.dropPending id)

theorem matchPending_none (h : ∀ e ∈ u.transfer.pendingEvents, e.id ≠ id) : u.matchPending id = u := by
  have hkept : u.transfer.pendingEvents.filter (fun e => e.id != id) = u.transfer.pendingEvents :=
    List.filter_eq_self.mpr fun e he => bne_iff_ne.mpr (h e he)
  have hnone : u.transfer.pendingEvents.filter (fun e => e.id == id) = [] :=
    List.filter_eq_nil_iff.mpr fun e he => by simpa using h e he
  unfold State.matchPending State.dropPending
  rw [hnone, hkept]
  rfl

end Sys2Proof.Answers

/-! PROOF. PICTURE REQUEST, PICTURE and PICTURE END frames (11.2 to 11.7). -/

namespace Sys2Proof.Answers

open Sys2Proof.Machine Sys2Proof.Claims Sys2Proof.Keep

variable {c : Instr} {s t u v : State} {rx : Rx} {f : Frame} {n : Station} {l : List AlarmRecord} {id : AlarmId}
  {r : AlarmRecord} {p : Priority} {y : Option Refresh} {w : PictureRecord} {m : StationSet} {i j : Byte}
  {ws : List PictureRecord}

/-- A frame that its owner ignores, whether its body fits or not. -/
theorem exec_ignored (h : Hears s rx)
    (hkept : (heard s rx).applyFrame rx.sender (s.peer rx.sender) f = heard s rx) :
    exec (received rx f) s = .next (heard s rx) := by
  cases hfits : frameFits f with
  | true => rw [exec_heard h hfits, hkept]
  | false => rw [exec_received, hear_unfit h hfits]

/-! ### The serving side (R162, R163) -/

theorem serves_iff (s : State) : s.serves = true ↔ s.transfer.valid = true ∧
    ∀ m r i, s.peer m = some r → r.state = .present → r.info = some i → i.pictureValid = true →
      s.own.toNat < m.toNat := by
  unfold State.serves
  rw [Bool.and_eq_true, List.all_eq_true]
  refine and_congr_right fun _ => ⟨fun h m r i hm hr hi hvalid => ?_, fun h i hi => ?_⟩
  · obtain ⟨hok, hlt⟩ := peer_inRange hm
    obtain ⟨hlow, hhigh⟩ := (stationOk_iff m).mp hok
    have hplace := h (m.toNat - 1) (List.mem_range.mpr (by omega))
    rw [State.peer, if_pos hok] at hm
    rw [hm] at hplace
    simp only [hr, hi, Option.any_some, hvalid, beq_self_eq_true, Bool.and_self, if_true, decide_eq_true_eq] at hplace
    omega
  · have hi := List.mem_range.mp hi
    have hnum : (BitVec.ofNat 8 (i + 1)).toNat = i + 1 := by
      rw [BitVec.toNat_ofNat]
      omega
    have hpeer : s.peer (BitVec.ofNat 8 (i + 1)) = s.peers.getD i none := by
      rw [State.peer, if_pos ((stationOk_iff _).mpr (by omega)), hnum]
      rfl
    rw [← hpeer]
    split
    · next r hr =>
      split
      · next htest =>
        rw [Bool.and_eq_true, beq_iff_eq, Option.any_eq_true] at htest
        obtain ⟨hpresent, x, hx, hvalid⟩ := htest
        have hless := h _ r x hr hpresent hx hvalid
        rw [hnum] at hless
        exact decide_eq_true hless
      · rfl
    · rfl

theorem serves_heard (h : Hears s rx) : (heard s rx).serves = s.serves := by
  have hsender := hears_stationOk h
  have hback : ∀ m r, (heard s rx).peer m = some r → ∃ r', s.peer m = some r' ∧ r'.state = r.state ∧ r'.info = r.info := by
    intro m r hm
    by_cases hsame : m = rx.sender
    · rw [hsame, peer_heard_sender hsender] at hm
      obtain ⟨r', hr', rfl⟩ := Option.map_eq_some_iff.mp hm
      exact ⟨r', hsame ▸ hr', rfl, rfl⟩
    · rw [peer_heard_other hsender s hsame] at hm
      exact ⟨r, hm, rfl, rfl⟩
  have hforth : ∀ m r, s.peer m = some r → ∃ r', (heard s rx).peer m = some r' ∧ r'.state = r.state ∧ r'.info = r.info := by
    intro m r hm
    by_cases hsame : m = rx.sender
    · exact ⟨{ r with silence := 0 }, by rw [hsame, peer_heard_sender hsender, ← hsame, hm]; rfl, rfl, rfl⟩
    · exact ⟨r, by rw [peer_heard_other hsender s hsame, hm], rfl, rfl⟩
  rw [Bool.eq_iff_iff, serves_iff, serves_iff]
  refine and_congr_right fun _ => ⟨fun hall m r i hm hr hi hvalid => ?_, fun hall m r i hm hr hi hvalid => ?_⟩
  · obtain ⟨r', hm', hstate, hinfo⟩ := hforth m r hm
    exact hall m r' i hm' (hstate.trans hr) (hinfo.trans hi) hvalid
  · obtain ⟨r', hm', hstate, hinfo⟩ := hback m r hm
    exact hall m r' i hm' (hstate.trans hr) (hinfo.trans hi) hvalid

theorem applyPictureRequest_ignored (h : ¬Active s ∨ s.serves = false) : s.applyPictureRequest n = s := by
  refine if_neg ?_
  rw [Bool.and_eq_true, Bool.and_eq_true, isActive_iff]
  rintro ⟨⟨hactive, -⟩, hserves⟩
  exact h.elim (fun hno => hno hactive) fun hno => absurd (hserves.symm.trans hno) (by decide)

theorem applyPictureRequest_served (hactive : Active s) (hserves : s.serves = true) (hn : s.isOwn n = false)
    (hok : stationOk n = true) :
    (s.transfer.serving = .idle → s.applyPictureRequest n = s.setServing
      (.streaming ⟨BitVec.twoPow 16 (n.toNat - 1), 0, s.picture.list.map AlarmRecord.id, 0, 0, 0⟩)) ∧
    ∀ x, s.transfer.serving = .streaming x → s.applyPictureRequest n = s.setServing
      (.streaming { x with staged := x.staged ||| BitVec.twoPow 16 (n.toNat - 1) }) := by
  have hbit : stationBit n = BitVec.twoPow 16 (n.toNat - 1) := if_pos hok
  unfold State.applyPictureRequest
  rw [isActive_iff.mpr hactive, hserves, hn, hbit]
  refine ⟨fun hidle => ?_, fun x hx => ?_⟩
  · rw [hidle]
    rfl
  · rw [hx]
    rfl

/-! ### A PICTURE frame of the stream being taken (R165) -/

/-- The records counted before a PICTURE frame with this index from a station, where the refresh takes it (R165). -/
def takenBefore (n : Station) (i : Byte) (x : Refresh) : Option Nat :=
  match x.phase with
  | .waiting => if i = 0 then some 0 else none
  | .receiving server _ => if server = n then some (if i = 0 then 0 else x.taken) else none

/-- The refresh and the count that a PICTURE frame finds where this station takes it. -/
def taking (n : Station) (m : StationSet) (i : Byte) (s : State) : Option (Refresh × Nat) :=
  if inStations m s.own && !s.isOwn n then
    s.transfer.refresh.bind fun x => (takenBefore n i x).map fun k => (x, k)
  else none

theorem applyPicture_eq (n : Station) (m : StationSet) (i : Byte) (ws : List PictureRecord) (s : State) :
    s.applyPicture n m i ws = (taking n m i s).elim s fun z => s.takePicture n ws z.1 z.2 := by
  unfold State.applyPicture taking
  split
  · cases s.transfer.refresh with
    | none => rfl
    | some x =>
      rw [Option.bind_some, takenBefore]
      dsimp only
      cases x.phase with
      | waiting =>
        by_cases hi : i = 0
        · rw [hi]
          rfl
        · simp only [beq_eq_false_iff_ne.mpr hi, if_neg hi]
          rfl
      | receiving server last =>
        by_cases hserver : server = n
        · simp only [beq_iff_eq.mpr hserver, if_pos hserver, if_true]
          by_cases hi : i = 0
          · rw [hi]
            rfl
          · simp only [beq_eq_false_iff_ne.mpr hi, if_neg hi]
            rfl
        · simp only [beq_eq_false_iff_ne.mpr hserver, if_neg hserver]
          rfl
  · rfl

/-- The refresh after records of a stream have been counted (R165). -/
def receiving (n : Station) (now : Sec) (x : Refresh) (k : Nat) : Refresh :=
  { x with phase := .receiving n now, taken := k }

theorem takePicture_eq (x : Refresh) (k : Nat) (s : State) : s.takePicture n ws x k =
    State.mergeAll ws (s.setRefresh (some (receiving n s.now x (k + ws.length)))) := by
  have hset : s.setRefresh (some (receiving n s.now x (k + ws.length))) =
      apart s.bus.lastSeq (some (receiving n s.now x (k + ws.length))) s := rfl
  have hbus : (s.mergeAll ws).bus = s.bus := by simp
  rw [hset, mergeAll_apart, ← hbus]
  rfl

/-- The records of one frame are taken as those of two frames, the second with an index of its own (R165). -/
theorem applyPicture_turns (hj : j ≠ 0) (s : State) : s.applyPicture n m i (w :: ws) =
    (s.applyPicture n m i [w]).applyPicture n m j ws := by
  rw [applyPicture_eq n m i (w :: ws), applyPicture_eq n m i [w]]
  cases htaking : taking n m i s with
  | none =>
    have hnone : taking n m j s = none := by
      unfold taking at htaking ⊢
      split at htaking
      · next hgate =>
        rw [if_pos hgate]
        cases hrefresh : s.transfer.refresh with
        | none => rfl
        | some x =>
          rw [hrefresh, Option.bind_some, Option.map_eq_none_iff, takenBefore] at htaking
          rw [Option.bind_some, Option.map_eq_none_iff, takenBefore]
          cases hphase : x.phase with
          | waiting => exact if_neg hj
          | receiving server last =>
            rw [hphase] at htaking
            dsimp only at htaking ⊢
            split at htaking
            · cases htaking
            · next hserver => exact if_neg hserver
      · next hgate => exact if_neg hgate
    rw [Option.elim_none, Option.elim_none, applyPicture_eq, hnone]
    rfl
  | some z =>
    obtain ⟨x, k⟩ := z
    have hgate : (inStations m s.own && !s.isOwn n) = true := by
      refine Classical.byContradiction fun hno => ?_
      rw [taking, if_neg hno] at htaking
      cases htaking
    rw [Option.elim_some, Option.elim_some]
    dsimp only
    have hfirst : s.takePicture n [w] x k =
        (s.mergeRecord w).setRefresh (some (receiving n s.now x (k + 1))) := rfl
    have hwhole : s.takePicture n (w :: ws) x k =
        (State.mergeAll ws (s.mergeRecord w)).setRefresh (some (receiving n s.now x (k + (ws.length + 1)))) := rfl
    rw [hfirst, hwhole]
    obtain ⟨-, -, hnumber⟩ := mergeRecord_kept s w
    have hnow : (s.mergeRecord w).now = s.now := by simp [State.now]
    generalize s.mergeRecord w = v at hnumber hnow ⊢
    have hnext : taking n m j (v.setRefresh (some (receiving n s.now x (k + 1)))) =
        some (receiving n s.now x (k + 1), k + 1) := by
      have hgate' : (inStations m (v.setRefresh (some (receiving n s.now x (k + 1)))).own &&
          !(v.setRefresh (some (receiving n s.now x (k + 1)))).isOwn n) = true := by
        rw [State.own, State.isOwn, show (v.setRefresh (some (receiving n s.now x (k + 1)))).node = v.node from rfl,
          hnumber]
        exact hgate
      rw [taking, if_pos hgate']
      show Option.map _ (takenBefore n j (receiving n s.now x (k + 1))) = _
      rw [show takenBefore n j (receiving n s.now x (k + 1)) = some (k + 1) from
        (if_pos rfl).trans (congrArg some (if_neg hj))]
      rfl
    rw [applyPicture_eq, hnext, Option.elim_some, takePicture_eq]
    dsimp only
    rw [show (v.setRefresh (some (receiving n s.now x (k + 1)))).now = s.now from hnow,
      show k + (ws.length + 1) = k + 1 + ws.length by omega]
    have hbus : (v.mergeAll ws).bus = v.bus := by simp
    have hset : State.setRefresh (some (receiving n s.now (receiving n s.now x (k + 1)) (k + 1 + ws.length)))
        (v.setRefresh (some (receiving n s.now x (k + 1)))) =
          apart v.bus.lastSeq (some (receiving n s.now x (k + 1 + ws.length))) v := rfl
    rw [hset, mergeAll_apart, ← hbus]
    rfl

theorem takePicture_withSeqs (z : List (Option Byte)) (x : Refresh) (k : Nat) (v : State) :
    State.takePicture n ws x k (withSeqs z v) = withSeqs z (v.takePicture n ws x k) := by
  have hset : State.setRefresh (some (receiving n v.now x (k + ws.length))) (withSeqs z v) =
      apart z (some (receiving n v.now x (k + ws.length))) v := rfl
  have hset' : v.setRefresh (some (receiving n v.now x (k + ws.length))) =
      apart v.bus.lastSeq (some (receiving n v.now x (k + ws.length))) v := rfl
  rw [takePicture_eq, takePicture_eq, show (withSeqs z v).now = v.now from rfl, hset, hset', mergeAll_apart, mergeAll_apart]
  rfl

theorem applyPicture_withSeqs (z : List (Option Byte)) (v : State) :
    State.applyPicture n m i ws (withSeqs z v) = withSeqs z (v.applyPicture n m i ws) := by
  rw [applyPicture_eq, applyPicture_eq, show taking n m i (withSeqs z v) = taking n m i v from rfl]
  cases taking n m i v with
  | none => rfl
  | some x => exact takePicture_withSeqs z x.1 x.2 v

theorem applyPicture_kept (v : State) : (v.applyPicture n m i ws).node.mode = v.node.mode ∧
    (v.applyPicture n m i ws).node.number = v.node.number := by
  rw [applyPicture_eq]
  cases taking n m i v with
  | none => exact ⟨rfl, rfl⟩
  | some x => exact (mergeAll_kept v ws).2

end Sys2Proof.Answers

/-! PROOF. PICTURE REQUEST, PICTURE and PICTURE END frames: one record merged, and what the frames do (11.2 to 11.7). -/

namespace Sys2Proof.Answers

open Sys2Proof.Machine Sys2Proof.Claims Sys2Proof.Keep

variable {c : Instr} {s t u v base room : State} {rx : Rx} {f : Frame} {n : Station} {l : List AlarmRecord} {id : AlarmId}
  {r z : AlarmRecord} {p : Priority} {w : PictureRecord} {m : StationSet} {i : Byte} {k : AreaConfig}

/-! ### One record merged (R166) -/

theorem mergeRecord_older (hr : findRecord w.id u.picture.list = some r)
    (hocc : w.occurrence.toNat ≤ r.occurrence.toNat) : u.mergeRecord w = u := by
  unfold State.mergeRecord
  rw [hr]
  dsimp only
  rw [if_pos hocc, ite_self]

theorem mergeRecord_ignored (h : (u.area w.id.area.toNat).config = none ∨ priorityOf w.priority.toNat = none ∨
    (w.cleared = true ∧ ∃ t b, w.handling = .ack t b) ∨ w.handling = .reserved) : u.mergeRecord w = u := by
  refine if_pos ?_
  unfold State.pictureIgnored State.configured
  obtain h | h | ⟨hcleared, t, b, h⟩ | h := h
  · rw [h]
    rfl
  · rw [h, Option.isNone_none, Bool.or_true, Bool.true_or]
  · rw [h, hcleared, Bool.or_true]
  · rw [h, Bool.or_true]

theorem pictureIgnored_eq_false (hk : (u.area w.id.area.toNat).config = some k) (hp : priorityOf w.priority.toNat = some p)
    (hack : ∀ t b, w.handling = .ack t b → w.cleared = false) (hreserved : w.handling ≠ .reserved) :
    u.pictureIgnored w = false := by
  unfold State.pictureIgnored State.configured
  rw [hk, hp]
  cases hw : w.handling with
  | unack => rfl
  | ack t b =>
    rw [hack t b hw]
    rfl
  | shelved t b left => rfl
  | reserved => exact absurd hw hreserved

/-- A state without the record of an id, the change handed on or none needed. -/
structure Without (id : AlarmId) (u base : State) : Prop where
  change : ListChange u base
  gone   : findRecord id base.picture.list = none
  others : ∀ other, other ≠ id → findRecord other base.picture.list = findRecord other u.picture.list
  count  : shelvedCount id.area id base.picture.list = shelvedCount id.area id u.picture.list

theorem Without.none (h : findRecord id u.picture.list = none) : Without id u u := ⟨rfl, h, fun _ _ => rfl, rfl⟩

theorem Without.dropped (id : AlarmId) (u : State) : Without id u (relisted (dropRecord id u.picture.list) u) := by
  refine ⟨(handsOn_demanded false _ u).change, ?_, fun other ho => findRecord_dropRecord_other ho, ?_⟩
  · exact (findRecord_dropRecord id id _).trans (if_pos rfl)
  · show shelvedCount id.area id (dropRecord id u.picture.list) = _
    unfold shelvedCount dropRecord
    rw [List.filter_filter]
    refine congrArg List.length (List.filter_congr fun x _ => ?_)
    rw [Bool.and_assoc, Bool.and_assoc, Bool.and_self, Bool.and_assoc]

/-- A picture record that is not ignored, and not older than the one here, is inserted in place of it (R166). -/
theorem mergeRecord_inserts (hvalid : u.pictureIgnored w = false)
    (hbase : (findRecord w.id u.picture.list = none ∧ base = u) ∨
      ∃ r, findRecord w.id u.picture.list = some r ∧ r.occurrence.toNat < w.occurrence.toNat ∧
        base = relisted (dropRecord w.id u.picture.list) u) :
    Without w.id u base ∧ u.mergeRecord w = base.insertPicture w := by
  unfold State.mergeRecord
  rw [hvalid, if_neg Bool.false_ne_true]
  obtain ⟨hnone, rfl⟩ | ⟨r, hr, hless, rfl⟩ := hbase
  · rw [hnone]
    exact ⟨.none hnone, rfl⟩
  · rw [hr]
    dsimp only
    rw [if_neg (Nat.not_le.mpr hless), setList_eq]
    exact ⟨.dropped w.id u, rfl⟩

theorem arrivalFromAge_eq (now : Sec) (age : BitVec 24) :
    arrivalFromAge now age = BitVec.ofNat 32 (now.toNat - age.toNat) := by
  unfold arrivalFromAge
  split
  · next h =>
    rw [Nat.sub_eq_zero_of_le (Nat.le_of_lt h)]
    rfl
  · rfl

theorem setWidth_eq (left : Half) : left.setWidth 32 = BitVec.ofNat 32 left.toNat := by
  rw [BitVec.ofNat_toNat]

theorem insertPicture_dropped (hp : priorityOf w.priority.toNat = some p)
    (hfull : ¬shelvedCount w.id.area w.id base.picture.list < base.shelveLimit w.id.area)
    (hw : ∃ t b left, w.handling = .shelved t b left) (hcleared : w.cleared = true) : base.insertPicture w = base := by
  obtain ⟨t, b, left, hw⟩ := hw
  unfold State.insertPicture
  dsimp only
  rw [hp, decide_eq_false hfull]
  dsimp only
  rw [mergedRecord, hw]
  dsimp only
  rw [if_neg Bool.false_ne_true, if_pos hcleared]

theorem insertPicture_eq {z : AlarmRecord} (hp : priorityOf w.priority.toNat = some p)
    (hz : mergedRecord base.now (decide (shelvedCount w.id.area w.id base.picture.list < base.shelveLimit w.id.area)) p w =
      some z) :
    (∀ v, base.insert z = some v → base.insertPicture w = v.matchPending w.id) ∧
      (base.insert z = none → base.insertPicture w = base.listFull.dropPending w.id) := by
  unfold State.insertPicture
  dsimp only
  rw [hp]
  dsimp only
  rw [hz]
  dsimp only
  refine ⟨fun v hv => ?_, fun hnone => ?_⟩
  · rw [hv]
  · rw [hnone]

/-- The record inserted for a picture record (R166). -/
theorem mergedRecord_eq {now : Sec} {limit count : Nat} {h : Handling}
    (hh : (w.handling = .unack ∧ h = .unack) ∨ (∃ t b, w.handling = .ack t b ∧ w.cleared = false ∧ h = .ack t b) ∨
      ∃ t b left, w.handling = .shelved t b left ∧
        if count < limit then h = .shelved (now + BitVec.ofNat 32 left.toNat) t b else w.cleared = false ∧ h = .unack) :
    mergedRecord now (decide (count < limit)) p w = some ⟨w.id, p, w.cleared, h, w.occurrence, w.raiseTime,
      BitVec.ofNat 32 (now.toNat - w.age.toNat), 0, false, w.feed⟩ := by
  unfold mergedRecord
  rw [arrivalFromAge_eq]
  obtain ⟨hw, rfl⟩ | ⟨t, b, hw, hno, rfl⟩ | ⟨t, b, left, hw, hshelf⟩ := hh
  · rw [hw]
  · rw [hw, hno]
    rfl
  · rw [hw]
    dsimp only
    rw [setWidth_eq]
    by_cases hroom : count < limit
    · rw [if_pos hroom] at hshelf
      rw [decide_eq_true hroom, hshelf]
      rfl
    · rw [if_neg hroom] at hshelf
      obtain ⟨hno, rfl⟩ := hshelf
      rw [decide_eq_false hroom, hno]
      rfl

/-- A record placed in a list and the pending entries of its id applied to it (R166, R168). -/
theorem placed_matched (hnone : findRecord z.id room.picture.list = none) :
    ∃ t, State.matchPending z.id (relisted (place z room.picture.list) room) = t ∧
      ListChange (room.dropPending z.id) t ∧
      findRecord z.id t.picture.list =
        (room.transfer.pendingEvents.filter fun y => y.id == z.id).foldl matched (some z) ∧
      (∀ other, other ≠ z.id → findRecord other t.picture.list = findRecord other room.picture.list) ∧
      ((∀ y ∈ room.transfer.pendingEvents, y.id ≠ z.id) →
        Placed z room.picture.list t.picture.list ∧ t = relisted t.picture.list room) := by
  have hplaced := matchPending_matched z.id (relisted (place z room.picture.list) room)
  have hself : findRecord z.id (relisted (place z room.picture.list) room).picture.list = some z :=
    (findRecord_place _ _ _ fun _ => hnone).trans (if_pos rfl)
  have hchange : ListChange (room.dropPending z.id) ((relisted (place z room.picture.list) room).dropPending z.id) := rfl
  refine ⟨_, rfl, listChange_trans hchange hplaced.change, ?_, fun other ho => ?_, fun hno => ?_⟩
  · rw [hplaced.self, hself]
    rfl
  · rw [hplaced.others other ho]
    exact othersKept_place rfl other ho
  · rw [matchPending_none (u := relisted (place z room.picture.list) room) hno]
    exact ⟨placed_place z _, rfl⟩

end Sys2Proof.Answers

/-! PROOF. PICTURE REQUEST, PICTURE and PICTURE END frames (11.2 to 11.7). -/

namespace Sys2Proof.Answers

open Sys2Proof.Machine Sys2Proof.Claims Sys2Proof.Keep

variable {c : Instr} {s t u v base room : State} {rx : Rx} {f : Frame} {n : Station} {l : List AlarmRecord} {id : AlarmId}
  {r z : AlarmRecord} {p : Priority} {w : PictureRecord} {m : StationSet} {i : Byte} {k : AreaConfig} {x : Refresh}

/-! ### The stream that a refresh takes (R165) -/

theorem taking_eq {m' : Station} (hown : s.node.number = some m') (hok : stationOk m' = true) (hn : s.isOwn n = false) :
    taking n m i s = if m.getLsbD (m'.toNat - 1) = true then
      s.transfer.refresh.bind fun x => (takenBefore n i x).map fun k => (x, k) else none := by
  unfold taking inStations
  rw [own_of_number hown, hok, hn]
  simp

theorem takenBefore_none (h : (x.phase = .waiting ∧ i ≠ 0) ∨
    ∃ server last, x.phase = .receiving server last ∧ server ≠ n) : takenBefore n i x = none := by
  unfold takenBefore
  obtain ⟨hphase, hi⟩ | ⟨server, last, hphase, hserver⟩ := h
  · rw [hphase]
    exact if_neg hi
  · rw [hphase]
    exact if_neg hserver

theorem takenBefore_some {taken : Nat} (h : (x.phase = .waiting ∧ i = 0 ∧ taken = 1) ∨
    ∃ last, x.phase = .receiving n last ∧ taken = (if i = 0 then 0 else x.taken) + 1) :
    ∃ k, takenBefore n i x = some k ∧ taken = k + 1 := by
  unfold takenBefore
  obtain ⟨hphase, hi, htaken⟩ | ⟨last, hphase, htaken⟩ := h
  · rw [hphase]
    exact ⟨0, if_pos hi, htaken⟩
  · rw [hphase]
    exact ⟨_, if_pos rfl, htaken⟩

/-! ### PICTURE END (R169) -/

theorem applyPictureEnd_ignored {count : Half} (h : inStations m s.own = false ∨ s.transfer.refresh = none ∨
    ∃ x, s.transfer.refresh = some x ∧ ((x.phase = .waiting ∧ count ≠ 0) ∨
      ∃ server last, x.phase = .receiving server last ∧ server ≠ n)) : s.applyPictureEnd n m count = s := by
  unfold State.applyPictureEnd
  obtain h | h | ⟨x, hx, ⟨hphase, hcount⟩ | ⟨server, last, hphase, hserver⟩⟩ := h
  · rw [h]
    rfl
  · rw [h, ite_self]
  · rw [hx]
    dsimp only
    rw [hphase]
    dsimp only
    rw [if_neg (c := (count == 0) = true) (by simpa using hcount), ite_self]
  · rw [hx]
    dsimp only
    rw [hphase]
    dsimp only
    rw [if_neg (c := (server == n) = true) (by simpa using hserver), ite_self]

theorem applyPictureEnd_taken {count : Half} {taken : Nat} (hm : inStations m s.own = true) (hn : s.isOwn n = false)
    (hx : s.transfer.refresh = some x) (h : (x.phase = .waiting ∧ count = 0 ∧ taken = 0) ∨
      ∃ last, x.phase = .receiving n last ∧ taken = x.taken) :
    s.applyPictureEnd n m count = s.completeRefresh count taken := by
  unfold State.applyPictureEnd
  rw [hm, hn, hx]
  obtain ⟨hphase, hcount, rfl⟩ | ⟨last, hphase, rfl⟩ := h
  · dsimp only
    rw [hphase]
    exact if_pos (beq_iff_eq.mpr hcount)
  · dsimp only
    rw [hphase]
    exact if_pos (beq_iff_eq.mpr rfl)

theorem completeRefresh_eq (count : Half) (taken : Nat) (s : State) : s.completeRefresh count taken = { s with
    transfer := { s.transfer with valid := true, pendingEvents := [], refresh := none }
    port := { s.port with
      attention := if count.toNat = taken then plus s.port.attention .pictureDone
        else plus (plus s.port.attention .pictureDone) .pictureDoubtful } } := by
  unfold State.completeRefresh State.latchIf
  by_cases hsame : count.toNat = taken
  · rw [if_neg (by simp [hsame]), if_pos hsame]
    rfl
  · rw [if_pos (by simpa using hsame), if_neg hsame]
    rfl

/-! ### One record of a stream being taken -/

/-- The records of a PICTURE frame that a refresh takes are merged into the state that has counted them. -/
theorem exec_picture_taken {refresh : Refresh} {taken : Nat} (h : Hears s rx) (hn : s.node.number = some n)
    (hok : stationOk n = true) (hm : m.getLsbD (n.toNat - 1) = true) (hx : s.transfer.refresh = some x)
    (htake : (x.phase = .waiting ∧ i = 0 ∧ taken = 1) ∨
      ∃ last, x.phase = .receiving rx.sender last ∧ taken = (if i = 0 then 0 else x.taken) + 1)
    (hrefresh : refresh = { x with phase := .receiving rx.sender s.clock.now, taken := taken })
    (hu : u = { heard s rx with transfer := { s.transfer with refresh := some refresh } }) :
    exec (.picture rx m i [w]) s = .next (u.mergeRecord w) := by
  obtain ⟨j, hbefore, rfl⟩ := takenBefore_some htake
  have htaking : taking rx.sender m i (heard s rx) = some (x, j) := by
    rw [taking_eq (s := heard s rx) hn hok ((hears_other h :)), if_pos hm,
      show (heard s rx).transfer.refresh = some x from hx, Option.bind_some, hbefore]
    rfl
  refine (exec_heard (f := .picture m i [w]) h rfl).trans (congrArg Host.Outcome.next ?_)
  show (heard s rx).applyPicture rx.sender m i [w] = _
  rw [applyPicture_eq, htaking, Option.elim_some, takePicture_eq, hu, hrefresh]
  rfl

/-- A record of a stream that is inserted (R166): where it finds room, where it takes an ACK record's place, and where
neither is so. -/
structure Inserts (w : PictureRecord) (n : AlarmRecord) (base t : State) : Prop where
  room  : base.picture.list.length < 256 → t = State.matchPending w.id (relisted (place n base.picture.list) base.takeArrival)
  place : ∀ y room, 256 ≤ base.picture.list.length → evictee base.picture.list = some y →
    room = relisted (dropRecord y.id base.picture.list) base.takeArrival →
    t = State.matchPending w.id (relisted (place n room.picture.list) room)
  full  : 256 ≤ base.picture.list.length → (∀ z ∈ base.picture.list, z.handling.isAck = false) →
    t = base.listFull.dropPending w.id

theorem insertPicture_inserts {h : Handling} {limit : Nat} {now : Sec} (hp : priorityOf w.priority.toNat = some p)
    (hlimit : base.shelveLimit w.id.area = limit) (hnow : base.now = now)
    (hh : (w.handling = .unack ∧ h = .unack) ∨ (∃ t b, w.handling = .ack t b ∧ w.cleared = false ∧ h = .ack t b) ∨
      ∃ t b left, w.handling = .shelved t b left ∧
        if shelvedCount w.id.area w.id base.picture.list < limit then
          h = .shelved (now + BitVec.ofNat 32 left.toNat) t b
        else w.cleared = false ∧ h = .unack) :
    Inserts w ⟨w.id, p, w.cleared, h, w.occurrence, w.raiseTime, BitVec.ofNat 32 (now.toNat - w.age.toNat),
      base.picture.arrivals, false, w.feed⟩ base (base.insertPicture w) := by
  have hz := mergedRecord_eq (p := p) hh
  rw [← hnow, ← hlimit] at hz
  obtain ⟨hplaced, hnone⟩ := insertPicture_eq hp hz
  rw [hnow] at hplaced hnone
  refine ⟨fun hroom => hplaced _ (insert_room hroom), fun y room hfull hy hroom => ?_,
    fun hfull hno => hnone (insert_full hfull hno)⟩
  rw [hplaced _ (insert_evicting hfull hy), hroom]

/-- A record of the stream without one of its id in the list: what an insertion gives, as the statement has it. -/
theorem inserted_room {refresh : Option Refresh} {n : AlarmRecord}
    (hu : u = { heard s rx with transfer := { s.transfer with refresh := refresh } }) (hbase : Without n.id u base)
    (hroom : ListChange base.takeArrival room) (hgone : findRecord n.id room.picture.list = none) :
    ∃ t, State.matchPending n.id (relisted (place n room.picture.list) room) = t ∧
      ListChange { u with
        picture := { s.picture with arrivals := s.picture.arrivals + 1 }
        transfer := { u.transfer with pendingEvents := s.transfer.pendingEvents.filter fun y => y.id != n.id } } t ∧
      findRecord n.id t.picture.list =
        (s.transfer.pendingEvents.filter fun y => y.id == n.id).foldl matched (some n) ∧
      (∀ other, other ≠ n.id → findRecord other t.picture.list = findRecord other room.picture.list) ∧
      ((∀ y ∈ s.transfer.pendingEvents, y.id ≠ n.id) →
        Placed n room.picture.list t.picture.list ∧ t = relisted t.picture.list room) := by
  obtain ⟨t, ht, hchange, hself, hothers, hno⟩ := placed_matched (z := n) hgone
  obtain ⟨list, horn, lamp, top, changed, hb⟩ := (listChange_iff u base).mp hbase.change
  obtain ⟨list', horn', lamp', top', changed', hr⟩ := (listChange_iff _ room).mp hroom
  subst hb hu
  subst hr
  exact ⟨t, ht, listChange_trans rfl hchange, hself, hothers, hno⟩

/-- Settles O60: the serving side; a record of the stream by `mergeRecord`'s cases; the end of the stream. -/
theorem pictureFramesAreServedAndTaken : Obligations.PictureFramesAreServedAndTaken := by
  unfold Obligations.PictureFramesAreServedAndTaken
  intro s rx h
  have hsender := hears_stationOk h
  have hother : (heard s rx).isOwn rx.sender = false := (hears_other h :)
  have hrequest : ∀ {v : State}, (heard s rx).applyPictureRequest rx.sender = v →
      exec (.pictureRequest rx) s = .next v := fun hv =>
    (exec_heard (f := .pictureRequest) h rfl).trans (congrArg _ hv)
  refine ⟨fun m i j v rs q hrs hlength hq hj => ?turns, fun hno => hrequest (applyPictureRequest_ignored ?unserved),
    fun hactive hvalid hlowest => ?serves, fun m n hn hlow hhigh => ⟨fun hno => ⟨fun i rs => ?_, fun count => ?_⟩,
      fun x hm hx => ⟨fun i rs hnot => ?_, fun i v taken u htake hu => ?merges, fun count taken hend => ?ends,
        fun count hnot => ?_⟩⟩⟩
  case turns =>
    have hpositive : 1 ≤ rs.length := List.length_pos_iff.mpr hrs
    exact inTurn_of (f := .picture m i (v :: rs)) (f' := .picture m i [v]) (g := .picture m j rs)
      (act := State.applyPicture rx.sender m i [v]) (act' := State.applyPicture rx.sender m j rs) h hq
      (by simp [frameFits]; omega) rfl (by simp [frameFits, hpositive]; omega)
      (fun _ _ => rfl) (fun _ _ => rfl) (fun _ v => applyPicture_turns hj v) (fun v => (applyPicture_kept v).1)
      (fun v => (applyPicture_kept v).2) (fun _ => by simp) (fun _ => by simp) applyPicture_withSeqs (fun _ => by simp)
  case unserved =>
    rw [serves_heard h, ← Bool.not_eq_true, serves_iff]
    refine hno.imp id fun hno hserves => ?_
    obtain hinvalid | ⟨m, r, i, hm, hr, hi, hshown, hless⟩ := hno
    · exact absurd (hserves.1.symm.trans hinvalid) (by decide)
    · exact absurd (hserves.2 m r i hm hr hi hshown) (Nat.not_lt.mpr hless)
  case serves =>
    have hserves : (heard s rx).serves = true := (serves_heard h).trans ((serves_iff s).mpr ⟨hvalid, hlowest⟩)
    obtain ⟨hidle, hstreaming⟩ := applyPictureRequest_served (s := heard s rx) hactive hserves hother hsender
    exact ⟨fun hserving => hrequest (hidle hserving), fun x hserving => hrequest (hstreaming x hserving)⟩
  · refine exec_ignored (f := .picture m i rs) h ?_
    show (heard s rx).applyPicture rx.sender m i rs = _
    rw [applyPicture_eq, taking_eq (s := heard s rx) hn ((stationOk_iff n).mpr ⟨hlow, hhigh⟩) hother]
    obtain hout | hnone := hno
    · rw [hout]
      rfl
    · rw [show (heard s rx).transfer.refresh = none from hnone, Option.bind_none, ite_self]
      rfl
  · refine exec_ignored (f := .pictureEnd m count) h (applyPictureEnd_ignored (s := heard s rx) ?_)
    rw [show (heard s rx).own = n from own_of_number (s := heard s rx) hn]
    exact hno.imp (fun hout => by rw [inStations, hout, Bool.and_false]) .inl
  · refine exec_ignored (f := .picture m i rs) h ?_
    show (heard s rx).applyPicture rx.sender m i rs = _
    rw [applyPicture_eq, taking_eq (s := heard s rx) hn ((stationOk_iff n).mpr ⟨hlow, hhigh⟩) hother, if_pos hm,
      show (heard s rx).transfer.refresh = some x from hx, Option.bind_some, takenBefore_none hnot]
    rfl
  case merges =>
    have hrun : exec (.picture rx m i [v]) s = .next (u.mergeRecord v) :=
      exec_picture_taken h hn ((stationOk_iff n).mpr ⟨hlow, hhigh⟩) hm hx htake rfl hu
    have hpicture : u.picture = s.picture := by rw [hu]; rfl
    have harea : u.area = s.area := by rw [hu]; rfl
    refine ⟨fun r hr hocc => ?_, fun hignored => ?_, fun k p base hk hp hbase => ?inserts⟩
    · rw [hrun, mergeRecord_older (by rw [hpicture]; exact hr) hocc]
    · rw [hrun, mergeRecord_ignored (by rw [harea]; exact hignored)]
    case inserts =>
      have hinserts : (∀ t b, v.handling = .ack t b → v.cleared = false) → v.handling ≠ .reserved →
          Without v.id u base ∧ exec (.picture rx m i [v]) s = .next (base.insertPicture v) := by
        intro hack hreserved
        have hvalid := pictureIgnored_eq_false (u := u) (w := v) (by rw [harea]; exact hk) hp hack hreserved
        rw [← hpicture] at hbase
        obtain ⟨hwithout, hmerge⟩ := mergeRecord_inserts hvalid hbase
        exact ⟨hwithout, by rw [hrun, hmerge]⟩
      have hlimit : Without v.id u base → base.shelveLimit v.id.area = k.shelveLimit := by
        intro hwithout
        have hareas : base.areas = u.areas := (congrArg State.areas hwithout.change :)
        rw [State.shelveLimit, State.area, hareas, show u.areas.getD v.id.area.toNat .initial = u.area v.id.area.toNat from rfl,
          harea, hk]
      refine ⟨fun t b left hv hcleared hfull => ?_, fun g n hg hrecord => ?_⟩
      · obtain ⟨hwithout, hexec⟩ := hinserts (fun t b hack => by rw [hv] at hack; cases hack) (by rw [hv]; exact nofun)
        rw [hexec, insertPicture_dropped hp (by
          rw [hlimit hwithout, hwithout.count, hpicture]
          exact Nat.not_lt.mpr hfull) ⟨t, b, left, hv⟩ hcleared]
      · obtain ⟨hwithout, hexec⟩ := hinserts (fun t b hack => by
          obtain ⟨hv, -⟩ | ⟨-, -, -, hno, -⟩ | ⟨_, _, _, hv, -⟩ := hg
          · rw [hv] at hack; cases hack
          · exact hno
          · rw [hv] at hack; cases hack) (by
          obtain ⟨hv, -⟩ | ⟨_, _, hv, -⟩ | ⟨_, _, _, hv, -⟩ := hg <;> rw [hv] <;> exact nofun)
        have hnow : base.now = s.clock.now := by
          have hclock : base.clock = u.clock := (congrArg State.clock hwithout.change :)
          rw [State.now, hclock, hu]
          rfl
        have harrivals : base.picture.arrivals = s.picture.arrivals := by
          rw [← hpicture]
          exact (congrArg (fun x : State => x.picture.arrivals) hwithout.change :)
        have hins := insertPicture_inserts (base := base) (h := g) hp (hlimit hwithout) hnow (by
          rw [hwithout.count, hpicture]
          exact hg)
        rw [harrivals, ← hrecord] at hins
        have hid : n.id = v.id := by rw [hrecord]
        have hentry : base.takeArrival = { base with
            picture := { base.picture with arrivals := s.picture.arrivals + 1 } } := by rw [← harrivals]; rfl
        refine ⟨fun hroom => ?room, fun l y l2 room hfull hlist hack hl hl2 hroom => ?place, fun hfull hno => ?full⟩
        case room =>
          obtain ⟨t, ht, hchange, hself, hothers, hno⟩ := inserted_room (n := n) (room := base.takeArrival) hu
            (by rw [hid]; exact hwithout) rfl (by rw [hid]; exact hwithout.gone)
          rw [hid] at ht hchange hself hothers hno
          refine ⟨t, by rw [hexec, hins.room hroom]; exact congrArg Host.Outcome.next ht, fun other ho => ?_, hchange, hself,
            fun hnone => ?_⟩
          · rw [hothers other ho, show base.takeArrival.picture.list = base.picture.list from rfl,
              hwithout.others other ho, hpicture]
          · rw [← hentry]
            exact hno hnone
        case place =>
          have hevictee : evictee base.picture.list = some y := hlist ▸ evictee_eq_of_first hack hl hl2
          rw [← hentry] at hroom
          obtain ⟨t, ht, hchange, hself, hothers, hno⟩ := inserted_room (n := n) (room := room) hu
            (by rw [hid]; exact hwithout) (by rw [hroom]; exact (handsOn_demanded false _ _).change) (by
              rw [hid, findRecord_none, hroom]
              exact fun z hz => findRecord_none.mp hwithout.gone z (List.mem_filter.mp hz).1)
          rw [hid] at ht hchange hself hothers hno
          exact ⟨t, by rw [hexec, hins.place y room hfull hevictee hroom]; exact congrArg Host.Outcome.next ht, hchange,
            hself, hothers, hno⟩
        case full =>
          rw [hexec, hins.full hfull hno]
          obtain ⟨list, horn, lamp, top, changed, hb⟩ := (listChange_iff u base).mp hwithout.change
          rw [hb, hu]
          rfl
  case ends =>
    have hin : inStations m (heard s rx).own = true := by
      rw [show (heard s rx).own = n from own_of_number (s := heard s rx) hn, inStations,
        (stationOk_iff n).mpr ⟨hlow, hhigh⟩, hm]
      rfl
    refine (exec_heard (f := .pictureEnd m count) h rfl).trans (congrArg Host.Outcome.next ?_)
    exact (applyPictureEnd_taken (s := heard s rx) hin hother hx hend).trans (completeRefresh_eq count taken _)
  · exact exec_ignored (f := .pictureEnd m count) h
      (applyPictureEnd_ignored (s := heard s rx) (.inr (.inr ⟨x, hx, hnot⟩)))

end Sys2Proof.Answers

/-! PROOF. The claims of a presence settled one by one, and what they do beside the peer table, the flags and the offers
(8.5, 10.3, R87, R95, R123, R124). -/

namespace Sys2Proof.Answers

open Sys2Proof.Machine Sys2Proof.Claims Sys2Proof.Keep

variable {c : Instr} {s t u v : State} {n : Station} {b : Badge} {a : Nat} {serial : Half} {h : Hold} {loss : Bool}
  {p : PresenceBody} {e : ClaimEntry}

/-! ### What a claim leaves out of account -/

/-- A state with another peer table, some flags latched besides, and another incoming offer. -/
def beside (peers : List (Option PeerRecord)) (flags : BitVec 24) (incoming : Incoming) (lastIn : Option OfferOutcome)
    (s : State) : State :=
  { s with
    peers := peers
    port := { s.port with attention := s.port.attention ||| flags }
    handover := { s.handover with incoming := incoming, lastIn := lastIn } }

variable {peers : List (Option PeerRecord)} {flags : BitVec 24} {incoming : Incoming} {lastIn : Option OfferOutcome}

theorem plus_or (x : BitVec 24) (f : Flag) : plus (x ||| flags) f = plus x f ||| flags := by
  unfold plus
  rw [BitVec.or_assoc, BitVec.or_comm flags, ← BitVec.or_assoc]

/-- A state with another peer table, some flags latched besides, other offers and another scheduler. -/
def aside (peers : List (Option PeerRecord)) (flags : BitVec 24) (x : Handover) (q : Transmit) (s : State) : State :=
  { s with peers := peers, port := { s.port with attention := s.port.attention ||| flags }, handover := x, tx := q }

theorem handedOn_aside {x : Handover} {q : Transmit} (a : Nat) (s : State) :
    handedOn a (aside peers flags x q s) (heldBy a h serial (aside peers flags x q s)) =
      aside peers flags x q (handedOn a s (heldBy a h serial s)) := by
  unfold handedOn
  dsimp only
  rw [show (aside peers flags x q s).window = s.window from rfl,
    show (aside peers flags x q s).holds = s.holds from rfl,
    show (heldBy a h serial (aside peers flags x q s)).holds = (heldBy a h serial s).holds from rfl,
    show (aside peers flags x q s).area = s.area from rfl,
    show (heldBy a h serial (aside peers flags x q s)).area = (heldBy a h serial s).area from rfl]
  split
  · split <;> rfl
  · split <;> rfl

/-- A loss told: CLAIM_LOST with the area, where this station held it (R89). -/
def lossTold (a : Nat) (lost : Bool) (s : State) : State :=
  if lost then { s with lastLost := some a, port := flagged s .claimLost } else s

theorem lossTold_aside {x : Handover} {q : Transmit} (a : Nat) (lost : Bool) (s : State) :
    lossTold a lost (aside peers flags x q s) = aside peers flags x q (lossTold a lost s) := by
  unfold lossTold
  split
  · rw [flagged, show (aside peers flags x q s).port.attention = s.port.attention ||| flags from rfl, plus_or]
    rfl
  · rfl

/-- Hold fields put in place, handed on, and the loss told: what comes before the area-lost notice. -/
def taken (h : Hold) (serial : Half) (loss : Bool) (a : Nat) (s : State) : State :=
  lossTold a (s.holds a && loss) (handedOn a s (heldBy a h serial s))

theorem taken_aside {x : Handover} {q : Transmit} (s : State) :
    taken h serial loss a (aside peers flags x q s) = aside peers flags x q (taken h serial loss a s) := by
  unfold taken
  rw [handedOn_aside, lossTold_aside]
  rfl

theorem taken_offers (h : Hold) (serial : Half) (loss : Bool) (a : Nat) (s : State) :
    (taken h serial loss a s).handover = s.handover ∧ (taken h serial loss a s).tx = s.tx ∧
      (taken h serial loss a s).node = s.node := by
  unfold taken
  rw [handedOn_eq]
  unfold lossTold
  split <;> exact ⟨rfl, rfl, rfl⟩

theorem taken_beside (s : State) : taken h serial loss a (beside peers flags incoming lastIn s) =
    beside peers flags incoming lastIn (taken h serial loss a s) := by
  obtain ⟨hhandover, htx, -⟩ := taken_offers h serial loss a s
  refine (taken_aside (peers := peers) (flags := flags)
    (x := { s.handover with incoming := incoming, lastIn := lastIn }) (q := s.tx) s).trans ?_
  rw [← hhandover, ← htx]
  rfl

theorem areaGone_beside (a : Nat) (s : State) : areaGone a (beside peers flags incoming lastIn s) =
    beside peers flags incoming lastIn (areaGone a s) := by
  unfold areaGone
  rw [show (beside peers flags incoming lastIn s).handover.outgoing = s.handover.outgoing from rfl]
  split
  · rfl
  · rfl
  · next o _ =>
    dsimp only
    rw [show (beside peers flags incoming lastIn s).node = s.node from rfl]
    split
    · rfl
    · rw [flagged, show (beside peers flags incoming lastIn s).port.attention = s.port.attention ||| flags from rfl, plus_or]
      rfl

theorem claimed_eq (h : Hold) (serial : Half) (loss : Bool) (a : Nat) (s : State) : claimed h serial loss a s =
    if s.holds a && !(heldBy a h serial s).holds a then areaGone a (taken h serial loss a s)
    else taken h serial loss a s := by
  unfold claimed
  dsimp only
  rw [holds_handedOn]
  rfl

theorem claimed_beside (h : Hold) (serial : Half) (loss : Bool) (a : Nat) (s : State) :
    claimed h serial loss a (beside peers flags incoming lastIn s) =
      beside peers flags incoming lastIn (claimed h serial loss a s) := by
  rw [claimed_eq, claimed_eq, taken_beside, areaGone_beside]
  exact (apply_ite _ _ _ _).symm

/-- A claim of a presence, settled or not, does the same beside them (R87, R95). -/
theorem settled_beside (s : State) (e : ClaimEntry) : settled n p (beside peers flags incoming lastIn s) e =
    beside peers flags incoming lastIn (settled n p s e) := by
  unfold settled tried
  rw [show (beside peers flags incoming lastIn s).area = s.area from rfl,
    show (beside peers flags incoming lastIn s).clock = s.clock from rfl, claimed_beside]
  split
  · rfl
  · split <;> rfl

theorem foldl_settled_beside (es : List ClaimEntry) (s : State) :
    es.foldl (settled n p) (beside peers flags incoming lastIn s) =
      beside peers flags incoming lastIn (es.foldl (settled n p) s) :=
  List.foldl_hom (beside peers flags incoming lastIn) settled_beside

/-! ### What a claim leaves as it was -/

/-- What a claim leaves as it was: the peer table, the incoming offer, the station, the operators, the clock. -/
structure ClaimKeeps (s t : State) : Prop where
  node     : t.node = s.node
  signOn   : t.signOn = s.signOn
  clock    : t.clock = s.clock
  peers    : t.peers = s.peers
  incoming : t.handover.incoming = s.handover.incoming
  lastIn   : t.handover.lastIn = s.handover.lastIn

theorem ClaimKeeps.refl (s : State) : ClaimKeeps s s := ⟨rfl, rfl, rfl, rfl, rfl, rfl⟩

theorem ClaimKeeps.trans (h : ClaimKeeps s t) (h' : ClaimKeeps t u) : ClaimKeeps s u :=
  ⟨h'.node.trans h.node, h'.signOn.trans h.signOn, h'.clock.trans h.clock, h'.peers.trans h.peers,
    h'.incoming.trans h.incoming, h'.lastIn.trans h.lastIn⟩

theorem areaGone_keeps (a : Nat) (s : State) : ClaimKeeps s (areaGone a s) := by
  unfold areaGone
  split
  · exact ⟨rfl, rfl, rfl, rfl, rfl, rfl⟩
  · exact ⟨rfl, rfl, rfl, rfl, rfl, rfl⟩
  · dsimp only
    split <;> exact ⟨rfl, rfl, rfl, rfl, rfl, rfl⟩

theorem lossTold_keeps (a : Nat) (lost : Bool) (s : State) : ClaimKeeps s (lossTold a lost s) := by
  unfold lossTold
  split <;> exact ⟨rfl, rfl, rfl, rfl, rfl, rfl⟩

theorem handedOn_keeps (a : Nat) (s : State) : ClaimKeeps s (handedOn a s (heldBy a h serial s)) := by
  rw [handedOn_eq]
  exact ⟨rfl, rfl, rfl, rfl, rfl, rfl⟩

theorem claimed_keeps (h : Hold) (serial : Half) (loss : Bool) (a : Nat) (s : State) :
    ClaimKeeps s (claimed h serial loss a s) := by
  have htold : ClaimKeeps s (taken h serial loss a s) := (handedOn_keeps a s).trans (lossTold_keeps a (s.holds a && loss) _)
  rw [claimed_eq]
  split
  · exact htold.trans (areaGone_keeps a _)
  · exact htold

/-- A claim settled leaves the state, or makes the record held or orphaned (R87, R88, R95). -/
theorem settled_cases (n : Station) (p : PresenceBody) (s : State) (e : ClaimEntry) : settled n p s e = s ∨
    (s.area e.area.toNat).config ≠ none ∧ settled n p s e =
      claimed (if p.dark then .orphaned n (e.badge.getD p.activeBadge) s.clock.now .running
        else .held n (e.badge.getD p.activeBadge)) e.serial true e.area.toNat s := by
  unfold settled
  split
  · exact .inl rfl
  · cases htried : tried n (e.badge.getD p.activeBadge) p.dark true e.serial e.area.toNat s with
    | none => exact .inl rfl
    | some v =>
      refine .inr ?_
      unfold tried at htried
      split at htried
      · cases htried
      · next hno =>
        have hconfig : (s.area e.area.toNat).config ≠ none := fun hnone => hno (by rw [hnone]; rfl)
        exact ⟨hconfig, (Option.some.inj htried).symm⟩

theorem settled_keeps (n : Station) (p : PresenceBody) (s : State) (e : ClaimEntry) :
    ClaimKeeps s (settled n p s e) := by
  obtain h | ⟨-, h⟩ := settled_cases n p s e
  · rw [h]
    exact .refl s
  · rw [h]
    exact claimed_keeps _ _ _ _ _

theorem foldl_settled_keeps (es : List ClaimEntry) (s : State) : ClaimKeeps s (es.foldl (settled n p) s) := by
  induction es generalizing s with
  | nil => exact .refl s
  | cons e rest ih => exact (settled_keeps n p s e).trans (ih _)

/-! ### The claim list (R87, R95) -/

theorem applyDarkClaim_eq {x : Claim} (hn : stationOk x.station = true) (hother : s.isOwn x.station = false) :
    s.applyDarkClaim x = if orphanedBy x.station x.serial (s.area x.area) then s
      else (tried x.station x.badge true true x.serial x.area s).getD s := by
  have hsame : orphanedSame (s.area x.area) x = orphanedBy x.station x.serial (s.area x.area) := by
    unfold orphanedSame orphanedBy
    cases (s.area x.area).hold <;> rfl
  have hclaim := applyClaim_eq (s := s) (src := .presence) (a := x.area) (serial := x.serial) (b := x.badge)
    (orphan := true) hn
  rw [hother, Bool.not_false] at hclaim
  unfold State.applyDarkClaim
  rw [hsame, ← hclaim]
  unfold State.applyClaim
  dsimp only
  cases orphanedBy x.station x.serial (s.area x.area) with
  | true => rw [Bool.not_true, Bool.and_false, if_pos rfl, if_neg Bool.false_ne_true]
  | false =>
    rw [Bool.not_false, Bool.and_true, if_neg Bool.false_ne_true]
    have hheard : ∀ y : Claim, y = x → (if s.claimHeard x && claimAccepted (s.area x.area) x then
        s.acceptClaim .presence false true x else s) = if s.claimHeard y then
        if claimAccepted (s.area x.area) y then s.acceptClaim .presence false true y
        else s.rejectClaim .presence false y else s := by
      rintro y rfl
      cases s.claimHeard y <;> cases claimAccepted (s.area y.area) y <;> rfl
    exact hheard _ rfl

theorem applyClaimList_eq (hn : stationOk n = true) (hother : s.isOwn n = false) : s.applyClaimList n p =
    p.claims.foldl (settled n p) (if p.dark then s.orphanAll n else s) := by
  have hstep : ∀ (es : List ClaimEntry) (x : State), x.isOwn n = false →
      (es.map fun e => (⟨e.area.toNat, e.serial, n, e.badge.getD p.activeBadge⟩ : Claim)).foldl
        (fun s c => if p.dark then s.applyDarkClaim c else s.applyClaim .presence (s.isOwn n) false c) x =
          es.foldl (settled n p) x := by
    intro es
    induction es with
    | nil => exact fun _ _ => rfl
    | cons e rest ih =>
      intro x hx
      have hfirst : (if p.dark then x.applyDarkClaim ⟨e.area.toNat, e.serial, n, e.badge.getD p.activeBadge⟩
          else x.applyClaim .presence (x.isOwn n) false ⟨e.area.toNat, e.serial, n, e.badge.getD p.activeBadge⟩) =
            settled n p x e := by
        unfold settled
        cases p.dark with
        | true => exact applyDarkClaim_eq hn hx
        | false =>
          have hclaim := applyClaim_eq (s := x) (src := .presence) (a := e.area.toNat) (serial := e.serial)
            (b := e.badge.getD p.activeBadge) (orphan := false) hn
          rw [hx, Bool.not_false] at hclaim
          rw [hx]
          exact hclaim
      rw [List.map_cons, List.foldl_cons, List.foldl_cons, hfirst]
      refine ih _ ?_
      rw [State.isOwn, (settled_keeps n p x e).node]
      exact hx
  unfold State.applyClaimList presenceClaims
  rw [hother, Bool.not_false, Bool.and_true]
  cases hdark : p.dark with
  | true =>
    have horphaned : (s.orphanAll n).isOwn n = false := by
      rw [State.isOwn, show (s.orphanAll n).node = s.node by simp]
      exact hother
    have hfold := hstep p.claims _ horphaned
    rw [hdark] at hfold
    exact hfold
  | false =>
    have hfold := hstep p.claims s hother
    rw [hdark] at hfold
    exact hfold

end Sys2Proof.Answers

/-! PROOF. The parts of the application of a presence: its record and flags, the orphaning, its claims, the end of the
offers (10.3, 10.5, 10.8). -/

namespace Sys2Proof.Answers

open Sys2Proof.Machine Sys2Proof.Claims Sys2Proof.Keep

variable {c : Instr} {s t u v : State} {rx : Rx} {n : Station} {a : Nat} {p : PresenceBody} {r : PeerRecord} {f : Flag}
  {x : List (Option PeerRecord)}

/-! ### Beside the peer table -/

/-- A state with another peer table. -/
def withPeers (x : List (Option PeerRecord)) (s : State) : State := { s with peers := x }

theorem latchIf_withPeers (b : Bool) (f : Flag) (s : State) : (withPeers x s).latchIf b f = withPeers x (s.latchIf b f) := by
  unfold State.latchIf
  split <;> rfl

theorem orphanArea_withPeers (hn : s.node.number ≠ some n) (a : Nat) :
    (withPeers x s).orphanArea n a = withPeers x (s.orphanArea n a) := by
  by_cases hheld : ∃ b, (s.area a).hold = .held n b
  · obtain ⟨b, hb⟩ := hheld
    rw [orphanArea_held (s := withPeers x s) hn hb, orphanArea_held hn hb]
    rfl
  · rw [orphanArea_other (s := withPeers x s) a (not_exists.mp hheld), orphanArea_other a (not_exists.mp hheld)]

theorem orphanAll_withPeers (hn : s.node.number ≠ some n) :
    (withPeers x s).orphanAll n = withPeers x (s.orphanAll n) := by
  unfold State.orphanAll
  generalize List.range 32 = l
  induction l generalizing s with
  | nil => rfl
  | cons a rest ih =>
    rw [List.foldl_cons, List.foldl_cons, orphanArea_withPeers hn]
    exact ih (by simpa using hn)

theorem lossOut_withPeers (hn : s.node.number ≠ some n) : (withPeers x s).lossOut n = withPeers x (s.lossOut n) := by
  obtain ⟨o, ho, ht⟩ | hother := outgoing_to_or n s
  · rw [lossOut_offered (s := withPeers x s) ho ht hn, lossOut_offered ho ht hn]
    rfl
  · rw [lossOut_other (s := withPeers x s) hother, lossOut_other hother]

theorem lossIn_withPeers (s : State) : (withPeers x s).lossIn n = withPeers x (s.lossIn n) := by
  obtain ⟨o, f, hin, ho⟩ | hother := incoming_from_or n s
  · rw [lossIn_from (s := withPeers x s) hin ho, lossIn_from hin ho]
    rfl
  · rw [lossIn_other (s := withPeers x s) hother, lossIn_other hother]

theorem lossNotice_withPeers (hn : s.node.number ≠ some n) :
    (withPeers x s).lossNotice n = withPeers x (s.lossNotice n) := by
  unfold State.lossNotice
  rw [lossOut_withPeers hn, lossIn_withPeers]

/-! ### The record and the flags (R156, R157, R160) -/

theorem anyReport_iff (y : Reports) : anyReport y = true ↔ y ≠ .none := by
  obtain ⟨l, e, d, w⟩ := y
  cases l <;> cases e <;> cases d <;> cases w <;> simp [anyReport, Reports.none]

theorem withPresence_eq (s : State) (r : PeerRecord) (p : PresenceBody) :
    PeerRecord.withPresence { r with silence := 0 } p s.node.digest s.clock.millTime = shown s r p := by
  have htrouble : (if anyReport p.reports = true then some p.reports else r.trouble) =
      if p.reports = .none then r.trouble else some p.reports := by
    by_cases hnone : p.reports = .none
    · rw [if_pos hnone, if_neg (by rw [anyReport_iff]; exact not_not_intro hnone)]
    · rw [if_neg hnone, if_pos ((anyReport_iff _).mpr hnone)]
  have hdigest : (if (s.node.digest == some p.digest) = true then DigestMatch.yes else .no) =
      if s.node.digest = some p.digest then .yes else .no := ite_of_iff beq_iff_eq
  unfold PeerRecord.withPresence shown
  rw [htrouble, hdigest]
  rfl

/-- The flags of a presence, its claims, a restart, the offers and the badges apart. -/
def presenceFlags (r : PeerRecord) (p : PresenceBody) (s : State) : State :=
  (((s.latchIf (darkChanged r p) .peerChange).latchIf (s.rankZero && troubleSeen r p) .peerTrouble).latchIf
    (digestFlag r p s.node.digest) .configDiffers).latchIf (skewFlag r p s.clock.millTime) .timeSkew

theorem presenceFlags_eq (r : PeerRecord) (p : PresenceBody) (s : State) : presenceFlags r p s =
    { s with port := { s.port with attention := (presenceFlags r p s).port.attention } } := by
  have hlatch : ∀ (y : State) (b : Bool) (f : Flag),
      y.latchIf b f = { y with port := { y.port with attention := (y.latchIf b f).port.attention } } := by
    intro y b f
    unfold State.latchIf
    split <;> rfl
  unfold presenceFlags
  rw [hlatch (((s.latchIf (darkChanged r p) .peerChange).latchIf (s.rankZero && troubleSeen r p) .peerTrouble).latchIf
    (digestFlag r p s.node.digest) .configDiffers), hlatch ((s.latchIf (darkChanged r p) .peerChange).latchIf
    (s.rankZero && troubleSeen r p) .peerTrouble), hlatch (s.latchIf (darkChanged r p) .peerChange), hlatch s]

theorem presenceFlags_withPeers (r : PeerRecord) (p : PresenceBody) (s : State) :
    presenceFlags r p (withPeers x s) = withPeers x (presenceFlags r p s) := by
  unfold presenceFlags
  rw [latchIf_withPeers, latchIf_withPeers, latchIf_withPeers, latchIf_withPeers]
  rfl

theorem darkChanged_iff (r : PeerRecord) (p : PresenceBody) :
    darkChanged r p = true ↔ (p.dark = true ↔ ∀ i, r.info = some i → i.dark = false) := by
  unfold darkChanged PeerRecord.isDark
  cases r.info with
  | none => simp
  | some i => cases p.dark <;> cases hi : i.dark <;> simp [hi]

theorem troubleSeen_iff (r : PeerRecord) (p : PresenceBody) : troubleSeen r p = true ↔
    (p.overdue = true ∧ ∀ i, r.info = some i → i.overdue = false) ∨ p.reports ≠ .none ∨
      (∃ i, r.info = some i ∧ (i.lineA ≠ p.lineA ∨ i.lineB ≠ p.lineB)) ∨
      (r.info = none ∧ (p.lineA ≠ 0 ∨ p.lineB ≠ 0)) := by
  unfold troubleSeen
  rw [Bool.or_eq_true, Bool.or_eq_true, anyReport_iff, or_assoc]
  refine or_congr ?_ (or_congr_right ?_)
  · cases r.info <;> simp
  · cases r.info <;> simp

theorem inStep_iff (d : Int) : inStep d = true ↔ d.natAbs ≤ 2 := by
  unfold inStep
  rw [Bool.and_eq_true, decide_eq_true_iff, decide_eq_true_iff]
  omega

theorem digestFlag_iff (r : PeerRecord) (p : PresenceBody) (d : Option Half) :
    digestFlag r p d = true ↔ d ≠ some p.digest ∧ r.digestMatch ≠ .no := by
  unfold digestFlag
  rw [Bool.and_eq_true, bne_iff_ne, bne_iff_ne]

theorem skewFlag_iff (r : PeerRecord) (p : PresenceBody) (m : Nat) : skewFlag r p m = true ↔
    2 < ((p.millTime.toNat : Int) - m).natAbs ∧ ∀ d, r.millDiff = some d → d.natAbs ≤ 2 := by
  unfold skewFlag
  rw [Bool.and_eq_true, Bool.not_eq_true', ← Bool.not_eq_true, inStep_iff, Nat.not_le, Option.all_eq_true]
  simp only [inStep_iff]

theorem badgeClash_iff (p : PresenceBody) (s : State) : s.badgeClash p = true ↔
    ∃ b x, (b = p.activeBadge ∨ b = p.reliefBadge) ∧ b ≠ 0 ∧ x.badge = b ∧
      (s.signOn.active = some x ∨ s.signOn.relief = some x) := by
  unfold State.badgeClash
  simp only [List.any_eq_true, Bool.and_eq_true, Bool.or_eq_true, bne_iff_ne, Option.any_eq_true, beq_iff_eq,
    List.mem_cons, List.not_mem_nil, or_false]
  constructor
  · rintro ⟨b, hb, hne, ⟨x, hx, hbadge⟩ | ⟨x, hx, hbadge⟩⟩
    · exact ⟨b, x, hb, hne, hbadge, .inl hx⟩
    · exact ⟨b, x, hb, hne, hbadge, .inr hx⟩
  · rintro ⟨b, x, hb, hne, hbadge, hx | hx⟩
    · exact ⟨b, hb, hne, .inl ⟨x, hx, hbadge⟩⟩
    · exact ⟨b, hb, hne, .inr ⟨x, hx, hbadge⟩⟩

theorem restartedPeer_iff (hpresent : r.state = .present) (p : PresenceBody) :
    restartedPeer (some r) p = true ↔ Restarts r p := by
  unfold restartedPeer
  rw [Option.any_some, hpresent, Bool.and_eq_true, Bool.and_eq_true, beq_iff_eq]
  simp

/-! ### A presence taken, with its claims settled and its offers ended -/

/-- A state after a presence's flags and a restart's notices, before its claims; the peer table apart. -/
def introduced (n : Station) (p : PresenceBody) (r : PeerRecord) (restarted : Bool) (s : State) : State :=
  if p.dark then
    (if restarted then (((presenceFlags r p s).latch .peerChange).orphanAll n).lossNotice n else presenceFlags r p s).orphanAll n
  else if restarted then (((presenceFlags r p s).latch .peerChange).orphanAll n).lossNotice n else presenceFlags r p s

/-- A state after a presence's claims: the dark notice and the badge test (R75, R156). -/
def concluded (n : Station) (p : PresenceBody) (s : State) : State :=
  (if p.dark then s.lossNotice n else s).latchIf (s.badgeClash p) .badgeTwice

theorem introduced_withPeers (hn : s.node.number ≠ some n) (restarted : Bool) :
    introduced n p r restarted (withPeers x s) = withPeers x (introduced n p r restarted s) := by
  have hflags : (presenceFlags r p s).node.number ≠ some n := by rw [presenceFlags_eq]; exact hn
  have htaken : (if restarted then
      (((presenceFlags r p (withPeers x s)).latch .peerChange).orphanAll n).lossNotice n
        else presenceFlags r p (withPeers x s)) = withPeers x (if restarted then
      (((presenceFlags r p s).latch .peerChange).orphanAll n).lossNotice n else presenceFlags r p s) := by
    rw [presenceFlags_withPeers]
    cases restarted with
    | false => rfl
    | true =>
      rw [if_pos rfl, if_pos rfl, show (withPeers x (presenceFlags r p s)).latch .peerChange =
        withPeers x ((presenceFlags r p s).latch .peerChange) from rfl,
        orphanAll_withPeers (s := (presenceFlags r p s).latch .peerChange) hflags,
        lossNotice_withPeers (by simpa using hflags)]
  have hnumber : (if restarted then
      (((presenceFlags r p s).latch .peerChange).orphanAll n).lossNotice n else presenceFlags r p s).node.number ≠
        some n := by
    cases restarted with
    | false => exact hflags
    | true => simpa using hflags
  unfold introduced
  rw [htaken]
  cases p.dark with
  | false => rfl
  | true => exact orphanAll_withPeers hnumber

theorem badgeClash_congr (h : u.signOn = s.signOn) : u.badgeClash p = s.badgeClash p := by
  unfold State.badgeClash
  rw [h]

theorem concluded_withPeers (hn : s.node.number ≠ some n) :
    concluded n p (withPeers x s) = withPeers x (concluded n p s) := by
  unfold concluded
  rw [badgeClash_congr (show (withPeers x s).signOn = s.signOn from rfl), lossNotice_withPeers hn, ← latchIf_withPeers]
  split <;> rfl

end Sys2Proof.Answers

/-! PROOF. A presence as its record and flags, its claims, and the end of the offers (10.3, 10.5, 10.8). -/

namespace Sys2Proof.Answers

open Sys2Proof.Machine Sys2Proof.Claims Sys2Proof.Keep

variable {c : Instr} {s t u v : State} {rx : Rx} {n : Station} {a : Nat} {p : PresenceBody} {r : PeerRecord} {f : Flag}
  {x : List (Option PeerRecord)} {restarted : Bool}

/-- The peer table after a presence. -/
def presented (rx : Rx) (p : PresenceBody) (r : PeerRecord) (s : State) : List (Option PeerRecord) :=
  s.peers.set (rx.sender.toNat - 1) (some (shown s r p))

theorem node_introduced (n : Station) (p : PresenceBody) (r : PeerRecord) (restarted : Bool) (s : State) :
    (introduced n p r restarted s).node = s.node := by
  have hflags : (presenceFlags r p s).node = s.node := by rw [presenceFlags_eq]
  unfold introduced
  split
  · split <;> simp [hflags]
  · split <;> simp [hflags]

/-- The record and flags of a presence, with the notices of a restart, beside the peer table. -/
theorem takePresence_eq (h : Hears s rx) :
    (heard s rx).takePresence rx.sender p restarted { r with silence := 0 } = withPeers (presented rx p r s)
      (if restarted then (((presenceFlags r p (heard s rx)).latch .peerChange).orphanAll rx.sender).lossNotice rx.sender
        else presenceFlags r p (heard s rx)) := by
  have hplace : (heard s rx).setPeer rx.sender (PeerRecord.withPresence { r with silence := 0 } p (heard s rx).node.digest
      (heard s rx).clock.millTime) = withPeers (presented rx p r s) (heard s rx) := by
    rw [State.setPeer, if_pos (hears_stationOk h), withPresence_eq, withPeers, presented]
    unfold heard
    dsimp only
    rw [List.set_set]
    rfl
  have hflags : (presenceFlags r p (heard s rx)).node.number ≠ some rx.sender := by rw [presenceFlags_eq]; exact h.other
  unfold State.takePresence
  rw [hplace]
  dsimp only
  show (if restarted then (((presenceFlags r p (withPeers (presented rx p r s) (heard s rx))).latch .peerChange).orphanAll
    rx.sender).lossNotice rx.sender else presenceFlags r p (withPeers (presented rx p r s) (heard s rx))) = _
  rw [presenceFlags_withPeers]
  cases restarted with
  | false => rfl
  | true =>
    rw [if_pos rfl, if_pos rfl, show (withPeers (presented rx p r s) (presenceFlags r p (heard s rx))).latch .peerChange =
      withPeers (presented rx p r s) ((presenceFlags r p (heard s rx)).latch .peerChange) from rfl,
      orphanAll_withPeers (s := (presenceFlags r p (heard s rx)).latch .peerChange) hflags,
      lossNotice_withPeers (by simpa using hflags)]

/-- A presence from a PRESENT peer: before its claims, its claims, after its claims (R156). -/
theorem exec_presence (h : Hears s rx) (hfits : frameFits (.presence p) = true) (hr : s.peer rx.sender = some r) :
    exec (.presence rx p) s = .next (concluded rx.sender p (p.claims.foldl (settled rx.sender p)
      (withPeers (presented rx p r s) (introduced rx.sender p r (restartedPeer (some r) p) (heard s rx))))) := by
  have hok := hears_stationOk h
  have hother : (heard s rx).isOwn rx.sender = false := (hears_other h :)
  have hpeer : (heard s rx).peer rx.sender = some { r with silence := 0 } := by rw [peer_heard_sender hok, hr]; rfl
  refine (exec_heard (f := .presence p) h hfits).trans (congrArg Host.Outcome.next ?_)
  unfold State.applyFrame
  dsimp only
  rw [hother, if_neg Bool.false_ne_true, hr]
  unfold State.applyPresence
  rw [hpeer]
  dsimp only
  rw [takePresence_eq h]
  have hnode : (if restartedPeer (some r) p then
      (((presenceFlags r p (heard s rx)).latch .peerChange).orphanAll rx.sender).lossNotice rx.sender
        else presenceFlags r p (heard s rx)).node = s.node := by
    have hflags : (presenceFlags r p (heard s rx)).node = s.node := by rw [presenceFlags_eq]; rfl
    split <;> simp [hflags]
  have hintro : (if p.dark then State.orphanAll rx.sender (withPeers (presented rx p r s)
      (if restartedPeer (some r) p then
      (((presenceFlags r p (heard s rx)).latch .peerChange).orphanAll rx.sender).lossNotice rx.sender
        else presenceFlags r p (heard s rx)))
      else withPeers (presented rx p r s) (if restartedPeer (some r) p then
      (((presenceFlags r p (heard s rx)).latch .peerChange).orphanAll rx.sender).lossNotice rx.sender
        else presenceFlags r p (heard s rx))) = withPeers (presented rx p r s)
          (introduced rx.sender p r (restartedPeer (some r) p) (heard s rx)) := by
    unfold introduced
    cases p.dark with
    | false => rfl
    | true => exact orphanAll_withPeers (by rw [hnode]; exact h.other)
  rw [applyClaimList_eq hok ((isOwn_eq_false_iff _ _).mpr (by
    show (if restartedPeer (some r) p then _ else _ : State).node.number ≠ _
    rw [hnode]
    exact h.other)), hintro]
  unfold concluded
  generalize p.claims.foldl (settled rx.sender p) _ = y
  have hclash : (if p.dark then y.lossNotice rx.sender else y).signOn = y.signOn := by split <;> simp
  rw [badgeClash_congr hclash]

/-! ### A presence without claims -/

theorem orphanAll_none (h : ∀ a, a < 32 → ∀ b, (s.area a).hold ≠ .held n b) : s.orphanAll n = s := by
  unfold State.orphanAll
  have hall : ∀ a ∈ List.range 32, ∀ b, (s.area a).hold ≠ .held n b := fun a ha => h a (List.mem_range.mp ha)
  generalize List.range 32 = l at hall
  induction l with
  | nil => rfl
  | cons a rest ih =>
    rw [List.foldl_cons, orphanArea_other a (hall a List.mem_cons_self)]
    exact ih fun b hb => hall b (List.mem_cons_of_mem _ hb)

theorem orphaned_not_held (now : Sec) (y : Area) (b : Badge) : (orphaned n now y).hold ≠ .held n b := by
  intro hheld
  by_cases h : ∃ b, y.hold = .held n b
  · obtain ⟨b', hb⟩ := h
    rw [orphaned_held now hb] at hheld
    cases hheld
  · rw [orphaned_other now (not_exists.mp h)] at hheld
    exact h ⟨b, hheld⟩

/-- After a loss notice no offer stands to that station or from it. -/
theorem lossNotice_offers (hn : s.node.number ≠ some n) :
    (∀ o, (s.lossNotice n).handover.outgoing = .offered o → o.target ≠ n) ∧
      ∀ o f, (s.lossNotice n).handover.incoming = .presented o ∨ (s.lossNotice n).handover.incoming = .answered o f →
        o.origin ≠ n := by
  have htold := lossNotice_told hn
  refine ⟨fun o ho => ?_, fun o f hin => ?_⟩
  · obtain ⟨o', ho', ht⟩ | hnone := outgoing_to_or n s
    · rw [(htold.offered o' ho' ht).1] at ho
      cases ho
    · exact hnone o ((htold.unoffered hnone).1 ▸ ho)
  · obtain ⟨o', g, hin', horigin⟩ | hnone := incoming_from_or n s
    · rw [(htold.received o' g hin' horigin).1] at hin
      exact hin.elim nofun nofun
    · exact hnone o f ((htold.kept hnone).1 ▸ hin)

theorem lossNotice_none (hout : ∀ o, s.handover.outgoing = .offered o → o.target ≠ n)
    (hin : ∀ o f, s.handover.incoming = .presented o ∨ s.handover.incoming = .answered o f → o.origin ≠ n) :
    s.lossNotice n = s := by
  unfold State.lossNotice
  rw [lossOut_other hout, lossIn_other hin]

/-- The flags of a presence with those of a restart. -/
def restartFlags (r : PeerRecord) (p : PresenceBody) (restarted : Bool) (s : State) : State :=
  if restarted then (presenceFlags r p s).latch .peerChange else presenceFlags r p s

theorem restartFlags_eq (r : PeerRecord) (p : PresenceBody) (restarted : Bool) (s : State) : restartFlags r p restarted s =
    { s with port := { s.port with attention := (restartFlags r p restarted s).port.attention } } := by
  unfold restartFlags
  split
  · rw [presenceFlags_eq]
    rfl
  · exact presenceFlags_eq r p s

/-- A presence without claims that is dark or shows a restart: its flags, its sender's areas orphaned, the loss notice to
the offers, the badge test (R156, R157). -/
theorem concluded_introduced (hn : s.node.number ≠ some n) (h : p.dark = true ∨ restarted = true) :
    concluded n p (introduced n p r restarted s) =
      (((restartFlags r p restarted s).orphanAll n).lossNotice n).latchIf (s.badgeClash p) .badgeTwice := by
  have hflags : (restartFlags r p restarted s).node.number ≠ some n := by rw [restartFlags_eq]; exact hn
  have hsign : (((restartFlags r p restarted s).orphanAll n).lossNotice n).signOn = s.signOn := by
    have : (restartFlags r p restarted s).signOn = s.signOn := by rw [restartFlags_eq]
    simp [this]
  have hnext : ((restartFlags r p restarted s).orphanAll n).node.number ≠ some n := by simpa using hflags
  obtain ⟨hout, hin⟩ := lossNotice_offers hnext
  have hagain : (((restartFlags r p restarted s).orphanAll n).lossNotice n).orphanAll n =
      ((restartFlags r p restarted s).orphanAll n).lossNotice n := by
    refine orphanAll_none fun a ha b => ?_
    have harea : (((restartFlags r p restarted s).orphanAll n).lossNotice n).area a =
        ((restartFlags r p restarted s).orphanAll n).area a := by simp [State.area]
    rw [harea, area_orphanAll hflags ha]
    exact orphaned_not_held _ _ b
  unfold concluded introduced
  cases hrestarted : restarted with
  | true =>
    rw [hrestarted] at hout hin hsign hagain
    rw [if_pos rfl]
    have hstate : (((presenceFlags r p s).latch .peerChange).orphanAll n).lossNotice n =
        ((restartFlags r p true s).orphanAll n).lossNotice n := rfl
    rw [hstate, hagain, ite_self, lossNotice_none hout hin, ite_self, badgeClash_congr hsign]
  | false =>
    obtain hdark | hno := h
    · have hsign' : ((presenceFlags r p s).orphanAll n).signOn = s.signOn := by
        have : (presenceFlags r p s).signOn = s.signOn := by rw [presenceFlags_eq]
        simp [this]
      rw [hdark, if_neg Bool.false_ne_true, if_pos rfl, if_pos rfl, badgeClash_congr hsign']
      rfl
    · exact absurd (hrestarted.symm.trans hno) (by decide)

/-- A presence latches its flags, and keeps every flag that was set (R156). -/
theorem flagSet_restartFlags (s : State) (r : PeerRecord) (p : PresenceBody) (restarted : Bool) (f : Flag) :
    (restartFlags r p restarted s).flagSet f = true ↔ s.flagSet f = true ∨
      (f = .peerChange ∧ (restarted = true ∨ (p.dark = true ↔ ∀ i, r.info = some i → i.dark = false))) ∨
      (f = .peerTrouble ∧ s.rankZero = true ∧ troubleSeen r p = true) ∨
      (f = .configDiffers ∧ s.node.digest ≠ some p.digest ∧ r.digestMatch ≠ .no) ∨
      (f = .timeSkew ∧ 2 < ((p.millTime.toNat : Int) - s.clock.millTime).natAbs ∧
        ∀ d, r.millDiff = some d → d.natAbs ≤ 2) := by
  have hflags : (presenceFlags r p s).flagSet f = true ↔ s.flagSet f = true ∨
      (f = .peerChange ∧ (p.dark = true ↔ ∀ i, r.info = some i → i.dark = false)) ∨
      (f = .peerTrouble ∧ s.rankZero = true ∧ troubleSeen r p = true) ∨
      (f = .configDiffers ∧ s.node.digest ≠ some p.digest ∧ r.digestMatch ≠ .no) ∨
      (f = .timeSkew ∧ 2 < ((p.millTime.toNat : Int) - s.clock.millTime).natAbs ∧
        ∀ d, r.millDiff = some d → d.natAbs ≤ 2) := by
    unfold presenceFlags
    rw [flagSet_latchIf_iff, flagSet_latchIf_iff, flagSet_latchIf_iff, flagSet_latchIf_iff, darkChanged_iff, Bool.and_eq_true,
      digestFlag_iff, skewFlag_iff, or_assoc, or_assoc, or_assoc]
  unfold restartFlags
  cases restarted with
  | false => simpa using hflags
  | true =>
    rw [if_pos rfl, flagSet_latch_iff, hflags]
    constructor
    · rintro ((h | ⟨h, -⟩ | h) | h)
      · exact .inl h
      · exact .inr (.inl ⟨h, .inl rfl⟩)
      · exact .inr (.inr h)
      · exact .inr (.inl ⟨h, .inl rfl⟩)
    · rintro (h | ⟨h, -⟩ | h)
      · exact .inl (.inl h)
      · exact .inr h
      · exact .inl (.inr (.inr h))

end Sys2Proof.Answers

/-! PROOF. The claims of a presence and the end of the offers, one before the other or after it (8.5, R123, R124). -/

namespace Sys2Proof.Answers

open Sys2Proof.Machine Sys2Proof.Claims Sys2Proof.Keep

variable {c : Instr} {s t u v : State} {rx : Rx} {n : Station} {a : Nat} {p : PresenceBody} {r : PeerRecord} {f : Flag}
  {es : List ClaimEntry} {o : OutOffer} {L : Option OfferOutcome} {h : Hold} {serial : Half} {loss : Bool}

/-! ### The flags and the incoming offer -/

theorem foldl_settled_latchIf (es : List ClaimEntry) (b : Bool) (f : Flag) (s : State) :
    es.foldl (settled n p) (s.latchIf b f) = (es.foldl (settled n p) s).latchIf b f := by
  have hkept := foldl_settled_keeps (n := n) (p := p) es s
  cases b with
  | false => rfl
  | true =>
    have hlatch : s.latch f = beside s.peers (BitVec.twoPow 24 f.bit) s.handover.incoming s.handover.lastIn s := rfl
    show es.foldl (settled n p) (s.latch f) = (es.foldl (settled n p) s).latch f
    rw [hlatch, foldl_settled_beside, ← hkept.peers, ← hkept.incoming, ← hkept.lastIn]
    rfl

theorem foldl_settled_lossIn (es : List ClaimEntry) (s : State) :
    es.foldl (settled n p) (s.lossIn n) = (es.foldl (settled n p) s).lossIn n := by
  have hkept := foldl_settled_keeps (n := n) (p := p) es s
  obtain ⟨o, g, hin, ho⟩ | hother := incoming_from_or n s
  · have hlost : originLost o s = beside s.peers (BitVec.twoPow 24 Flag.handoverFailed.bit) .idle
        (some ⟨o.number, o.origin, .originLost⟩) s := rfl
    rw [lossIn_from hin ho, lossIn_from (s := es.foldl (settled n p) s) (by rw [hkept.incoming]; exact hin) ho, hlost,
      foldl_settled_beside, ← hkept.peers]
    rfl
  · rw [lossIn_other hother, lossIn_other (by rw [hkept.incoming]; exact hother)]

/-! ### The outgoing offer -/

theorem areaGone_target (ho : (areaGone a s).handover.outgoing = .offered o) :
    ∃ o', s.handover.outgoing = .offered o' ∧ o.target = o'.target := by
  cases hout : s.handover.outgoing with
  | idle =>
    rw [areaGone_idle hout] at ho
    exact absurd (hout.symm.trans ho) nofun
  | committing o' =>
    rw [areaGone_committing hout] at ho
    cases ho
  | offered o' =>
    refine ⟨o', rfl, ?_⟩
    by_cases hleft : o'.areas &&& ~~~BitVec.twoPow 32 a ≠ 0 ∨ s.node.number = some o'.target
    · rw [areaGone_left hout hleft] at ho
      rw [← Outgoing.offered.inj ho]
    · obtain ⟨hnone, hremote⟩ := not_or.mp hleft
      rw [areaGone_last hout (Classical.not_not.mp hnone) hremote] at ho
      cases ho

theorem claimed_target (ho : (claimed h serial loss a s).handover.outgoing = .offered o) :
    ∃ o', s.handover.outgoing = .offered o' ∧ o.target = o'.target := by
  obtain ⟨hhandover, -, -⟩ := taken_offers h serial loss a s
  rw [claimed_eq] at ho
  split at ho
  · obtain ⟨o', ho', ht⟩ := areaGone_target ho
    exact ⟨o', hhandover ▸ ho', ht⟩
  · exact ⟨o, hhandover ▸ ho, rfl⟩

theorem settled_target {e : ClaimEntry} (ho : (settled n p s e).handover.outgoing = .offered o) :
    ∃ o', s.handover.outgoing = .offered o' ∧ o.target = o'.target := by
  obtain hsame | ⟨-, hclaimed⟩ := settled_cases n p s e
  · exact ⟨o, hsame ▸ ho, rfl⟩
  · rw [hclaimed] at ho
    exact claimed_target ho

theorem foldl_settled_target (es : List ClaimEntry) (s : State) (o : OutOffer)
    (ho : (es.foldl (settled n p) s).handover.outgoing = .offered o) :
    ∃ o', s.handover.outgoing = .offered o' ∧ o.target = o'.target := by
  induction es generalizing s with
  | nil => exact ⟨o, ho, rfl⟩
  | cons e rest ih =>
    obtain ⟨o', ho', ht⟩ := ih _ ho
    obtain ⟨o'', ho'', ht'⟩ := settled_target ho'
    exact ⟨o'', ho'', ht.trans ht'⟩

/-! ### An offer to the sender: ended before the claims or after them (R123, R124) -/

/-- A state with another outcome of the last outgoing offer. -/
def withLastOut (L : Option OfferOutcome) (s : State) : State := { s with handover := { s.handover with lastOut := L } }

/-- A state whose outgoing offer has ended with this outcome, the urgent queue and the flags as given. -/
def outEnded (L : Option OfferOutcome) (q : Transmit) (flags : BitVec 24) (s : State) : State :=
  aside s.peers flags { s.handover with outgoing := .idle, lastOut := L } q s

/-- The urgent queue with a WITHDRAW, if that has a place. -/
def withdrawn (o : OutOffer) (s : State) : Transmit :=
  if s.tx.urgent.length < 8 then queued s (.withdraw o.number o.target) else s.tx

/-- The loss notice to the outgoing offer, its outcome apart. -/
def outLost (n : Station) (L : Option OfferOutcome) (s : State) : State := withLastOut L (s.lossOut n)

theorem outLost_offered (ho : s.handover.outgoing = .offered o) (ht : o.target = n) (hn : s.node.number ≠ some n) :
    outLost n L s = outEnded L (withdrawn o s) (BitVec.twoPow 24 Flag.handoverFailed.bit) s := by
  rw [outLost, lossOut_offered ho ht hn, withdrawn]
  unfold targetLost
  split <;> rfl

theorem outLost_idle (hidle : s.handover.outgoing = .idle) : outLost n L s = outEnded L s.tx 0#24 s := by
  rw [outLost, lossOut_other fun o ho => absurd (hidle.symm.trans ho) nofun]
  unfold withLastOut outEnded aside
  rw [BitVec.or_zero, ← hidle]

theorem claimed_outEnded {q : Transmit} {flags : BitVec 24} (s : State) :
    claimed h serial loss a (outEnded L q flags s) = outEnded L q flags
      (if s.holds a && !(heldBy a h serial s).holds a then { taken h serial loss a s with
        handover := { s.handover with rebadge := s.handover.rebadge &&& ~~~BitVec.twoPow 32 a } }
      else taken h serial loss a s) := by
  have htaken : taken h serial loss a (outEnded L q flags s) = outEnded L q flags (taken h serial loss a s) := by
    obtain ⟨hhandover, -, -⟩ := taken_offers h serial loss a s
    have hpeers : (taken h serial loss a s).peers = s.peers := by
      unfold taken
      rw [handedOn_eq]
      unfold lossTold
      split <;> rfl
    rw [outEnded, taken_aside, outEnded, hhandover, hpeers]
  rw [claimed_eq, htaken, show (outEnded L q flags s).holds = s.holds from rfl,
    show (heldBy a h serial (outEnded L q flags s)).holds = (heldBy a h serial s).holds from rfl]
  split
  · rw [areaGone_idle (s := outEnded L q flags (taken h serial loss a s)) rfl]
    obtain ⟨hhandover, -, -⟩ := taken_offers h serial loss a s
    unfold outEnded aside
    rw [hhandover]
  · rfl

/-- A claim does the same after the loss notice to the outgoing offer as before it, but for the offer's outcome. -/
theorem claimed_outLost (hout : s.handover.outgoing = .idle ∨ ∃ o, s.handover.outgoing = .offered o ∧ o.target = n)
    (hn : s.node.number ≠ some n) :
    claimed h serial loss a (outLost n L s) = outLost n L (claimed h serial loss a s) := by
  obtain ⟨hhandover, htx, hnode⟩ := taken_offers h serial loss a s
  have hnumber : (taken h serial loss a s).node.number ≠ some n := by rw [hnode]; exact hn
  rw [claimed_eq h serial loss a s]
  obtain hidle | ⟨o, ho, rfl⟩ := hout
  · have hidle' : (taken h serial loss a s).handover.outgoing = .idle := by rw [hhandover]; exact hidle
    rw [outLost_idle hidle, claimed_outEnded]
    split
    · rw [areaGone_idle hidle', outLost_idle (by exact hidle'), ← hhandover, ← htx]
    · rw [outLost_idle hidle', htx]
  · have ho' : (taken h serial loss a s).handover.outgoing = .offered o := by rw [hhandover]; exact ho
    have htx' : withdrawn o (taken h serial loss a s) = withdrawn o s := by
      unfold withdrawn queued
      rw [htx]
    rw [outLost_offered ho rfl hn, claimed_outEnded]
    split
    · by_cases hleft : o.areas &&& ~~~BitVec.twoPow 32 a = 0
      · rw [areaGone_last ho' hleft hnumber, outLost, lossOut_other (fun _ ho => by cases ho), ← htx', hhandover]
        rfl
      · rw [areaGone_left ho' (.inl hleft), outLost_offered (o := { o with areas := o.areas &&& ~~~BitVec.twoPow 32 a })
          rfl rfl (by exact hnumber), ← htx', hhandover]
        rfl
    · rw [outLost_offered ho' rfl hnumber, htx']

end Sys2Proof.Answers

/-! PROOF. The fate of an offer to the sender of a dark presence, and PRESENCE frames (10.3, R123, R124). -/

namespace Sys2Proof.Answers

open Sys2Proof.Machine Sys2Proof.Claims Sys2Proof.Keep

variable {c : Instr} {s t u v w x : State} {rx : Rx} {n : Station} {a : Nat} {p : PresenceBody} {r : PeerRecord} {f : Flag}
  {es : List ClaimEntry} {o : OutOffer} {L : Option OfferOutcome} {h : Hold} {serial : Half} {loss : Bool} {e : ClaimEntry}

/-! ### What this station holds after a claim -/

theorem areas_claimed (h : Hold) (serial : Half) (loss : Bool) (a : Nat) (s : State) :
    (claimed h serial loss a s).areas = (heldBy a h serial s).areas := by
  have htaken : (taken h serial loss a s).areas = (heldBy a h serial s).areas := by
    unfold taken
    rw [handedOn_eq]
    unfold lossTold
    split <;> rfl
  rw [claimed_eq]
  split
  · rw [areaGone_eq]
    exact htaken
  · exact htaken

/-- An area claimed for another station is not held here, and every other one is as it was. -/
theorem holds_claimed (ha : a < s.areas.length) (hh : ∀ y : State, y.node = s.node → (y.area a).hold = h →
    y.holds a = false) (b : Nat) : (claimed h serial loss a s).holds b = if a = b then false else s.holds b := by
  have hnode := (claimed_keeps h serial loss a s).node
  have harea : ∀ k, (claimed h serial loss a s).area k = (heldBy a h serial s).area k := fun k => by
    rw [State.area, areas_claimed, State.area]
  split
  · next hab =>
    subst hab
    refine hh _ hnode ?_
    rw [harea]
    exact congrArg Area.hold (State.area_setArea_self s a _ ha)
  · next hab =>
    have hown : (claimed h serial loss a s).isOwn = s.isOwn := funext fun m => by rw [State.isOwn, hnode, State.isOwn]
    unfold State.holds
    rw [harea, show (heldBy a h serial s).area b = s.area b from State.area_setArea_other s a b _ hab, hown]

/-- A claim settled takes an area from this station or takes none. -/
theorem settled_holds (hn : s.node.number ≠ some n) (e : ClaimEntry) :
    (settled n p s e).holds = s.holds ∧ (settled n p s e).handover = s.handover ∨
      s.holds e.area.toNat = true ∧
        (∀ b, (settled n p s e).holds b = if e.area.toNat = b then false else s.holds b) ∧
        ∃ y, settled n p s e = areaGone e.area.toNat y ∧ y.handover = s.handover ∧ y.node = s.node := by
  obtain hsame | ⟨hconfig, hclaimed⟩ := settled_cases n p s e
  · rw [hsame]
    exact .inl ⟨rfl, rfl⟩
  · have hother : ∀ y : State, y.node = s.node → (y.area e.area.toNat).hold =
        (if p.dark then .orphaned n (e.badge.getD p.activeBadge) s.clock.now .running
          else .held n (e.badge.getD p.activeBadge)) → y.holds e.area.toNat = false := by
      intro y hnode hhold
      rw [State.holds, hhold]
      cases p.dark with
      | true => rfl
      | false => exact (isOwn_eq_false_iff y n).mpr (by rw [hnode]; exact hn)
    have hlt := lt_of_configured hconfig
    have hholds := holds_claimed (serial := e.serial) (loss := true) hlt hother
    obtain ⟨hhandover, -, hnode⟩ := taken_offers (if p.dark then .orphaned n (e.badge.getD p.activeBadge) s.clock.now .running
      else .held n (e.badge.getD p.activeBadge)) e.serial true e.area.toNat s
    have hafter : (heldBy e.area.toNat (if p.dark then .orphaned n (e.badge.getD p.activeBadge) s.clock.now .running
        else .held n (e.badge.getD p.activeBadge)) e.serial s).holds e.area.toNat = false :=
      hother _ rfl (congrArg Area.hold (State.area_setArea_self s _ _ hlt))
    rw [← hclaimed] at hholds
    cases hheld : s.holds e.area.toNat with
    | true =>
      refine .inr ⟨rfl, hholds, _, ?_, hhandover, hnode⟩
      rw [hclaimed, claimed_eq, hheld, hafter]
      rfl
    | false =>
      refine .inl ⟨funext fun b => ?_, ?_⟩
      · rw [hholds]
        split
        · next hab => rw [← hab, hheld]
        · rfl
      · rw [hclaimed, claimed_eq, hheld]
        exact hhandover

/-! ### The fate of the offer -/

/-- From `w` to `x` claims have taken areas of this station: the offer `o` to station `n` stands with the areas left, or
has ended with none left (R124). -/
structure Losing (o : OutOffer) (w x : State) : Prop where
  holds : ∀ b, x.holds b = true → w.holds b = true
  fate  : (∃ m, x.handover.outgoing = .offered { o with areas := m } ∧
      (∀ b, b < 32 → m.getLsbD b = (o.areas.getLsbD b && !(w.holds b && !x.holds b))) ∧
      ((∀ b, b < 32 → w.holds b = true → x.holds b = true) ∨ m ≠ 0)) ∨
    (x.handover.outgoing = .idle ∧ x.handover.lastOut = some ⟨o.number, o.target, .areasLost⟩ ∧
      (∃ b, b < 32 ∧ w.holds b = true ∧ x.holds b = false) ∧
      ∀ b, b < 32 → o.areas.getLsbD b = true → w.holds b = true ∧ x.holds b = false)

theorem Losing.refl (ho : w.handover.outgoing = .offered o) : Losing o w w :=
  ⟨fun _ => id, .inl ⟨o.areas, ho, fun b _ => by cases w.holds b <;> simp, .inl fun _ _ => id⟩⟩

theorem Losing.congr (hx : Losing o w x) (hholds : t.holds = x.holds) (hhandover : t.handover = x.handover) :
    Losing o w t := by
  obtain ⟨h, hfate⟩ := hx
  rw [← hholds, ← hhandover] at hfate
  exact ⟨fun b hb => h b (hholds ▸ hb), hfate⟩

/-- One more area of this station is taken. -/
theorem Losing.areaGone (hx : Losing o w x) (hheld : x.holds a = true) (ha : a < 32) (hn : t.node.number ≠ some o.target)
    (hhandover : t.handover = x.handover)
    (hholds : ∀ b, (areaGone a t).holds b = if a = b then false else x.holds b) : Losing o w (areaGone a t) := by
  have hless : ∀ b, (Claims.areaGone a t).holds b = true → x.holds b = true := by
    intro b hb
    rw [hholds] at hb
    split at hb
    · cases hb
    · exact hb
  have hgone : (Claims.areaGone a t).holds a = false := (hholds a).trans (if_pos rfl)
  refine ⟨fun b hb => hx.holds b (hless b hb), ?_⟩
  obtain ⟨m, hout, hbits, -⟩ | ⟨hidle, hlast, ⟨b, hb, hw, hno⟩, hall⟩ := hx.fate
  · have hout' : t.handover.outgoing = .offered { o with areas := m } := by rw [hhandover]; exact hout
    by_cases hleft : m &&& ~~~BitVec.twoPow 32 a = 0
    · have hend : (Claims.areaGone a t).handover.outgoing = .idle ∧
          (Claims.areaGone a t).handover.lastOut = some ⟨o.number, o.target, .areasLost⟩ := by
        rw [areaGone_last hout' hleft hn]
        exact ⟨rfl, rfl⟩
      refine .inr ⟨hend.1, hend.2, ⟨a, ha, hx.holds a hheld, hgone⟩, fun b hb hoffered => ?_⟩
      have hbit : (m &&& ~~~BitVec.twoPow 32 a).getLsbD b = false := by rw [hleft]; exact BitVec.getLsbD_zero
      rw [show m &&& ~~~BitVec.twoPow 32 a = dropArea m a from rfl, getLsbD_dropArea, hbits b hb, hoffered] at hbit
      by_cases hab : a = b
      · subst hab
        exact ⟨hx.holds a hheld, hgone⟩
      · rw [hholds, if_neg hab]
        cases hw : w.holds b <;> cases hxb : x.holds b <;> simp_all
    · have hend : (Claims.areaGone a t).handover.outgoing =
          .offered { o with areas := m &&& ~~~BitVec.twoPow 32 a } := by
        rw [areaGone_left hout' (.inl hleft)]
      refine .inl ⟨_, hend, fun b hb => ?_, .inr hleft⟩
      rw [show m &&& ~~~BitVec.twoPow 32 a = dropArea m a from rfl, getLsbD_dropArea, hbits b hb, hholds]
      by_cases hab : a = b
      · subst hab
        simp [hx.holds a hheld]
      · simp [hab]
  · have hidle' : t.handover.outgoing = .idle := by rw [hhandover]; exact hidle
    have hfew : ∀ b, x.holds b = false → (Claims.areaGone a t).holds b = false := fun b hxb => by
      rw [hholds, hxb, ite_self]
    have houtgoing : (Claims.areaGone a t).handover.outgoing = .idle ∧
        (Claims.areaGone a t).handover.lastOut = x.handover.lastOut := by
      rw [areaGone_idle hidle']
      exact ⟨hidle', by rw [hhandover]⟩
    refine .inr ⟨houtgoing.1, houtgoing.2.trans hlast, ⟨b, hb, hw, hfew b hno⟩, fun b hb hoffered => ?_⟩
    obtain ⟨hwb, hxb⟩ := hall b hb hoffered
    exact ⟨hwb, hfew b hxb⟩

theorem Losing.settled (hx : Losing o w x) (hn : x.node.number ≠ some n) (ht : o.target = n) (e : ClaimEntry) :
    Losing o w (Claims.settled n p x e) := by
  obtain ⟨hholds, hhandover⟩ | ⟨hheld, hholds, y, hy, hhandover, hnode⟩ := settled_holds (p := p) hn e
  · exact hx.congr hholds hhandover
  · rw [hy] at hholds ⊢
    exact hx.areaGone hheld e.area.isLt (by rw [hnode, ht]; exact hn) hhandover hholds

theorem losing_foldl (hn : w.node.number ≠ some n) (ht : o.target = n) (ho : w.handover.outgoing = .offered o)
    (es : List ClaimEntry) : Losing o w (es.foldl (settled n p) w) := by
  have hgeneral : ∀ x, Losing o w x → x.node.number ≠ some n → Losing o w (es.foldl (settled n p) x) := by
    induction es with
    | nil => exact fun _ hx _ => hx
    | cons e rest ih =>
      intro x hx hnx
      exact ih _ (hx.settled hnx ht e) (by rw [(settled_keeps n p x e).node]; exact hnx)
  exact hgeneral w (.refl ho) hn

theorem Losing.out (hx : Losing o w x) (ht : o.target = n) :
    x.handover.outgoing = .idle ∨ ∃ o', x.handover.outgoing = .offered o' ∧ o'.target = n := by
  obtain ⟨m, hout, -⟩ | ⟨hidle, -⟩ := hx.fate
  · exact .inr ⟨_, hout, ht⟩
  · exact .inl hidle

/-! ### The claims after the loss notice to that offer, or before it -/

theorem settled_outLost (hout : s.handover.outgoing = .idle ∨ ∃ o, s.handover.outgoing = .offered o ∧ o.target = n)
    (hn : s.node.number ≠ some n) (e : ClaimEntry) :
    settled n p (outLost n L s) e = outLost n L (settled n p s e) := by
  have harea : (outLost n L s).area = s.area := by
    funext a
    rw [State.area, show (outLost n L s).areas = s.areas by simp [outLost, withLastOut]]
    rfl
  have hclock : (outLost n L s).clock = s.clock := by simp [outLost, withLastOut]
  unfold settled tried
  rw [harea, hclock, claimed_outLost hout hn]
  split
  · rfl
  · split <;> rfl

theorem foldl_settled_outLost (hn : w.node.number ≠ some n) (ht : o.target = n)
    (ho : w.handover.outgoing = .offered o) (es : List ClaimEntry) :
    es.foldl (settled n p) (outLost n L w) = outLost n L (es.foldl (settled n p) w) := by
  have hgeneral : ∀ x, Losing o w x → x.node.number ≠ some n →
      es.foldl (settled n p) (outLost n L x) = outLost n L (es.foldl (settled n p) x) := by
    induction es with
    | nil => exact fun _ _ _ => rfl
    | cons e rest ih =>
      intro x hx hnx
      rw [List.foldl_cons, List.foldl_cons, settled_outLost (hx.out ht) hnx]
      exact ih _ (hx.settled hnx ht e) (by rw [(settled_keeps n p x e).node]; exact hnx)
  exact hgeneral w (.refl ho) hn

end Sys2Proof.Answers

/-! PROOF. PRESENCE frames (10.3 to 10.6, 10.8). -/

namespace Sys2Proof.Answers

open Sys2Proof.Machine Sys2Proof.Claims Sys2Proof.Keep

variable {c : Instr} {s t u v w x y : State} {rx : Rx} {n : Station} {a : Nat} {p : PresenceBody} {r : PeerRecord}
  {f : Flag} {es : List ClaimEntry} {o : OutOffer} {L : Option OfferOutcome} {h : Hold} {serial : Half} {e : ClaimEntry}
  {restarted : Bool}

/-! ### The flags (R156, R157, R160, R75, R123) -/

/-- An offer stands to a station or from it. -/
def OffersWith (n : Station) (s : State) : Prop :=
  (∃ o, s.handover.outgoing = .offered o ∧ o.target = n) ∨
    ∃ o a, (s.handover.incoming = .presented o ∨ s.handover.incoming = .answered o a) ∧ o.origin = n

theorem flags_iff (hrestart : restarted = true ↔ Restarts r p) (hy : y.flagSet f = true ↔
    (restartFlags r p restarted (heard s rx)).flagSet f = true ∨
      (f = .handoverFailed ∧ (p.dark = true ∨ Restarts r p) ∧ OffersWith rx.sender s)) :
    (y.latchIf (s.badgeClash p) .badgeTwice).flagSet f = true ↔ s.flagSet f = true ∨ Latches s rx.sender r p f := by
  rw [flagSet_latchIf_iff, hy, flagSet_restartFlags, badgeClash_iff, hrestart, troubleSeen_iff, or_assoc, or_assoc]
  unfold Latches OffersWith
  rw [or_assoc, or_assoc, or_assoc, or_comm (b := f = .badgeTwice ∧ _)]
  rfl

/-- The loss notice latches HANDOVER_FAILED where an offer stands to the station or from it, and no other flag. -/
theorem flagSet_lossNotice (hn : s.node.number ≠ some n) (f : Flag) : (s.lossNotice n).flagSet f = true ↔
    s.flagSet f = true ∨ (f = .handoverFailed ∧ OffersWith n s) := by
  have htold := lossNotice_told hn
  by_cases hf : f = .handoverFailed
  · subst hf
    obtain ⟨o, ho, ht⟩ | hout := outgoing_to_or n s
    · exact iff_of_true (htold.offered o ho ht).2.2.1 (.inr ⟨rfl, .inl ⟨o, ho, ht⟩⟩)
    · obtain ⟨o, g, hin, horigin⟩ | hother := incoming_from_or n s
      · exact iff_of_true (htold.received o g hin horigin).2.2 (.inr ⟨rfl, .inr ⟨o, g, hin, horigin⟩⟩)
      · have hnone : ¬OffersWith n s := by
          rintro (⟨o, ho, ht⟩ | ⟨o, g, hin, horigin⟩)
          · exact hout o ho ht
          · exact hother o g hin horigin
        rw [flagSet_congr (htold.quiet hout hother)]
        simp [hnone]
  · rw [htold.flags f hf]
    simp [hf]

/-! ### What a claim gives the window, the horn and the lamp -/

/-- A state with other transmissions, another peer table and another port. -/
def elsewhere (bus : Bus) (peers : List (Option PeerRecord)) (port : Port) (s : State) : State :=
  { s with bus := bus, peers := peers, port := port }

theorem handedOn_elsewhere {bus : Bus} {peers : List (Option PeerRecord)} {port : Port} (s : State) :
    handedOn a (elsewhere bus peers port s) (heldBy a h serial (elsewhere bus peers port s)) =
      elsewhere bus peers port (handedOn a s (heldBy a h serial s)) := by
  unfold handedOn
  dsimp only
  rw [show (elsewhere bus peers port s).window = s.window from rfl,
    show (elsewhere bus peers port s).holds = s.holds from rfl,
    show (heldBy a h serial (elsewhere bus peers port s)).holds = (heldBy a h serial s).holds from rfl,
    show (elsewhere bus peers port s).area = s.area from rfl,
    show (heldBy a h serial (elsewhere bus peers port s)).area = (heldBy a h serial s).area from rfl]
  split
  · split <;> rfl
  · split <;> rfl

theorem list_handedOn (a : Nat) (s u : State) : (handedOn a s u).picture.list = u.picture.list := by
  unfold handedOn
  dsimp only
  split
  · split <;> rfl
  · split <;> rfl

theorem latchIf_frame (s : State) (b : Bool) (f : Flag) :
    s.latchIf b f = { s with port := { s.port with attention := (s.latchIf b f).port.attention } } := by
  unfold State.latchIf
  split <;> rfl

/-! ### The claims and the end of the offers -/

theorem concluded_eq (n : Station) (p : PresenceBody) (s : State) (h : p.dark = true) :
    concluded n p s = ((s.lossOut n).lossIn n).latchIf (s.badgeClash p) .badgeTwice := by
  unfold concluded State.lossNotice
  rw [h]
  rfl

theorem concluded_light (n : Station) (p : PresenceBody) (s : State) (h : p.dark = false) :
    concluded n p s = s.latchIf (s.badgeClash p) .badgeTwice := by
  unfold concluded
  rw [h]
  rfl

/-- Where no offer to the sender stands, the claims do the same before the dark notice as after it. -/
theorem foldl_settled_concluded (hout : p.dark = false ∨ ∀ o, w.handover.outgoing = .offered o → o.target ≠ n)
    (es : List ClaimEntry) : es.foldl (settled n p) (concluded n p w) = concluded n p (es.foldl (settled n p) w) := by
  have hclash : (es.foldl (settled n p) w).badgeClash p = w.badgeClash p :=
    badgeClash_congr (foldl_settled_keeps es w).signOn
  cases hdark : p.dark with
  | false => rw [concluded_light _ _ _ hdark, concluded_light _ _ _ hdark, foldl_settled_latchIf, hclash]
  | true =>
    obtain hno | hout := hout
    · exact absurd (hdark.symm.trans hno) (by decide)
    · have hafter : (es.foldl (settled n p) w).lossOut n = es.foldl (settled n p) w := lossOut_other fun o ho => by
        obtain ⟨o', ho', ht⟩ := foldl_settled_target es w o ho
        rw [ht]
        exact hout o' ho'
      rw [concluded_eq _ _ _ hdark, concluded_eq _ _ _ hdark, foldl_settled_latchIf, foldl_settled_lossIn,
        lossOut_other hout, hafter, hclash]

theorem lossIn_withLastOut (s : State) : (withLastOut L s).lossIn n = withLastOut L (s.lossIn n) := by
  obtain ⟨o, g, hin, ho⟩ | hother := incoming_from_or n s
  · rw [lossIn_from (s := withLastOut L s) hin ho, lossIn_from hin ho]
    rfl
  · rw [lossIn_other (s := withLastOut L s) hother, lossIn_other hother]

theorem lastOut_lossIn (s : State) : (s.lossIn n).handover.lastOut = s.handover.lastOut := by
  obtain ⟨o, g, hin, ho⟩ | hother := incoming_from_or n s
  · rw [lossIn_from hin ho]
    rfl
  · rw [lossIn_other hother]

/-- Where an offer to the sender of a dark presence stands, the claims before the dark notice give what they give after
it, but for the outcome of that offer. -/
theorem concluded_foldl_settled (hdark : p.dark = true) (hn : w.node.number ≠ some n) (ht : o.target = n)
    (ho : w.handover.outgoing = .offered o) (es : List ClaimEntry) :
    concluded n p (es.foldl (settled n p) w) = withLastOut ((es.foldl (settled n p) w).lossOut n).handover.lastOut
      (es.foldl (settled n p) (concluded n p w)) := by
  have hclash : (es.foldl (settled n p) w).badgeClash p = w.badgeClash p :=
    badgeClash_congr (foldl_settled_keeps es w).signOn
  have hfirst : w.lossOut n = outLost n (some ⟨o.number, o.target, .targetLost⟩) w := by
    rw [outLost, lossOut_offered ho ht hn]
    rfl
  rw [concluded_eq _ _ _ hdark, concluded_eq _ _ _ hdark, foldl_settled_latchIf, foldl_settled_lossIn, hfirst,
    foldl_settled_outLost hn ht ho, hclash]
  generalize es.foldl (settled n p) w = y
  have hlast : ((y.lossOut n).lossIn n).handover.lastOut = (y.lossOut n).handover.lastOut := lastOut_lossIn _
  rw [outLost, lossIn_withLastOut, ← hlast]
  generalize (y.lossOut n).lossIn n = z
  unfold State.latchIf
  split <;> rfl

/-- The outcome of that offer (R123, R124). -/
theorem Losing.lastOut (hx : Losing o w x) (ht : o.target = n) (hn : x.node.number ≠ some n) :
    (x.lossOut n).handover.lastOut = some ⟨o.number, o.target, .targetLost⟩ ∧
        ((∀ b, b < 32 → w.holds b = true → x.holds b = true) ∨
          ∃ b, b < 32 ∧ o.areas.getLsbD b = true ∧ (w.holds b = false ∨ x.holds b = true)) ∨
      (x.lossOut n).handover.lastOut = some ⟨o.number, o.target, .areasLost⟩ ∧
        (∃ b, b < 32 ∧ w.holds b = true ∧ x.holds b = false) ∧
        ∀ b, b < 32 → o.areas.getLsbD b = true → w.holds b = true ∧ x.holds b = false := by
  obtain ⟨m, hout, hbits, hkept⟩ | ⟨hidle, hlast, hlost, hall⟩ := hx.fate
  · refine .inl ⟨?_, hkept.imp id fun hsome => ?_⟩
    · rw [lossOut_offered hout ht hn]
      rfl
    · refine Classical.byContradiction fun hno => ?_
      refine hsome (BitVec.eq_of_getLsbD_eq fun b hb => ?_)
      refine (hbits b hb).trans (.trans ?_ BitVec.getLsbD_zero.symm)
      have hb' := fun hoffered => not_or.mp fun hor => hno ⟨b, hb, hoffered, hor⟩
      cases hoffered : o.areas.getLsbD b with
      | false => rfl
      | true =>
        obtain ⟨hwb, hxb⟩ := hb' hoffered
        rw [eq_true_of_ne_false hwb, Bool.eq_false_iff.mpr hxb]
        rfl
  · refine .inr ⟨?_, hlost, hall⟩
    rw [lossOut_other fun o' ho' => absurd (hidle.symm.trans ho') nofun]
    exact hlast

theorem holds_orphanAll (hn : s.node.number ≠ some n) {a : Nat} (ha : a < 32) : (s.orphanAll n).holds a = s.holds a := by
  have hown : (s.orphanAll n).isOwn = s.isOwn := funext fun m => by
    rw [State.isOwn, show (s.orphanAll n).node = s.node by simp, State.isOwn]
  unfold State.holds
  rw [area_orphanAll hn ha, hown]
  by_cases hheld : ∃ b, (s.area a).hold = .held n b
  · obtain ⟨b, hb⟩ := hheld
    rw [orphaned_held _ hb, hb]
    exact ((isOwn_eq_false_iff s n).mpr hn).symm
  · rw [orphaned_other _ (not_exists.mp hheld)]

theorem handover_orphanAll (hn : s.node.number ≠ some n) : (s.orphanAll n).handover = s.handover := by
  have hframe := (orphanedIn_orphanAll hn).frame
  generalize s.orphanAll n = u at hframe ⊢
  rw [hframe]
  rfl

theorem holds_concluded (n : Station) (p : PresenceBody) (s : State) : (concluded n p s).holds = s.holds := by
  refine holds_congr ?_ ?_
  · rw [concluded, latchIf_frame]
    split <;> simp
  · rw [concluded, latchIf_frame]
    split <;> simp

theorem introduced_bare (hdark : p.dark = false) (hno : restarted = false) (s : State) :
    introduced n p r restarted s = restartFlags r p restarted s := by
  unfold introduced restartFlags
  simp only [hdark, hno, Bool.false_eq_true, if_false]

theorem signOn_restartFlags (s : State) : (restartFlags r p restarted s).signOn = s.signOn := by rw [restartFlags_eq]

/-- A state with another port. -/
def ported (port : Port) (s : State) : State := { s with port := port }

/-- A port with other flags. -/
def portWith (flags : BitVec 24) (x : Port) : Port := { x with attention := flags }

theorem latchIf_ported (s : State) (b : Bool) (f : Flag) :
    s.latchIf b f = ported (portWith (s.latchIf b f).port.attention s.port) s := latchIf_frame s b f

theorem restartFlags_ported (s : State) : restartFlags r p restarted s =
    ported (portWith (restartFlags r p restarted s).port.attention s.port) s := restartFlags_eq r p restarted s

/-- The same presence without its claims. -/
theorem exec_presence_bare (h : Hears s rx) (hr : s.peer rx.sender = some r) :
    exec (.presence rx { p with claims := [] }) s = .next (concluded rx.sender p
      (withPeers (presented rx { p with claims := [] } r s)
        (introduced rx.sender p r (restartedPeer (some r) p) (heard s rx)))) :=
  exec_presence (p := { p with claims := [] }) h rfl hr

theorem node_restartFlags (s : State) : (restartFlags r p restarted s).node = s.node := by rw [restartFlags_eq]

theorem handover_restartFlags (s : State) : (restartFlags r p restarted s).handover = s.handover := by rw [restartFlags_eq]

/-- After a restart's notices no offer to the sender stands. -/
theorem introduced_restarted (hn : s.node.number ≠ some n) :
    ∀ o, (introduced n p r true s).handover.outgoing = .offered o → o.target ≠ n := by
  have hnumber : ((restartFlags r p true s).orphanAll n).node.number ≠ some n := by
    rw [show ((restartFlags r p true s).orphanAll n).node = (restartFlags r p true s).node by simp, node_restartFlags]
    exact hn
  have hend := lossNotice_offers hnumber
  have hnext : (((restartFlags r p true s).orphanAll n).lossNotice n).node.number ≠ some n := by
    rw [show (((restartFlags r p true s).orphanAll n).lossNotice n).node = ((restartFlags r p true s).orphanAll n).node by
      simp]
    exact hnumber
  intro o ho
  cases hdark : p.dark with
  | true =>
    have hstate : introduced n p r true s = (((restartFlags r p true s).orphanAll n).lossNotice n).orphanAll n := by
      unfold introduced restartFlags
      simp only [hdark, if_true]
    rw [hstate, handover_orphanAll hnext] at ho
    exact hend.1 o ho
  | false =>
    have hstate : introduced n p r true s = ((restartFlags r p true s).orphanAll n).lossNotice n := by
      unfold introduced restartFlags
      simp only [hdark, if_true, Bool.false_eq_true, if_false]
    rw [hstate] at ho
    exact hend.1 o ho

theorem introduced_dark (hdark : p.dark = true) (hno : restarted = false) (s : State) :
    introduced n p r restarted s = (restartFlags r p restarted s).orphanAll n := by
  unfold introduced restartFlags
  simp only [hdark, hno, Bool.false_eq_true, if_false, if_true]

theorem holds_introduced (hdark : p.dark = true) (hno : restarted = false) (hn : s.node.number ≠ some n) {a : Nat}
    (ha : a < 32) : (introduced n p r restarted s).holds a = s.holds a := by
  rw [introduced_dark hdark hno, holds_orphanAll (by rw [node_restartFlags]; exact hn) ha, restartFlags_ported]
  rfl

theorem handover_introduced (hdark : p.dark = true) (hno : restarted = false) (hn : s.node.number ≠ some n) :
    (introduced n p r restarted s).handover = s.handover := by
  rw [introduced_dark hdark hno, handover_orphanAll (by rw [node_restartFlags]; exact hn), handover_restartFlags]

/-- Settles O55: a presence is its record and flags, its claims in order, and the end of the offers; the claims do the
same before the end of the offers as after it, but for the outcome of an offer to the sender. -/
theorem presenceUpdatesThePeer : Obligations.PresenceUpdatesThePeer := by
  unfold Obligations.PresenceUpdatesThePeer
  intro s rx p r h hfits hr
  have hpresent : r.state = .present := by
    obtain ⟨r', hr', hstate, -⟩ := h.known
    rw [Option.some.inj (hr.symm.trans hr')]
    exact hstate
  have hn : (heard s rx).node.number ≠ some rx.sender := h.other
  have hrestart := restartedPeer_iff (r := r) hpresent p
  have hrun := exec_presence h hfits hr
  have hbare := exec_presence_bare (p := p) h hr
  generalize restartedPeer (some r) p = restarted at hrestart hrun hbare
  refine ⟨fun hdark hclaims hmark => ?bare, fun e k hdark hclaims hmark hk hheld hserial => ?one,
    fun u v hu hv => ?settles, fun hclaims hcase => ?orphans⟩
  case bare =>
    have hno : restarted = false := by
      rw [← Bool.not_eq_true, hrestart]
      rintro ⟨hjoin, hno⟩
      exact hmark.elim (fun hj => absurd (hjoin.symm.trans hj) (by decide)) fun hm => hm hno
    rw [hclaims, List.foldl_nil, concluded_light _ _ _ hdark] at hrun
    have hclash : (withPeers (presented rx p r s) (restartFlags r p restarted (heard s rx))).badgeClash p =
        s.badgeClash p := badgeClash_congr (signOn_restartFlags (heard s rx))
    rw [introduced_bare hdark hno, hclash, latchIf_withPeers] at hrun
    refine ⟨((restartFlags r p restarted (heard s rx)).latchIf (s.badgeClash p) .badgeTwice).port.attention, ?_,
      fun f => ?_⟩
    · rw [hrun, latchIf_ported, restartFlags_ported]
      rfl
    · exact flags_iff hrestart (y := restartFlags r p restarted (heard s rx)) (by simp [hdark, ← hrestart, hno])
  case one =>
    have hno : restarted = false := by
      rw [← Bool.not_eq_true, hrestart]
      exact fun hjoin => absurd (hjoin.1.symm.trans hmark) (by decide)
    obtain ⟨port, hstate⟩ : ∃ port, restartFlags r p restarted (heard s rx) = ported port (heard s rx) :=
      ⟨_, restartFlags_ported _⟩
    have hfirst : withPeers (presented rx p r s) (introduced rx.sender p r restarted (heard s rx)) =
        elsewhere (heard s rx).bus (presented rx p r s) port s := by
      rw [introduced_bare hdark hno, hstate]
      rfl
    have haccepted : settled rx.sender p (elsewhere (heard s rx).bus (presented rx p r s) port s) e =
        elsewhere (heard s rx).bus (presented rx p r s) port (handedOn e.area.toNat s
          (heldBy e.area.toNat (.held rx.sender (e.badge.getD p.activeBadge)) e.serial s)) := by
      have hconfig : ((elsewhere (heard s rx).bus (presented rx p r s) port s).area e.area.toNat).config ≠ none := by
        show (s.area e.area.toNat).config ≠ none
        rw [hk]
        exact nofun
      unfold settled
      rw [hdark, Bool.false_and, if_neg Bool.false_ne_true,
        tried_accepted hconfig ((beats_iff _ _ _).mpr (.inl hserial)), Option.getD_some, ← handedOn_elsewhere]
      exact claimed_kept (s := elsewhere (heard s rx).bus (presented rx p r s) port s) hheld
    rw [hclaims, List.foldl_cons, List.foldl_nil, concluded_light _ _ _ hdark, hfirst, haccepted, latchIf_ported] at hrun
    have hareas : (handedOn e.area.toNat s (heldBy e.area.toNat (.held rx.sender (e.badge.getD p.activeBadge)) e.serial
        s)).areas = s.areas.set e.area.toNat { s.area e.area.toNat with
          hold := .held rx.sender (e.badge.getD p.activeBadge), serial := e.serial } := by
      rw [handedOn_eq]
      rfl
    have hrest : (handedOn e.area.toNat s (heldBy e.area.toNat (.held rx.sender (e.badge.getD p.activeBadge)) e.serial
        s)).signOn = s.signOn ∧ (handedOn e.area.toNat s (heldBy e.area.toNat
          (.held rx.sender (e.badge.getD p.activeBadge)) e.serial s)).lastLost = s.lastLost := by
      rw [handedOn_eq]
      exact ⟨rfl, rfl⟩
    refine ⟨_, hrun, hareas, ?_, hrest.1, list_handedOn _ _ _, hrest.2⟩
    show (handedOn e.area.toNat s _).picture = (handedOn e.area.toNat s { s with areas := (handedOn _ s _).areas }).picture
    rw [hareas]
    rfl
  case settles =>
    have hnode : ∀ z, (withPeers z (introduced rx.sender p r restarted (heard s rx))).node.number ≠ some rx.sender := by
      intro z
      show (introduced rx.sender p r restarted (heard s rx)).node.number ≠ _
      rw [node_introduced]
      exact hn
    have hv' : v = p.claims.foldl (settled rx.sender p) (concluded rx.sender p
        (withPeers (presented rx p r s) (introduced rx.sender p r restarted (heard s rx)))) := by
      rw [hv, Host.Outcome.next.inj (hu.symm.trans hbare)]
      refine congrArg (fun y => List.foldl (settled rx.sender p) y p.claims) ?_
      exact (concluded_withPeers (x := presented rx p r s) (hnode _)).symm
    refine ⟨fun hcase => ?_, fun o res hdark hnot ho ht hres => ?_⟩
    · rw [hrun, hv', foldl_settled_concluded]
      cases hrestarted : restarted with
      | true => exact .inr (introduced_restarted hn)
      | false =>
        have hnot : ¬Restarts r p := fun hr => absurd (hrestarted.symm.trans (hrestart.mpr hr)) (by decide)
        cases hdark : p.dark with
        | false => exact .inl rfl
        | true =>
          obtain hlight | hyes | hother := hcase
          · exact absurd (hdark.symm.trans hlight) (by decide)
          · exact absurd hyes hnot
          · refine .inr fun o ho => hother o ?_
            rw [← hrestarted, show (withPeers (presented rx p r s) (introduced rx.sender p r restarted (heard s rx))).handover =
              (introduced rx.sender p r restarted (heard s rx)).handover from rfl, handover_introduced hdark hrestarted hn] at ho
            exact ho
    · have hno : restarted = false := by
        rw [← Bool.not_eq_true, hrestart]
        exact hnot
      have hout : (withPeers (presented rx p r s) (introduced rx.sender p r restarted (heard s rx))).handover.outgoing =
          .offered o := by
        show (introduced rx.sender p r restarted (heard s rx)).handover.outgoing = _
        rw [handover_introduced hdark hno hn]
        exact ho
      have hheld : ∀ a, a < 32 → (withPeers (presented rx p r s)
          (introduced rx.sender p r restarted (heard s rx))).holds a = s.holds a := fun a ha =>
        (holds_introduced hdark hno hn ha).trans rfl
      have hlosing := losing_foldl (p := p) (hnode (presented rx p r s)) ht hout p.claims
      have hnumber : (p.claims.foldl (settled rx.sender p) (withPeers (presented rx p r s)
          (introduced rx.sender p r restarted (heard s rx)))).node.number ≠ some rx.sender := by
        rw [(foldl_settled_keeps _ _).node]
        exact hnode _
      have hend := hlosing.lastOut ht hnumber
      have hconcluded := concluded_foldl_settled hdark (hnode (presented rx p r s)) ht hout p.claims
      rw [← hv'] at hconcluded
      have hsame : v.holds = (p.claims.foldl (settled rx.sender p) (withPeers (presented rx p r s)
          (introduced rx.sender p r restarted (heard s rx)))).holds := by
        rw [← holds_concluded rx.sender p (p.claims.foldl _ _), hconcluded]
        rfl
      rw [hrun, hconcluded]
      generalize p.claims.foldl (settled rx.sender p) _ = y at hend hsame hnumber ⊢
      rw [← hsame] at hend
      have hres' : (y.lossOut rx.sender).handover.lastOut = some ⟨o.number, o.target, res⟩ := by
        obtain ⟨hlast, hkept⟩ | ⟨hlast, ⟨b, hb, hw, hgone⟩, hall⟩ := hend
        · obtain ⟨-, ⟨b, hb, hw, hgone⟩, hall⟩ | ⟨rfl, -⟩ := hres
          · exfalso
            obtain hkept | ⟨b', hb', hoffered, hstands⟩ := hkept
            · exact absurd (hkept b hb ((hheld b hb).trans hw)) (by rw [hgone]; exact Bool.false_ne_true)
            · obtain ⟨hw', hgone'⟩ := hall b' hb' hoffered
              rw [hheld b' hb', hw', hgone'] at hstands
              exact hstands.elim nofun nofun
          · exact hlast
        · obtain ⟨rfl, -⟩ | ⟨-, hkept⟩ := hres
          · exact hlast
          · exfalso
            rw [hheld b hb] at hw
            obtain hkept | ⟨b', hb', hoffered, hstands⟩ := hkept
            · exact absurd (hkept b hb hw) (by rw [hgone]; exact Bool.false_ne_true)
            · obtain ⟨hw', hgone'⟩ := hall b' hb' hoffered
              rw [hheld b' hb'] at hw'
              rw [hw', hgone'] at hstands
              exact hstands.elim nofun nofun
      rw [hres']
      rfl
  case orphans =>
    have hcase' : p.dark = true ∨ restarted = true := hcase.imp id hrestart.mpr
    have hintro : (introduced rx.sender p r restarted (heard s rx)).node.number ≠ some rx.sender := by
      rw [node_introduced]
      exact hn
    rw [hclaims, List.foldl_nil, concluded_withPeers hintro, concluded_introduced hn hcase'] at hrun
    have hstart : (restartFlags r p restarted (heard s rx)).node.number ≠ some rx.sender := by
      rw [node_restartFlags]
      exact hn
    have horphaned := orphanedIn_orphanAll hstart
    have hareas : ∀ a, a < 32 → ((restartFlags r p restarted (heard s rx)).orphanAll rx.sender).area a =
        orphaned rx.sender s.clock.now (s.area a) := by
      intro a ha
      rw [area_orphanAll hstart ha, restartFlags_ported]
      rfl
    have hnext : ((restartFlags r p restarted (heard s rx)).orphanAll rx.sender).node.number ≠ some rx.sender := by
      rw [show ((restartFlags r p restarted (heard s rx)).orphanAll rx.sender).node =
        (restartFlags r p restarted (heard s rx)).node by simp]
      exact hstart
    have htold := lossNotice_told hnext
    have hflags : ∀ f, ((((restartFlags r p restarted (heard s rx)).orphanAll rx.sender).lossNotice rx.sender).latchIf
        (s.badgeClash p) .badgeTwice).flagSet f = true ↔ s.flagSet f = true ∨ Latches s rx.sender r p f := by
      intro f
      refine flags_iff hrestart ?_
      have hhandover := handover_orphanAll hstart
      rw [handover_restartFlags] at hhandover
      have hport : ((restartFlags r p restarted (heard s rx)).orphanAll rx.sender).port =
          (restartFlags r p restarted (heard s rx)).port := by
        have hframe := horphaned.frame
        generalize (restartFlags r p restarted (heard s rx)).orphanAll rx.sender = u at hframe ⊢
        rw [hframe]
        rfl
      rw [flagSet_lossNotice hnext, flagSet_congr hport]
      refine or_congr_right (and_congr_right fun _ => ?_)
      rw [OffersWith, hhandover]
      exact (and_iff_right hcase).symm
    obtain ⟨first, hstate⟩ : ∃ first, restartFlags r p restarted (heard s rx) =
        ported (portWith first s.port) (heard s rx) :=
      ⟨_, restartFlags_ported _⟩
    rw [hstate] at horphaned hareas htold hflags hrun
    have hframe := horphaned.frame
    have hpicture := horphaned.picture
    generalize (ported (portWith first s.port) (heard s rx)).orphanAll rx.sender = u at hrun hareas htold hflags hframe hpicture
    obtain ⟨later, hlater⟩ : ∃ later, (u.lossNotice rx.sender).latchIf (s.badgeClash p) .badgeTwice =
        ported (portWith later (u.lossNotice rx.sender).port) (u.lossNotice rx.sender) := ⟨_, latchIf_ported _ _ _⟩
    have hold := htold.frame
    rw [show (heard s rx).badgeClash p = s.badgeClash p from rfl, hlater] at hrun
    rw [hlater] at hflags
    generalize u.lossNotice rx.sender = v at hrun htold hflags hold
    have hhandover : u.handover = s.handover := (congrArg State.handover hframe :)
    have htx : u.tx = s.tx := (congrArg State.tx hframe :)
    have harea : ∀ a, v.area a = u.area a := fun a => congrArg (fun l : List Area => l.getD a .initial)
      (congrArg State.areas hold :)
    obtain ⟨hframe', hoffered, hunoffered, hreceived, hkept, -, -⟩ := htold
    rw [hhandover, htx] at hoffered hunoffered
    rw [hhandover] at hreceived hkept
    refine ⟨_, hrun, ?_, hflags, fun hs => ?_, fun o ho ht => ?_, hunoffered, fun o g hin ho => ?_, hkept, fun a ha =>
      ⟨fun b hb => ?_, fun hno => ?_⟩⟩
    · rw [hold, hframe]
      rfl
    · have hpic := hpicture (annunciatorSound_of_view hs rfl)
      have hvu : v.picture = u.picture := (congrArg State.picture hold :)
      show v.picture = _
      rw [hvu, hpic, hold]
      rfl
    · obtain ⟨hidle, hlast, -, hurgent⟩ := hoffered o ho ht
      exact ⟨hidle, hlast, hurgent⟩
    · obtain ⟨hidle, hlast, -⟩ := hreceived o g hin ho
      exact ⟨hidle, hlast⟩
    · exact (harea a).trans ((hareas a ha).trans (orphaned_held _ hb))
    · exact (harea a).trans ((hareas a ha).trans (orphaned_other _ hno))

end Sys2Proof.Answers

/-! PROOF. Reception of frames that no block applies, or that come from a new or returning peer, and what a frame does to
the lines (9.6, 9.7, 10.4, 10.7). -/

namespace Sys2Proof.Answers

open Sys2Proof.Machine Sys2Proof.Claims Sys2Proof.Keep

variable {s t u : State} {rx : Rx} {f : Frame} {n : Station} {r : PeerRecord}

/-! ### The parts of a reception -/

/-- What both lines do with their copies. -/
def linesDelivered (rx : Rx) (s : State) : State := (s.lineDelivers .a rx.copyA).lineDelivers .b rx.copyB

/-- What follows the lines: the sequence filter, and the frame as accepted (R141). -/
def sifted (rx : Rx) (known : Bool) (x : Option Frame) (s : State) : State :=
  if known && stationOk rx.sender then
    if s.lastSeq rx.sender == some rx.seq then s else (s.noteSeq rx.sender rx.seq).accepted rx x
  else s

theorem receive_sifted (hreceives : s.node.mode.receives = true) (hgood : anyGood rx = true)
    (hecho : s.isEcho rx = false) (known : Bool) (x : Option Frame) :
    s.receive rx known x = sifted rx known x (linesDelivered rx s) := by
  unfold State.receive
  rw [hreceives, hgood, hecho]
  rfl

theorem receive_off (h : s.node.mode.receives = false ∨ anyGood rx = false) (known : Bool) (x : Option Frame) :
    s.receive rx known x = s := by
  refine if_neg ?_
  rcases h with h | h <;> rw [h] <;> simp

theorem isEcho_other (h : s.node.number ≠ some rx.sender) : s.isEcho rx = false := by
  rw [State.isEcho, (isOwn_eq_false_iff s _).mpr h]
  rfl

theorem isEcho_idle (h : s.bus.sending = none) : s.isEcho rx = false := by
  rw [State.isEcho, h]
  exact Bool.and_false _

theorem anyGood_a (h : rx.copyA = .good) : anyGood rx = true := by
  rw [anyGood, h]
  rfl

theorem linesDelivered_good (hA : rx.copyA = .good) (hB : rx.copyB = .good) (hsoundA : Sound s.bus.lineA)
    (hsoundB : Sound s.bus.lineB) : linesDelivered rx s = linesHeard s := by
  rw [linesDelivered, hA, hB]
  exact linesDeliver_good hsoundA hsoundB

/-- A kind or a sender that is none counts for the lines alone (R132). -/
theorem sifted_unknown (known : Bool) (x : Option Frame) (h : (known && stationOk rx.sender) = false) :
    sifted rx known x s = s := if_neg (by rw [h]; exact Bool.false_ne_true)

/-- A repeated sequence counts for the lines alone (R141). -/
theorem sifted_repeated (known : Bool) (x : Option Frame) (h : s.lastSeq rx.sender = some rx.seq) :
    sifted rx known x s = s := by
  have hsame : (s.lastSeq rx.sender == some rx.seq) = true := beq_iff_eq.mpr h
  unfold sifted
  rw [hsame]
  split <;> rfl

theorem sifted_fresh (x : Option Frame) (hok : stationOk rx.sender = true) (h : s.lastSeq rx.sender ≠ some rx.seq) :
    sifted rx true x s = (s.noteSeq rx.sender rx.seq).accepted rx x := by
  have hnew : (s.lastSeq rx.sender == some rx.seq) = false := beq_eq_false_iff_ne.mpr h
  unfold sifted
  rw [hok, hnew]
  rfl

theorem exec_malformedFrame (rx : Rx) (kind : Byte) (body : List Byte) (s : State) :
    exec (.malformedFrame rx kind body) s = .next (s.receive rx (kindOk kind) (decodeFrame kind body)) := rfl

theorem exec_duplicateFrame (q : Byte) (a b : Copy) (s : State) :
    exec (.duplicateFrame q a b) s = .next (s.receive ⟨s.own, q, a, b⟩ true none) := rfl

theorem exec_pictureRequest (rx : Rx) (s : State) :
    exec (.pictureRequest rx) s = .next (s.receive rx true (wellFormedFrame .pictureRequest)) := rfl

theorem kindOk_iff (kind : Byte) : kindOk kind = true ↔ 1 ≤ kind.toNat ∧ kind.toNat ≤ 14 := by
  rw [kindOk, Bool.and_eq_true, decide_eq_true_eq, decide_eq_true_eq]

theorem kindOk_none {kind : Byte} (h : kind = 0x00 ∨ 0x0E < kind.toNat) : kindOk kind = false := by
  rw [Bool.eq_false_iff]
  intro hok
  obtain ⟨hlow, hhigh⟩ := (kindOk_iff kind).mp hok
  rcases h with rfl | h
  · exact absurd hlow (by decide)
  · omega

/-- The state after the lines alone have heard a frame, as the statements write it. -/
theorem linesHeard_eq (s : State) (rx : Rx) :
    { s with bus := { (heard s rx).bus with lastSeq := s.bus.lastSeq } } = linesHeard s := rfl

/-- A frame that only the lines take, from a sender with another number. -/
theorem receive_linesOnly (hreceives : s.node.mode.receives = true) (hA : rx.copyA = .good) (hB : rx.copyB = .good)
    (hsoundA : Sound s.bus.lineA) (hsoundB : Sound s.bus.lineB) (hother : s.node.number ≠ some rx.sender)
    (known : Bool) (x : Option Frame)
    (h : (known && stationOk rx.sender) = false ∨ s.lastSeq rx.sender = some rx.seq) :
    s.receive rx known x = linesHeard s := by
  rw [receive_sifted hreceives (anyGood_a hA) (isEcho_other hother), linesDelivered_good hA hB hsoundA hsoundB]
  rcases h with h | h
  · exact sifted_unknown known x h
  · exact sifted_repeated known x (s := linesHeard s) h

/-! ### This station's own number from another transmitter (R159) -/

/-- The bus after a good copy on both lines, with the sequence stored. -/
def busHeard (s : State) (rx : Rx) : State := (linesHeard s).noteSeq rx.sender rx.seq

theorem receive_duplicate (hreceives : s.node.mode.receives = true) (hA : rx.copyA = .good) (hB : rx.copyB = .good)
    (hsoundA : Sound s.bus.lineA) (hsoundB : Sound s.bus.lineB) (hown : s.node.number = some rx.sender)
    (hok : stationOk rx.sender = true) (hidle : s.bus.sending = none) (hfresh : s.lastSeq rx.sender ≠ some rx.seq)
    (x : Option Frame) : s.receive rx true x = (busHeard s rx).duplicateSeen := by
  have hmine : (busHeard s rx).isOwn rx.sender = true := by
    rw [isOwn_iff, busHeard, State.noteSeq, if_pos hok]
    exact hown
  rw [receive_sifted hreceives (anyGood_a hA) (isEcho_idle hidle), linesDelivered_good hA hB hsoundA hsoundB,
    sifted_fresh (s := linesHeard s) x hok hfresh]
  exact if_pos hmine

theorem busHeard_eq (hok : stationOk rx.sender = true) : busHeard s rx = { s with bus := { s.bus with
    lineA := { s.bus.lineA with heard := true }, lineB := { s.bus.lineB with heard := true }
    lastSeq := s.bus.lastSeq.set (rx.sender.toNat - 1) (some rx.seq) } } := if_pos hok

theorem duplicateSeen_joining (h : s.node.mode = .joining) : s.duplicateSeen =
    { s with node := { s.node with mode := .mute }, port := flagged s .duplicateStation } := by
  unfold State.duplicateSeen
  rw [h]
  rfl

theorem duplicateSeen_mute (h : s.node.mode = .mute) : s.duplicateSeen =
    { s with port := flagged s .duplicateStation } := by
  unfold State.duplicateSeen
  rw [h]
  rfl

theorem duplicateSeen_active (h : s.node.mode = .active) (hp : s.tx.presence = none) (hnext : s.tx.nextPresence = none) :
    s.duplicateSeen = { s with
      node := { s.node with reports := { s.node.reports with duplicateSeen := true } }
      port := flagged s .duplicateStation } := by
  have hqueue : { s.tx with presence := none, nextPresence := none } = s.tx := by
    cases htx : s.tx
    rw [htx] at hp hnext
    dsimp only at hp hnext
    rw [hp, hnext]
  unfold State.duplicateSeen
  rw [h]
  show State.setReport _ _ = _
  unfold State.setReport State.latch
  dsimp only
  rw [hp, hnext]
  dsimp only [Option.map_none]
  rw [hqueue]
  rfl

/-! ### Tracking (R154, R155) -/

/-- A fresh frame of another station good on both lines is tracked, and a well-formed one goes to its owner. -/
theorem receive_arrives (h : Arrives s rx) (x : Option Frame) : s.receive rx true x =
    x.elim ((busHeard s rx).track rx.sender)
      (((busHeard s rx).track rx.sender).applyFrame rx.sender (s.peer rx.sender)) := by
  have hok : stationOk rx.sender = true := (stationOk_iff _).mpr ⟨h.low, h.high⟩
  have hother : (busHeard s rx).isOwn rx.sender = false := by
    rw [isOwn_eq_false_iff, busHeard, State.noteSeq, if_pos hok]
    exact h.other
  have hpeer : (busHeard s rx).peer rx.sender = s.peer rx.sender := by
    rw [busHeard, State.noteSeq, if_pos hok]
    rfl
  rw [receive_sifted h.receives (anyGood_a h.copyA) (isEcho_other h.other),
    linesDelivered_good h.copyA h.copyB h.lineA h.lineB, sifted_fresh (s := linesHeard s) x hok h.fresh]
  show (busHeard s rx).accepted rx x = _
  unfold State.accepted
  rw [hother, hpeer]
  cases x <;> rfl

theorem setPeer_known (hok : stationOk n = true) (r : PeerRecord) :
    s.setPeer n r = { s with peers := s.peers.set (n.toNat - 1) (some r) } := if_pos hok

theorem track_new (hok : stationOk n = true) (h : s.peer n = none) :
    s.track n = { s with
      peers := s.peers.set (n.toNat - 1) (some ⟨.present, 0, none, .none, .notCompared, none, none⟩)
      port := flagged s .peerChange } := by
  unfold State.track
  rw [h]
  dsimp only
  rw [setPeer_known hok]
  rfl

theorem track_lost (h : s.peer n = some r) (hlost : r.state = .lost) :
    s.track n = { s with
      peers := s.peers.set (n.toNat - 1) (some { r with state := .present, silence := 0 })
      port := flagged s .peerChange } := by
  have hcount : silenceAfter r = 0 := by rw [silenceAfter, hlost]; rfl
  unfold State.track
  rw [h]
  dsimp only
  rw [hcount, hlost, setPeer_known (peer_inRange h).1]
  rfl

/-- A PRESENT peer at a silence count of 3 is taken before the second event that counts it (log entry 10). -/
theorem track_overdue (h : s.peer n = some r) (hpresent : r.state = .present) (hsilence : r.silence = 3) :
    s.track n = { s with peers := s.peers.set (n.toNat - 1) (some { r with silence := 1 }) } := by
  have hcount : silenceAfter r = 1 := by rw [silenceAfter, hpresent, hsilence]; rfl
  unfold State.track
  rw [h]
  dsimp only
  rw [hcount, ← hpresent, setPeer_known (peer_inRange h).1, hpresent]
  rfl

theorem peer_busHeard (hok : stationOk rx.sender = true) (m : Station) : (busHeard s rx).peer m = s.peer m := by
  rw [busHeard_eq hok]
  rfl

/-- Tracking sees of the state before the frame only the peer table and the flags. -/
theorem busHeard_with (hok : stationOk rx.sender = true) (peers : List (Option PeerRecord)) (port : Port) :
    { busHeard s rx with peers := peers, port := port } = { heard s rx with peers := peers, port := port } := by
  rw [busHeard_eq hok]
  rfl

end Sys2Proof.Answers

/-! PROOF. Well-formed frames of a new or returning peer, and the marks of the lines (9.7, 10.4). -/

namespace Sys2Proof.Answers

open Sys2Proof.Machine Sys2Proof.Claims Sys2Proof.Keep

variable {s t u : State} {rx : Rx} {f : Frame} {n : Station} {r : PeerRecord}

/-! ### A new or returning peer -/

theorem arrives_peered (h : Arrives s rx) (r : PeerRecord) : Arrives (peered s rx r) rx :=
  ⟨h.receives, h.copyA, h.copyB, h.low, h.high, h.other, h.fresh, h.lineA, h.lineB⟩

theorem peer_peered (hok : stationOk rx.sender = true) (hlt : rx.sender.toNat - 1 < s.peers.length) :
    (peered s rx r).peer rx.sender = some r := by
  rw [State.peer, if_pos hok]
  show (s.peers.set (rx.sender.toNat - 1) (some r)).getD _ _ = _
  simp [List.getD_eq_getElem?_getD, hlt]

theorem peer_peered_beyond (hlt : ¬ rx.sender.toNat - 1 < s.peers.length) : (peered s rx r).peer rx.sender = none := by
  rw [State.peer]
  split
  · show (s.peers.set (rx.sender.toNat - 1) (some r)).getD _ _ = _
    simp [List.getD_eq_getElem?_getD, hlt]
  · rfl

theorem hears_peered (h : Arrives s rx) (hlt : rx.sender.toNat - 1 < s.peers.length) (hpresent : r.state = .present)
    (hsilence : r.silence = 0) : Hears (peered s rx r) rx :=
  ⟨h.receives, h.copyA, h.copyB, h.low, h.high, h.other, h.fresh, h.lineA, h.lineB,
    r, peer_peered ((stationOk_iff _).mpr ⟨h.low, h.high⟩) hlt, hpresent, by omega⟩

/-- A peer that is in its record already is tracked without a change; beyond the peer table there is no record. -/
theorem track_peered (hok : stationOk rx.sender = true) (hpresent : r.state = .present) (hsilence : r.silence = 0)
    (hbeyond : ¬ rx.sender.toNat - 1 < s.peers.length → r = ⟨.present, 0, none, .none, .notCompared, none, none⟩) :
    (busHeard (peered s rx r) rx).track rx.sender = busHeard (peered s rx r) rx := by
  by_cases hlt : rx.sender.toNat - 1 < s.peers.length
  · have hr : (busHeard (peered s rx r) rx).peer rx.sender = some r := by
      rw [peer_busHeard hok, peer_peered hok hlt]
    have hsame : { r with silence := 0 } = r := by rw [← hsilence]
    rw [track_present hr hpresent (by omega), hsame, setPeer_known hok, busHeard_eq hok]
    dsimp only [peered]
    rw [List.set_set]
  · have hnone : (busHeard (peered s rx r) rx).peer rx.sender = none := by
      rw [peer_busHeard hok, peer_peered_beyond hlt]
    rw [track_new hok hnone, busHeard_eq hok, hbeyond hlt]
    dsimp only [peered, flagged, plus]
    rw [List.set_set, BitVec.or_assoc, BitVec.or_self]

/-- The record before a frame is looked at by a presence alone, for its restart test (R157). -/
theorem applyFrame_before {b c : Option PeerRecord} (m : Station) (s : State)
    (h : ∀ p, f = .presence p → restartedPeer b p = restartedPeer c p) : s.applyFrame m b f = s.applyFrame m c f := by
  cases f with
  | presence p =>
    show (if s.isOwn m then _ else s.applyPresence m p b) = (if s.isOwn m then _ else s.applyPresence m p c)
    unfold State.applyPresence
    rw [h p rfl]
  | alarmChange | ack | shelve | unshelve | claim | take | offer | answer | commit | withdraw | pictureRequest | picture
    | pictureEnd => rfl

/-- A peer that was LOST, or whose last mark is not "no", does not restart (R157). -/
theorem restartedPeer_lost (h : r.state = .lost) (p : PresenceBody) : restartedPeer (some r) p = false := by
  rw [restartedPeer, Option.any_some, h]
  exact Bool.and_false _

theorem restartedPeer_unmarked (h : r.mark = .none) (p : PresenceBody) : restartedPeer (some r) p = false := by
  have hmark : (LastMark.none == LastMark.no) = false := rfl
  rw [restartedPeer, Option.any_some, h, hmark, Bool.and_false, Bool.and_false]

theorem restartedPeer_none (p : PresenceBody) : restartedPeer none p = false := by
  rw [restartedPeer, Option.any_none, Bool.and_false]

theorem hear_arrives (h : Arrives s rx) (hfits : frameFits f = true) :
    s.hear rx f = ((busHeard s rx).track rx.sender).applyFrame rx.sender (s.peer rx.sender) f := by
  have hframe : wellFormedFrame f = some f := if_pos hfits
  rw [State.hear, hframe]
  exact receive_arrives h (some f)

/-- A frame of a station not heard before is taken as from the PRESENT peer that it becomes. -/
theorem hear_new (h : Arrives s rx) (hfits : frameFits f = true) (hnone : s.peer rx.sender = none)
    (hr : r = ⟨.present, 0, none, .none, .notCompared, none, none⟩) :
    s.hear rx f = (peered s rx r).hear rx f := by
  have hok : stationOk rx.sender = true := (stationOk_iff _).mpr ⟨h.low, h.high⟩
  have htracked : (busHeard s rx).track rx.sender = busHeard (peered s rx r) rx := by
    rw [track_new hok ((peer_busHeard hok _).trans hnone), busHeard_eq hok, busHeard_eq hok, hr]
    rfl
  have hpresent : r.state = .present := by rw [hr]
  have hsilence : r.silence = 0 := by rw [hr]
  rw [hear_arrives h hfits, hear_arrives (arrives_peered h r) hfits, track_peered hok hpresent hsilence (fun _ => hr),
    htracked]
  refine applyFrame_before _ _ fun p _ => ?_
  rw [hnone, restartedPeer_none]
  by_cases hlt : rx.sender.toNat - 1 < s.peers.length
  · rw [peer_peered hok hlt, restartedPeer_unmarked (by rw [hr])]
  · rw [peer_peered_beyond hlt, restartedPeer_none]

theorem takePresence_flags (hok : stationOk n = true) (p : PresenceBody) (b : Bool) (r : PeerRecord) (s : State) :
    s.takePresence n p b r =
      if b then ((((presenceFlags r p (s.setPeer n (r.withPresence p s.node.digest s.clock.millTime))).latch
        .peerChange).orphanAll n).lossNotice n)
      else presenceFlags r p (s.setPeer n (r.withPresence p s.node.digest s.clock.millTime)) := by
  rw [setPeer_known hok]
  unfold State.takePresence
  rw [setPeer_known hok]
  rfl

theorem presenceFlags_remarked (r : PeerRecord) (k : LastMark) (p : PresenceBody) (s : State) :
    presenceFlags { r with mark := k } p s = presenceFlags r p s := rfl

/-- A presence replaces the mark of the record that tracking left. -/
theorem applyPresence_remarked {b : Option PeerRecord} {k : LastMark} (hr : s.peer n = some r)
    (p : PresenceBody) : s.applyPresence n p b = (s.setPeer n { r with mark := k }).applyPresence n p b := by
  have hok := (peer_inRange hr).1
  have hset : (s.setPeer n { r with mark := k }).setPeer n (PeerRecord.withPresence { r with mark := k } p
      (s.setPeer n { r with mark := k }).node.digest (s.setPeer n { r with mark := k }).clock.millTime) =
      s.setPeer n (r.withPresence p s.node.digest s.clock.millTime) := by
    rw [setPeer_known hok, setPeer_known hok, setPeer_known hok]
    dsimp only
    rw [List.set_set]
    rfl
  have htake : (s.setPeer n { r with mark := k }).takePresence n p (restartedPeer b p) { r with mark := k } =
      s.takePresence n p (restartedPeer b p) r := by
    rw [takePresence_flags hok, takePresence_flags hok, hset, presenceFlags_remarked]
  unfold State.applyPresence
  rw [hr, peer_setPeer_self hr]
  dsimp only
  rw [htake]

/-- A frame of a LOST peer is taken as from the PRESENT peer that it becomes; its join mark makes no restart (R157). -/
theorem hear_returning {r0 : PeerRecord} (h : Arrives s rx) (hfits : frameFits f = true)
    (hr0 : s.peer rx.sender = some r0) (hlost : r0.state = .lost)
    (hr : r = { r0 with state := .present, silence := 0, mark := if frameKind f = 0x01 then .none else r0.mark }) :
    s.hear rx f = (peered s rx r).hear rx f := by
  obtain ⟨hok, hlt⟩ := peer_inRange hr0
  have hpresent : r.state = .present := by rw [hr]
  have hsilence : r.silence = 0 := by rw [hr]
  have hpeer : (busHeard s rx).peer rx.sender = some r0 := (peer_busHeard hok _).trans hr0
  have htracked : (busHeard s rx).track rx.sender =
      busHeard (peered s rx { r0 with state := .present, silence := 0 }) rx := by
    rw [track_lost hpeer hlost, busHeard_eq hok, busHeard_eq hok]
    rfl
  rw [hear_arrives h hfits, hear_arrives (arrives_peered h r) hfits, track_peered hok hpresent hsilence (absurd hlt),
    htracked, hr0, peer_peered hok hlt]
  have hback : (busHeard (peered s rx { r0 with state := .present, silence := 0 }) rx).peer rx.sender =
      some { r0 with state := .present, silence := 0 } := by rw [peer_busHeard hok, peer_peered hok hlt]
  cases f with
  | presence p =>
    have hmark : r = { r0 with state := .present, silence := 0, mark := .none } := hr
    have hremarked : busHeard (peered s rx r) rx =
        (busHeard (peered s rx { r0 with state := .present, silence := 0 }) rx).setPeer rx.sender
          { r0 with state := .present, silence := 0, mark := .none } := by
      rw [setPeer_known hok, busHeard_eq hok, busHeard_eq hok, hmark]
      dsimp only [peered, flagged]
      rw [List.set_set]
    have hsame := applyPresence_remarked (b := some r0) (k := .none) hback p
    have hbefore : ∀ x : State, x.applyFrame rx.sender (some r0) (.presence p) =
        x.applyFrame rx.sender (some r) (.presence p) := fun x =>
      applyFrame_before _ _ fun q _ => by
        rw [restartedPeer_lost hlost, restartedPeer_unmarked (by rw [hmark])]
    rw [← hbefore, hremarked]
    show (if State.isOwn _ _ = true then _ else _) = (if State.isOwn _ _ = true then _ else _)
    rw [← hsame]
    have hother : ∀ x : State, x.node = s.node → x.isOwn rx.sender = false := fun x hx => by
      rw [isOwn_eq_false_iff, hx]
      exact h.other
    rw [hother _ (by rw [busHeard_eq hok]; rfl), hother _ (by rw [setPeer_known hok, busHeard_eq hok]; rfl)]
    rfl
  | alarmChange | ack | shelve | unshelve | claim | take | offer | answer | commit | withdraw | pictureRequest | picture
    | pictureEnd =>
    rw [show r = { r0 with state := .present, silence := 0 } from hr]
    exact applyFrame_before _ _ fun p hp => by cases hp

/-! ### The lines (R143, R144) -/

theorem hear_lines {a b : Rx} (hmode : s.node.mode.receives = true) (hother : s.node.number ≠ some a.sender)
    (hnode : t.node.mode = s.node.mode ∧ t.node.number = s.node.number) (hsender : b.sender = a.sender) (hseq : b.seq = a.seq)
    (hgoodA : anyGood a = true) (hgoodB : anyGood b = true) (hlines : linesDelivered a s = linesDelivered b t) :
    s.hear a f = t.hear b f := by
  obtain ⟨hm, hnum⟩ := hnode
  rw [State.hear, State.hear, receive_sifted hmode hgoodA (isEcho_other hother),
    receive_sifted (hm ▸ hmode) hgoodB (isEcho_other (by rw [hnum, hsender]; exact hother)), hlines]
  unfold sifted State.accepted
  rw [hsender, hseq]

theorem markLine_eq {l : LineName} (h : (s.line l).silentDue = false) : s.markLine l = marked s l := by
  have hsame : s.silenceLine l = s := if_neg (by rw [h]; exact Bool.false_ne_true)
  unfold State.markLine
  rw [hsame]
  unfold State.setLineState marked
  cases hstate : (s.line l).state <;> cases l <;> rfl

theorem goodCopyOn_sounding {l : LineName} (h : (s.line l).silentDue = false) (hs : (s.line l).state ≠ .silent) :
    s.goodCopyOn l = s.setLine l { s.line l with heard := true } := by
  have hsame : s.silenceLine l = s := if_neg (by rw [h]; exact Bool.false_ne_true)
  unfold State.goodCopyOn
  rw [hsame]
  dsimp only
  cases hstate : (s.line l).state with
  | silent => exact absurd hstate hs
  | good => rfl
  | disturbed x => rfl

theorem goodCopyOn_silent {l : LineName} (h : (s.line l).silentDue = false) (hs : (s.line l).state = .silent) :
    s.goodCopyOn l =
      (s.setLine l { s.line l with state := .good, quiet := 0, heard := true }).latch .lineFault := by
  have hsame : s.silenceLine l = s := if_neg (by rw [h]; exact Bool.false_ne_true)
  unfold State.goodCopyOn
  rw [hsame]
  dsimp only
  rw [hs]
  have hchange : ((LineState.silent).code != (LineState.good).code) = true := rfl
  unfold State.setLineState
  rw [line_setLine]
  dsimp only
  rw [hchange]
  cases l <;> rfl

end Sys2Proof.Answers

/-! PROOF. Frames that no block applies, frames of new and returning peers, and the line marks: O54. -/

namespace Sys2Proof.Answers

open Sys2Proof.Machine Sys2Proof.Claims Sys2Proof.Keep

variable {s t u : State} {rx : Rx} {f : Frame} {n : Station} {r : PeerRecord} {kind : Byte} {body : List Byte}

/-! ### What no block applies -/

theorem malformed_unfit (h : Hears s rx) (hlow : 0x01 ≤ kind.toNat) (hhigh : kind.toNat ≤ 0x0E)
    (hbody : decodeFrame kind body = none) : exec (.malformedFrame rx kind body) s = .next (heard s rx) := by
  have hkind : kindOk kind = true := (kindOk_iff kind).mpr ⟨hlow, hhigh⟩
  rw [exec_malformedFrame, hkind, hbody, receive_heard h]
  rfl

theorem hears_linesOnly (h : Hears s rx) (known : Bool) (x : Option Frame)
    (hlines : (known && stationOk rx.sender) = false ∨ s.lastSeq rx.sender = some rx.seq) :
    s.receive rx known x = linesHeard s :=
  receive_linesOnly h.receives h.copyA h.copyB h.lineA h.lineB h.other known x hlines

/-- A repeated sequence counts for the lines alone, whatever the frame (R141). -/
theorem repeated_linesOnly {q : Byte} (h : Hears s ⟨rx.sender, q, rx.copyA, rx.copyB⟩)
    (hrepeated : s.lastSeq rx.sender = some rx.seq) (known : Bool) (x : Option Frame) :
    s.receive rx known x = linesHeard s :=
  receive_linesOnly (rx := rx) h.receives h.copyA h.copyB h.lineA h.lineB h.other known x (.inr hrepeated)

theorem receives_off (h : s.node.mode = .config ∨ s.node.mode = .ready ∨ (rx.copyA ≠ .good ∧ rx.copyB ≠ .good)) :
    s.node.mode.receives = false ∨ anyGood rx = false := by
  rcases h with h | h | ⟨hA, hB⟩
  · exact .inl (by rw [h]; rfl)
  · exact .inl (by rw [h]; rfl)
  · refine .inr ?_
    rw [anyGood, beq_eq_false_iff_ne.mpr hA, beq_eq_false_iff_ne.mpr hB]
    rfl

/-- This station's own number from another transmitter, while JOINING, MUTE and ACTIVE (R159). -/
theorem duplicate_outcome {q : Byte} (hreceives : s.node.mode.receives = true) (hn : s.node.number = some n)
    (hlow : 1 ≤ n.toNat) (hhigh : n.toNat ≤ 16) (hidle : s.bus.sending = none) (hfresh : s.lastSeq n ≠ some q)
    (hsoundA : Sound s.bus.lineA) (hsoundB : Sound s.bus.lineB) :
    exec (.duplicateFrame q .good .good) s = .next (busHeard s ⟨n, q, .good, .good⟩).duplicateSeen := by
  rw [exec_duplicateFrame, own_of_number hn,
    receive_duplicate (rx := ⟨n, q, .good, .good⟩) hreceives rfl rfl hsoundA hsoundB hn ((stationOk_iff n).mpr ⟨hlow, hhigh⟩)
      hidle hfresh]

/-- What reaches no block of another station that is new, LOST or about to be counted LOST is tracked (R155). -/
theorem unapplied_tracked {c : Instr} (h : Arrives s rx)
    (hc : (∃ f, frameFits f = false ∧ c = received rx f) ∨
      (1 ≤ kind.toNat ∧ kind.toNat ≤ 0x0E ∧ decodeFrame kind body = none ∧ c = .malformedFrame rx kind body)) :
    exec c s = .next ((busHeard s rx).track rx.sender) := by
  rcases hc with ⟨f, hfits, rfl⟩ | ⟨hlow, hhigh, hbody, rfl⟩
  · have hframe : wellFormedFrame f = none := if_neg (by rw [hfits]; exact Bool.false_ne_true)
    rw [exec_received, State.hear, hframe, receive_arrives h]
    rfl
  · have hkind : kindOk kind = true := (kindOk_iff kind).mpr ⟨hlow, hhigh⟩
    rw [exec_malformedFrame, hkind, hbody, receive_arrives h]
    rfl

/-! ### The lines -/

theorem copyA_bad (h : s.bus.lineA.silentDue = false) :
    (s.lineDelivers .a .bad).lineDelivers .b .good = ((marked s .a).lineDelivers .a .absent).lineDelivers .b .good := by
  show (s.markLine .a).goodCopyOn .b = (marked s .a).goodCopyOn .b
  rw [markLine_eq (l := .a) h]

/-- LINE_FAULT stays latched when a line is marked. -/
theorem marked_latch (s : State) (l : LineName) : marked (s.latch .lineFault) l = (marked s l).latch .lineFault := by
  have hset : ∀ x y : BitVec 24, ∀ p : Prop, [Decidable p] →
      (if p then x ||| y else (x ||| y) ||| y) = (if p then x else x ||| y) ||| y := by
    intro x y p _
    split <;> rfl
  have hattention := hset s.port.attention (BitVec.twoPow 24 Flag.lineFault.bit) ((s.line l).state.code = 1)
  cases l with
  | a | b =>
    unfold marked
    exact congrArg (fun x => State.mk _ _ _ _ _ _ _ _ _ _ _ _ { s.port with attention := x } _ _ _) hattention

theorem copyB_bad (hA : s.bus.lineA.silentDue = false) (hB : s.bus.lineB.silentDue = false) :
    (s.lineDelivers .a .good).lineDelivers .b .bad = ((marked s .b).lineDelivers .a .good).lineDelivers .b .absent := by
  show (s.goodCopyOn .a).markLine .b = (marked s .b).goodCopyOn .a
  by_cases hsilent : (s.line .a).state = .silent
  · rw [goodCopyOn_silent (l := .a) hA hsilent, goodCopyOn_silent (s := marked s .b) (l := .a) hA hsilent]
    refine (markLine_eq (l := .b) ?_).trans ?_
    · exact hB
    exact (marked_latch _ .b).trans rfl
  · rw [goodCopyOn_sounding (l := .a) hA hsilent, goodCopyOn_sounding (s := marked s .b) (l := .a) hA hsilent]
    refine (markLine_eq (l := .b) ?_).trans ?_
    · exact hB
    · rfl

/-- A state after line B has been heard. -/
def heardOnB (s : State) : State := { s with bus := { s.bus with lineB := { s.bus.lineB with heard := true } } }

/-- A state after a line has become GOOD again. -/
def wokenA (s : State) : State := { s with
  bus := { s.bus with lineA := { s.bus.lineA with state := .good, quiet := 0 } }, port := flagged s .lineFault }

def wokenB (s : State) : State := { s with
  bus := { s.bus with lineB := { s.bus.lineB with state := .good, quiet := 0 } }, port := flagged s .lineFault }

theorem copies_good (hA : s.bus.lineA.silentDue = false) (hB : s.bus.lineB.silentDue = false)
    (hsilent : s.bus.lineB.state ≠ .silent) :
    (s.lineDelivers .a .good).lineDelivers .b .good =
      ((heardOnB s).lineDelivers .a .good).lineDelivers .b .absent := by
  show (s.goodCopyOn .a).goodCopyOn .b = (heardOnB s).goodCopyOn .a
  by_cases hfirst : (s.line .a).state = .silent
  · rw [goodCopyOn_silent (l := .a) hA hfirst, goodCopyOn_silent (l := .a) (s := heardOnB s) hA hfirst]
    exact goodCopyOn_sounding (l := .b) hB hsilent
  · rw [goodCopyOn_sounding (l := .a) hA hfirst, goodCopyOn_sounding (l := .a) (s := heardOnB s) hA hfirst]
    exact goodCopyOn_sounding (l := .b) hB hsilent

theorem copyA_wakes (hA : s.bus.lineA.silentDue = false) (hsilent : s.bus.lineA.state = .silent) :
    s.goodCopyOn .a = (wokenA s).goodCopyOn .a := by
  have hnow : (LineState.good) ≠ .silent := fun h => by cases h
  rw [goodCopyOn_silent (l := .a) hA hsilent, goodCopyOn_sounding (l := .a) (s := wokenA s) hA hnow]
  rfl

theorem copyB_wakes (hB : s.bus.lineB.silentDue = false) (hsilent : s.bus.lineB.state = .silent) :
    s.goodCopyOn .b = (wokenB s).goodCopyOn .b := by
  have hnow : (LineState.good) ≠ .silent := fun h => by cases h
  rw [goodCopyOn_silent (l := .b) hB hsilent, goodCopyOn_sounding (l := .b) (s := wokenB s) hB hnow]
  rfl

/-- Settles O54: a reception is what the lines do with their copies, the sequence filter, the tracking of the sender and
the owner's part; each clause stops it at one of these, or compares it with a reception that has one of them behind it. -/
theorem unusableFramesChangeLittle : Obligations.UnusableFramesChangeLittle := by
  unfold Obligations.UnusableFramesChangeLittle
  refine fun s rx kind body => ⟨fun h hlow hhigh hbody => malformed_unfit h hlow hhigh hbody, fun h hkind => ?_,
    fun q h hrepeated => ⟨?_, ?_⟩, fun h => ⟨?_, ?_, ?_⟩, ?_, fun hmode hA hB hsA hsB hsender hother => ?_,
    fun c h hc => ⟨fun hnone => ?_, fun r hr hlost => ?_, fun r hr hpresent hsilence => ?_⟩,
    fun f r h hfits => ⟨fun hnone hr => ⟨?_, fun hlen => ?_⟩, fun r0 hr0 hlost hr => ⟨?_, ?_⟩⟩,
    fun f hmode hother hA hB => ⟨?_, ?_, fun hs => ?_, fun hs => ?_, fun hs => ?_⟩⟩
  case refine_1 =>
    rw [linesHeard_eq, exec_malformedFrame, kindOk_none hkind]
    exact congrArg _ (hears_linesOnly h false _ (.inl rfl))
  case refine_2 => exact congrArg _ (repeated_linesOnly h hrepeated _ _)
  case refine_3 => exact congrArg _ (repeated_linesOnly h hrepeated _ _)
  case refine_4 => exact congrArg _ (receive_off (receives_off h) _ _)
  case refine_5 => exact congrArg _ (receive_off (receives_off h) _ _)
  case refine_6 => exact congrArg _ (receive_off (rx := ⟨s.own, rx.seq, rx.copyA, rx.copyB⟩) (receives_off h) _ _)
  case refine_7 =>
    rintro q n bus hn hlow hhigh hidle hfresh hsA hsB rfl
    have hok : stationOk (⟨n, q, .good, .good⟩ : Rx).sender = true := (stationOk_iff n).mpr ⟨hlow, hhigh⟩
    have houtcome := fun hmode => duplicate_outcome hmode hn hlow hhigh hidle hfresh hsA hsB
    refine ⟨fun hj => ?_, fun hm => ?_, fun ha hp hnext => ?_⟩
    · rw [houtcome (by rw [hj]; rfl), duplicateSeen_joining (by rw [busHeard_eq hok]; exact hj), busHeard_eq hok]
      rfl
    · rw [houtcome (by rw [hm]; rfl), duplicateSeen_mute (by rw [busHeard_eq hok]; exact hm), busHeard_eq hok]
      rfl
    · rw [houtcome (by rw [show s.node.mode = .active from ha]; rfl),
        duplicateSeen_active (by rw [busHeard_eq hok]; exact ha) (by rw [busHeard_eq hok]; exact hp)
          (by rw [busHeard_eq hok]; exact hnext), busHeard_eq hok]
      rfl
  case refine_8 =>
    have hunknown : stationOk rx.sender = false := Bool.eq_false_iff.mpr fun hok => hsender ((stationOk_iff _).mp hok)
    exact congrArg _ (receive_linesOnly hmode hA hB hsA hsB hother _ _ (.inl (by rw [hunknown, Bool.and_false])))
  case refine_9 =>
    have hok : stationOk rx.sender = true := (stationOk_iff _).mpr ⟨h.low, h.high⟩
    rw [unapplied_tracked h hc, track_new hok ((peer_busHeard hok _).trans hnone), busHeard_eq hok]
    rfl
  case refine_10 =>
    have hok : stationOk rx.sender = true := (peer_inRange hr).1
    rw [unapplied_tracked h hc, track_lost ((peer_busHeard hok _).trans hr) hlost, busHeard_eq hok]
    rfl
  case refine_11 =>
    have hok : stationOk rx.sender = true := (peer_inRange hr).1
    rw [unapplied_tracked h hc, track_overdue ((peer_busHeard hok _).trans hr) hpresent hsilence, busHeard_eq hok]
    rfl
  case refine_12 =>
    rw [exec_received, exec_received]
    exact congrArg _ (hear_new h hfits hnone hr)
  case refine_13 =>
    have hlow := h.low
    exact hears_peered h (by omega) (by rw [hr]) (by rw [hr])
  case refine_14 =>
    rw [exec_received, exec_received]
    exact congrArg _ (hear_returning h hfits hr0 hlost hr)
  case refine_15 => exact hears_peered h (peer_inRange hr0).2 (by rw [hr]) (by rw [hr])
  case refine_16 =>
    rw [exec_received, exec_received]
    exact congrArg _ (hear_lines hmode hother ⟨rfl, rfl⟩ rfl rfl rfl rfl (copyA_bad hA))
  case refine_17 =>
    rw [exec_received, exec_received]
    exact congrArg _ (hear_lines hmode hother ⟨rfl, rfl⟩ rfl rfl rfl rfl (copyB_bad hA hB))
  case refine_18 =>
    rw [exec_received, exec_received]
    exact congrArg _ (hear_lines hmode hother ⟨rfl, rfl⟩ rfl rfl rfl rfl (copies_good hA hB hs))
  case refine_19 =>
    rw [exec_received, exec_received]
    exact congrArg _ (hear_lines hmode hother ⟨rfl, rfl⟩ rfl rfl rfl rfl (copyA_wakes hA hs))
  case refine_20 =>
    rw [exec_received, exec_received]
    exact congrArg _ (hear_lines hmode hother ⟨rfl, rfl⟩ rfl rfl rfl rfl (copyB_wakes hB hs))

end Sys2Proof.Answers

/-! PROOF. The access: the lowest class, the frame it builds, the sequence it takes, and the walk of a stream (9.3, 9.4,
11.3): O52. -/

namespace Sys2Proof.Answers

open Sys2Proof.Machine Sys2Proof.Claims Sys2Proof.Keep

variable {s : State} {n : Station} {slot : Nat} {f : TxFrame} {c : TxClass}

/-! ### The class that is offered, in the slot of its wait -/

theorem exec_accessStart (slot : BitVec 7) (s : State) : exec (.accessStart slot) s = .next (s.access slot.toNat) := rfl

theorem access_closed (h : ¬ Active s ∨ s.bus.sending ≠ none) : s.access slot = s := by
  refine if_neg ?_
  rw [Bool.and_eq_true, isActive_iff, Option.isNone_iff_eq_none]
  rintro ⟨hactive, hidle⟩
  exact h.elim (fun hn => hn hactive) (fun hn => hn hidle)

theorem wait_eq (hn : s.node.number = some n) (c : TxClass) : s.wait c = c.num * 16 + n.toNat := by
  rw [State.wait, own_of_number hn]

/-- An access in the slot of its wait starts the attempt of the class offered (R137). -/
theorem access_starts (hactive : Active s) (hidle : s.bus.sending = none) (hn : s.node.number = some n)
    (hc : s.offeredClass = some c) (hslot : slot = c.num * 16 + n.toNat) : s.access slot = s.startAttempt c := by
  have hopen : (s.isActive && s.bus.sending.isNone) = true := by rw [isActive_iff.mpr hactive, hidle]; rfl
  have hwait : (s.wait c == slot) = true := beq_iff_eq.mpr ((wait_eq hn c).trans hslot.symm)
  unfold State.access
  rw [hopen, hc]
  dsimp only
  rw [hwait]
  rfl

theorem access_otherSlot (hn : s.node.number = some n) (hc : s.offeredClass = some c)
    (hslot : slot ≠ c.num * 16 + n.toNat) : s.access slot = s := by
  have hwait : ¬ (s.wait c == slot) = true := fun h => hslot ((beq_iff_eq.mp h).symm.trans (wait_eq hn c))
  unfold State.access
  split
  · rw [hc]
    exact if_neg hwait
  · rfl

theorem offered_urgent {rest : List TxFrame} (h : s.tx.urgent = f :: rest) : s.offeredClass = some .urgent := by
  rw [State.offeredClass, h]
  rfl

theorem offered_change (hu : s.tx.urgent = []) (h : s.tx.changeFrame ≠ none ∨ s.tx.change ≠ []) :
    s.offeredClass = some .change := by
  have hnext : (s.tx.changeFrame.isSome || !s.tx.change.isEmpty) = true := by
    rw [Bool.or_eq_true, Option.isSome_iff_ne_none, Bool.not_eq_true', List.isEmpty_eq_false_iff]
    exact h
  rw [State.offeredClass, hu, hnext]
  rfl

theorem offered_presence (hu : s.tx.urgent = []) (hf : s.tx.changeFrame = none) (hc : s.tx.change = [])
    (hp : s.tx.presence ≠ none) : s.offeredClass = some .presence := by
  rw [State.offeredClass, hu, hf, hc, Option.isSome_iff_ne_none.mpr hp]
  rfl

theorem offered_picture (hu : s.tx.urgent = []) (hf : s.tx.changeFrame = none) (hc : s.tx.change = [])
    (hp : s.tx.presence = none) (h : s.tx.pictureFrame ≠ none ∨ s.transfer.serving ≠ .idle) :
    s.offeredClass = some .picture := by
  have hnext : (s.tx.pictureFrame.isSome || s.transfer.serving != .idle) = true := by
    rw [Bool.or_eq_true, Option.isSome_iff_ne_none, bne_iff_ne]
    exact h
  rw [State.offeredClass, hu, hf, hc, hp, hnext]
  rfl

/-! ### The attempt (R136) -/

/-- The counter after a frame has taken its sequence. -/
theorem seqAfter (x : Option Byte) (q : Byte) : (if x.isNone = true then q + 1 else q) = if x = none then q + 1 else q := by
  cases x <;> rfl

theorem start_urgent {rest : List TxFrame} (h : s.tx.urgent = f :: rest) :
    s.startAttempt .urgent = { s with
      tx := { s.tx with urgent := { f with seq := some (f.seq.getD s.bus.seq) } :: rest }
      bus := { s.bus with
        seq := if f.seq = none then s.bus.seq + 1 else s.bus.seq
        sending := some ⟨.urgent, false, false⟩ } } := by
  unfold State.startAttempt State.buildFor State.mapHead State.head
  dsimp only
  rw [h, ← seqAfter]
  rfl

theorem start_changeHeld (h : s.tx.changeFrame = some f) :
    s.startAttempt .change = { s with
      tx := { s.tx with changeFrame := some { f with seq := some (f.seq.getD s.bus.seq) } }
      bus := { s.bus with
        seq := if f.seq = none then s.bus.seq + 1 else s.bus.seq
        sending := some ⟨.change, false, false⟩ } } := by
  unfold State.startAttempt State.buildFor State.buildChange State.mapHead State.head
  dsimp only
  rw [h]
  dsimp only
  rw [h, ← seqAfter]
  rfl

theorem start_changeNew (h : s.tx.changeFrame = none) :
    s.startAttempt .change = { s with
      tx := { s.tx with
        changeFrame := some ⟨.alarmChange (s.tx.change.take 8), some s.bus.seq⟩
        change := s.tx.change.drop 8 }
      bus := { s.bus with seq := s.bus.seq + 1, sending := some ⟨.change, false, false⟩ } } := by
  unfold State.startAttempt State.buildFor State.buildChange State.mapHead State.head
  dsimp only
  rw [h]
  rfl

theorem start_presence {p : PresenceTx} (h : s.tx.presence = some p) :
    s.startAttempt .presence = { s with
      tx := { s.tx with presence := some { p with tx := { p.tx with seq := some (p.tx.seq.getD s.bus.seq) } } }
      bus := { s.bus with
        seq := if p.tx.seq = none then s.bus.seq + 1 else s.bus.seq
        sending := some ⟨.presence, false, false⟩ } } := by
  unfold State.startAttempt State.buildFor State.mapHead State.head
  dsimp only
  rw [h, ← seqAfter]
  rfl

theorem start_pictureHeld {p : PictureTx} (h : s.tx.pictureFrame = some p) :
    s.startAttempt .picture = { s with
      tx := { s.tx with
        pictureFrame := some { p with tx := { p.tx with seq := some (p.tx.seq.getD s.bus.seq) } } }
      bus := { s.bus with
        seq := if p.tx.seq = none then s.bus.seq + 1 else s.bus.seq
        sending := some ⟨.picture, false, false⟩ } } := by
  unfold State.startAttempt State.buildFor State.buildPicture State.mapHead State.head
  dsimp only
  rw [h]
  dsimp only
  rw [h, ← seqAfter]
  rfl

theorem start_pictureNew {x : Stream} (h : s.tx.pictureFrame = none) (hs : s.transfer.serving = .streaming x) :
    s.startAttempt .picture = { s with
      tx := { s.tx with pictureFrame := some ⟨⟨(s.streamFrame x).1, some s.bus.seq⟩, true⟩ }
      transfer := { s.transfer with serving := .streaming (s.streamFrame x).2 }
      bus := { s.bus with seq := s.bus.seq + 1, sending := some ⟨.picture, false, false⟩ } } := by
  unfold State.startAttempt State.buildFor State.buildPicture State.mapHead State.head
  dsimp only
  rw [h, hs]
  rfl

/-! ### The walk of the stream list (R163) -/

/-- The records still in the list of the ids walked. -/
def foundOf (l : List AlarmRecord) (walked : List AlarmId) : List AlarmRecord := walked.filterMap fun id => findRecord id l

/-- A walk ends at the end of the stream list with room to spare, or at the id of the record that fills the room. -/
def WalkEnds (l : List AlarmRecord) (room : Nat) (walked rest : List AlarmId) : Prop :=
  ((foundOf l walked).length < room ∧ rest = []) ∨
    ((foundOf l walked).length = room ∧ ∀ id, walked.getLast? = some id → findRecord id l ≠ none)

variable {l : List AlarmRecord} {id : AlarmId} {walked rest : List AlarmId} {room : Nat} {r : AlarmRecord}

theorem foundOf_found (h : findRecord id l = some r) : foundOf l (id :: walked) = r :: foundOf l walked :=
  List.filterMap_cons_some h

theorem foundOf_missing (h : findRecord id l = none) : foundOf l (id :: walked) = foundOf l walked :=
  List.filterMap_cons_none h

theorem getLast?_of_tail {α : Type} {a b : α} {as : List α} (h : as.getLast? = some b) : (a :: as).getLast? = some b := by
  rw [List.getLast?_cons, h]
  rfl

theorem walkEnds_found (hf : findRecord id l = some r) (h : WalkEnds l (room + 1) (id :: walked) rest) :
    WalkEnds l room walked rest := by
  unfold WalkEnds at h
  rw [foundOf_found hf, List.length_cons] at h
  rcases h with ⟨hlt, hrest⟩ | ⟨heq, hlast⟩
  · exact .inl ⟨by omega, hrest⟩
  · exact .inr ⟨by omega, fun k hk => hlast k (getLast?_of_tail hk)⟩

theorem walkEnds_missing (hf : findRecord id l = none) (h : WalkEnds l room (id :: walked) rest) :
    WalkEnds l room walked rest := by
  unfold WalkEnds at h
  rw [foundOf_missing hf] at h
  rcases h with ⟨hlt, hrest⟩ | ⟨heq, hlast⟩
  · exact .inl ⟨hlt, hrest⟩
  · exact .inr ⟨heq, fun k hk => hlast k (getLast?_of_tail hk)⟩

/-- There is room while the walk has not ended: the last id of a walk that fills its room was found. -/
theorem walkEnds_room (h : WalkEnds l room (id :: walked) rest) : room ≠ 0 := by
  rintro rfl
  rcases h with ⟨hlt, -⟩ | ⟨hnone, hlast⟩
  · exact Nat.not_lt_zero _ hlt
  · have hend : (id :: walked).getLast? = some ((id :: walked).getLast (List.cons_ne_nil _ _)) :=
      List.getLast?_eq_some_getLast _
    refine hlast _ hend ?_
    have hempty : foundOf l (id :: walked) = [] := List.eq_nil_of_length_eq_zero hnone
    exact List.filterMap_eq_nil_iff.mp hempty _ (List.getLast_mem _)

theorem walkStream_stop : ∀ (room : Nat) (rest : List AlarmId), room = 0 ∨ rest = [] → walkStream l room rest = ([], 0)
  | _, [], _ => by rw [walkStream]
  | 0, _ :: _, _ => by rw [walkStream]
  | _ + 1, _ :: _, h => by simp at h

theorem walkStream_ends (walked : List AlarmId) : ∀ (room : Nat) (rest : List AlarmId), WalkEnds l room walked rest →
    walkStream l room (walked ++ rest) = (foundOf l walked, walked.length) := by
  induction walked with
  | nil =>
    intro room rest h
    exact walkStream_stop room rest (h.elim (fun x => .inr x.2) (fun x => .inl x.1.symm))
  | cons id walked ih =>
    intro room rest h
    obtain ⟨left, rfl⟩ := Nat.exists_eq_succ_of_ne_zero (walkEnds_room h)
    rw [List.cons_append, walkStream]
    cases hf : findRecord id l with
    | some r =>
      dsimp only
      rw [ih left rest (walkEnds_found hf h), foundOf_found hf]
      rfl
    | none =>
      dsimp only
      rw [ih (left + 1) rest (walkEnds_missing hf h), foundOf_missing hf]
      rfl

/-- The next frame of a stream whose walk has found records, and of one whose walk has found none. -/
theorem streamFrame_picture {x : Stream} (hids : x.ids.drop x.position = walked ++ rest)
    (hends : WalkEnds s.picture.list 6 walked rest) (hsome : foundOf s.picture.list walked ≠ []) :
    s.streamFrame x = (.picture x.active x.index ((foundOf s.picture.list walked).map s.pictureRecord),
      { x with position := x.position + walked.length, sent := x.sent + (foundOf s.picture.list walked).length }) := by
  have hfound : (foundOf s.picture.list walked).isEmpty = false := List.isEmpty_eq_false_iff.mpr hsome
  unfold State.streamFrame
  rw [hids, walkStream_ends walked 6 rest hends]
  dsimp only
  rw [hfound]
  rfl

theorem streamFrame_end {x : Stream} (hids : x.ids.drop x.position = walked ++ rest)
    (hends : WalkEnds s.picture.list 6 walked rest) (hnone : foundOf s.picture.list walked = []) :
    s.streamFrame x = (.pictureEnd x.active (BitVec.ofNat 16 x.sent), x) := by
  unfold State.streamFrame
  rw [hids, walkStream_ends walked 6 rest hends, hnone]
  rfl

/-! ### A record in its picture record -/

theorem age_pictureRecord (s : State) (r : AlarmRecord) :
    (s.pictureRecord r).age.toNat = min 16777215 (s.clock.now - r.arrivalSec).toNat := by
  show (BitVec.ofNat 24 (min 0xFFFFFF (s.since r.arrivalSec))).toNat = _
  rw [BitVec.toNat_ofNat, Nat.mod_eq_of_lt (by omega)]
  rfl

theorem priority_pictureRecord (s : State) (r : AlarmRecord) : (s.pictureRecord r).priority.toNat = r.priority.num := by
  show (BitVec.ofNat 3 r.priority.num).toNat = _
  cases r.priority <;> rfl

theorem handling_pictureRecord (s : State) (r : AlarmRecord) : (s.pictureRecord r).handling =
    match r.handling with
    | .unack => .unack
    | .ack t b => .ack t b
    | .shelved e t b => .shelved t b (remaining s.now e) := rfl

theorem shelf_pictureRecord {e : Sec} {t : Station} {b : Badge} (h : r.handling = .shelved e t b) :
    (s.pictureRecord r).handling = .shelved t b (remaining s.clock.now e) := by
  rw [handling_pictureRecord, h]
  rfl

/-- Settles O52: an access starts the class offered, each start is computed by class, and the walk of a stream follows
the ids walked until it is out of room or out of ids. -/
theorem accessStartsTheLowestClass : Obligations.AccessStartsTheLowestClass := by
  unfold Obligations.AccessStartsTheLowestClass
  refine fun s slot n => ⟨fun h => ?_, fun hactive hidle hn => ⟨fun f rest h => ⟨fun hslot => ?_, fun hslot => ?_⟩,
    fun hu hf hc hslot => ?_, fun f hu hf hslot => ?_, fun f hu hf hc hp hpic hslot => ?_,
    fun p hu hf hc hp hslot => ?_, fun x walked rest rs f y hu hf hc hp hpic hs hslot hids hrs hends hframe => ?_⟩,
    fun r p hp => ?_⟩
  case refine_1 => exact congrArg _ (access_closed h)
  case refine_2 => exact congrArg _ (access_otherSlot hn (offered_urgent h) (by rw [TxClass.num]; omega))
  case refine_3 =>
    rw [exec_accessStart, access_starts hactive hidle hn (offered_urgent h) (by rw [TxClass.num]; omega), start_urgent h]
  case refine_4 =>
    rw [exec_accessStart, access_starts hactive hidle hn (offered_change hu (.inr hc)) (by rw [TxClass.num]; omega),
      start_changeNew hf]
  case refine_5 =>
    rw [exec_accessStart, access_starts hactive hidle hn (offered_change hu (.inl (by rw [hf]; exact Option.some_ne_none _)))
      (by rw [TxClass.num]; omega), start_changeHeld hf]
  case refine_6 =>
    rw [exec_accessStart, access_starts hactive hidle hn
      (offered_picture hu hf hc hp (.inl (by rw [hpic]; exact Option.some_ne_none _))) (by rw [TxClass.num]; omega),
      start_pictureHeld hpic]
  case refine_7 =>
    rw [exec_accessStart, access_starts hactive hidle hn
      (offered_presence hu hf hc (by rw [hp]; exact Option.some_ne_none _)) (by rw [TxClass.num]; omega), start_presence hp]
  case refine_8 =>
    replace hrs : rs = foundOf s.picture.list walked := hrs
    have hwalk : WalkEnds s.picture.list 6 walked rest := by
      rcases hends with ⟨hlt, hrest⟩ | ⟨heq, id, hlast, hfound⟩
      · exact .inl ⟨hrs ▸ hlt, hrest⟩
      · refine .inr ⟨hrs ▸ heq, fun k hk => ?_⟩
        rw [hlast, Option.some.injEq] at hk
        exact hk ▸ hfound
    rw [exec_accessStart, access_starts hactive hidle hn
      (offered_picture hu hf hc hp (.inr (by rw [hs]; exact fun h => by cases h))) (by rw [TxClass.num]; omega),
      start_pictureNew hpic hs]
    rcases hframe with ⟨hnone, hf', hy⟩ | ⟨hsome, hf', hy⟩
    · rw [streamFrame_end hids hwalk (hrs ▸ hnone), hf', hy]
    · rw [streamFrame_picture hids hwalk (hrs ▸ hsome), hf', hy, hrs]
  case refine_9 =>
    rw [hp]
    refine ⟨rfl, priority_pictureRecord s r, rfl, rfl, rfl, rfl, age_pictureRecord s r, fun h => ?_, fun t b h => ?_,
      fun e t b h => ⟨_, shelf_pictureRecord h, remaining_out, fun hleft hfits => ?_⟩⟩
    · rw [handling_pictureRecord, h]
    · rw [handling_pictureRecord, h]
    · rw [remaining_left hleft hfits, BitVec.toNat_ofNat, Nat.mod_eq_of_lt hfits]

end Sys2Proof.Answers

/-! PROOF. The end of an attempt: echo failures, failed attempts, and what a frame that counts as sent does at its sender
(9.3, 9.5). -/

namespace Sys2Proof.Answers

open Sys2Proof.Machine Sys2Proof.Claims Sys2Proof.Keep

variable {c : Instr} {s t u v : State} {x : Sending} {n : Station} {f : Frame} {q : Option Byte} {rest : List TxFrame}
  {l : List AlarmRecord} {d : Bool} {k : AlarmId} {g : Bus → Bus} {w : Transmit → Transmit}

/-! ### Echo failures and failed attempts (R138, R139, R143) -/

theorem exec_attemptEnd (s : State) : exec .attemptEnd s = .next s.endAttempt := rfl

theorem exec_echoCheckFailure (n : LineName) (s : State) : exec (.echoCheckFailure n) s = .next (s.echoFail n) := rfl

theorem endAttempt_idle (h : s.bus.sending = none) : s.endAttempt = s := by
  unfold State.endAttempt
  rw [h]

theorem echoFail_idle (h : s.bus.sending = none) (n : LineName) : s.echoFail n = s := by
  unfold State.echoFail
  rw [h]

/-- A state whose attempt no longer drives a line. -/
def undriven (x : Sending) (n : LineName) (s : State) : State := { s with bus := { s.bus with sending := some (x.stop n) } }

theorem echoFail_driving {n : LineName} (h : s.bus.sending = some x) (hdriven : x.stopped n = false)
    (hdue : (s.line n).silentDue = false) :
    s.echoFail n = (marked (undriven x n s) n).setReport .echoFault := by
  have hline : (undriven x n s).line n = s.line n := by cases n <;> rfl
  unfold State.echoFail
  rw [h]
  dsimp only
  rw [if_neg (by rw [hdriven]; exact Bool.false_ne_true), ← markLine_eq (s := undriven x n s) (by rw [hline]; exact hdue)]
  rfl

theorem endAttempt_failed (h : s.bus.sending = some x) (hA : x.stoppedA = true) (hB : x.stoppedB = true) :
    s.endAttempt = s.attemptFailed x := by
  unfold State.endAttempt
  rw [h]
  dsimp only
  rw [hA, hB]
  rfl

/-- The port after a failed attempt (R139). -/
def failedPort (s : State) : Port := { s.port with
  attention := if s.bus.fails = 7 then plus s.port.attention .busFault else s.port.attention }

/-- A state after an attempt has been counted as failed. -/
def countedFailed (s : State) : State :=
  { s with bus := { s.bus with sending := none, fails := min 8 (s.bus.fails + 1) }, port := failedPort s }

theorem attemptFailed_eq (x : Sending) (s : State) : s.attemptFailed x =
    if x.cls = .presence ∧ s.tx.nextPresence ≠ none then { countedFailed s with
      tx := { s.tx with presence := s.tx.nextPresence, nextPresence := none } }
    else countedFailed s := by
  have hcounted : State.latchIf { s with bus := { s.bus with sending := none, fails := min 8 (s.bus.fails + 1) } }
      (s.bus.fails == 7) .busFault = countedFailed s := by
    unfold State.latchIf countedFailed failedPort
    by_cases h : s.bus.fails = 7
    · rw [if_pos (beq_iff_eq.mpr h), if_pos h]
      rfl
    · rw [if_neg (fun hb => h (beq_iff_eq.mp hb)), if_neg h]
  unfold State.attemptFailed
  dsimp only
  rw [hcounted]
  refine ite_of_iff ?_
  rw [Bool.and_eq_true, beq_iff_eq, Option.isSome_iff_ne_none]
  rfl

/-! ### A frame that counts as sent (R138) -/

/-- A state whose attempt has ended with its frame sent. -/
def ended (s : State) : State := wired (fun y => { y with sending := none, fails := 0 }) (fun y => y) s

theorem endAttempt_sent (h : s.bus.sending = some x) (hdriven : x.stoppedA = false ∨ x.stoppedB = false) :
    s.endAttempt = s.attemptSent x := by
  unfold State.endAttempt
  rw [h]
  refine if_neg ?_
  rw [Bool.and_eq_true]
  rintro ⟨hA, hB⟩
  rcases hdriven with h | h
  · exact Bool.false_ne_true (h.symm.trans hA)
  · exact Bool.false_ne_true (h.symm.trans hB)

/-- The urgent queue without its head, and the change frame taken off. -/
def tailed (y : Transmit) : Transmit := { y with urgent := y.urgent.tail }

def unheld (y : Transmit) : Transmit := { y with changeFrame := none }

/-- A class that is freed by a change of the scheduler alone frees it after its frame has acted on the sender. -/
theorem endAttempt_urgent (h : s.bus.sending = some x) (hcls : x.cls = .urgent)
    (hdriven : x.stoppedA = false ∨ x.stoppedB = false) (hn : s.node.number = some n)
    (hhead : s.tx.urgent = ⟨f, q⟩ :: rest) :
    s.endAttempt = wired (fun y => y) tailed ((ended s).applyFrame n none f) := by
  have hown : (ended s).own = n := own_of_number (s := ended s) hn
  have hfirst : (ended s).head .urgent = some ⟨f, q⟩ := congrArg List.head? hhead
  rw [endAttempt_sent h hdriven]
  unfold State.attemptSent
  rw [hcls]
  dsimp only
  rw [show State.head { s with bus := _ } .urgent = some ⟨f, q⟩ from hfirst, show State.own { s with bus := _ } = n from hown]
  rfl

theorem endAttempt_change (h : s.bus.sending = some x) (hcls : x.cls = .change)
    (hdriven : x.stoppedA = false ∨ x.stoppedB = false) (hhead : s.tx.changeFrame = some ⟨f, q⟩) :
    s.endAttempt = wired (fun y => y) unheld ((ended s).applyFrame s.own none f) := by
  have hfirst : (ended s).head .change = some ⟨f, q⟩ := hhead
  rw [endAttempt_sent h hdriven]
  unfold State.attemptSent
  rw [hcls]
  dsimp only
  rw [show State.head { s with bus := _ } .change = some ⟨f, q⟩ from hfirst]
  rfl

/-- The state that a sent frame leaves of what it does not act on. -/
theorem wired_ended (w : Transmit → Transmit) (s : State) :
    wired (fun y => y) w (ended s) = { s with bus := { s.bus with sending := none, fails := 0 }, tx := w s.tx } := rfl

/-! ### A list handed on beside the bus part and the scheduler -/

theorem demanded_wired (d : Bool) (l : List AlarmRecord) (u : State) :
    wired g w (demanded d (relisted l u)) = demanded d (relisted l (wired g w u)) := by
  cases d <;> rfl

theorem HandsOn.wired (h : HandsOn d l u t) : HandsOn d l (wired g w u) (wired g w t) := by
  rw [h.whole, demanded_wired]
  exact handsOn_demanded d l _

/-- A change of the alarm list that a sent frame makes at its sender, as the statements give it. -/
theorem sentChange_of {act : State} {y : Option AlarmRecord} {demand : State → Bool} (hrun : exec c s = .next act)
    (hands : HandsOn (demand act) l u act) (hwindow : WindowFollows s act) (hself : findRecord k l = y)
    (hother : ∀ other, other ≠ k → findRecord other l = findRecord other s.picture.list) :
    ∃ t, exec c s = .next t ∧ ListChange u t ∧ WindowFollows s t ∧ OthersKept k s t ∧
      Annunciates (demand t) u t ∧ findRecord k t.picture.list = y :=
  ⟨act, hrun, hands.change, hwindow, fun other ho => by rw [hands.list]; exact hother other ho, hands.annunciate,
    by rw [hands.list]; exact hself⟩

/-! ### The sender's own claims (R87 to R90) -/

variable {src : ClaimSource} {orphan : Bool} {b : Badge} {a : Nat} {serial : Half} {y : Claim} {hold : Hold}

/-- An accepted claim of this station's own frame: no CLAIM_LOST, but of an own TAKEOVER the area taken (R89, R99). -/
theorem acceptClaim_own (ha : y.area < s.areas.length) (hown : s.isOwn y.station = true ∨ src = .commit) :
    s.acceptClaim src true orphan y =
      (claimed (claimHold s.now orphan y) y.serial false y.area s).latchIf (src == .takeover) .areaTaken := by
  have hlost : (s.holds y.area && !s.isOwn y.station && !(true && src == .commit)) = false := by
    rcases hown with h | h
    · rw [h, Bool.not_true, Bool.and_false, Bool.false_and]
    · have hsame : (src == .commit) = true := beq_iff_eq.mpr h
      rw [hsame, Bool.true_and, Bool.not_true, Bool.and_false]
  have hclaimed : claimed (claimHold s.now orphan y) y.serial false y.area s =
      s.setHold y.area (claimHold s.now orphan y) y.serial := by
    rw [setHold_handedOn ha, claimed_eq, taken, Bool.and_false]
    rfl
  unfold State.acceptClaim
  dsimp only
  rw [hlost, hclaimed]
  rfl

/-- An own claim that no rejection reports: of a COMMIT or of a presence. -/
theorem applyClaim_own (hn : stationOk n = true) (hown : s.isOwn n = true ∧ src = .presence ∨ src = .commit) :
    s.applyClaim src true orphan ⟨a, serial, n, b⟩ = (tried n b orphan false serial a s).getD s := by
  have hquiet : (src == .claim || src == .takeover || src == .take) = false := by
    rcases hown with ⟨-, rfl⟩ | rfl <;> rfl
  have htaken : (src == .takeover) = false := by rcases hown with ⟨-, rfl⟩ | rfl <;> rfl
  unfold State.applyClaim State.claimHeard State.configured
  dsimp only
  rw [hn, Bool.and_true, claimAccepted_eq]
  by_cases hconfig : (s.area a).config = none
  · rw [tried_none_iff.mpr (.inl hconfig), hconfig]
    rfl
  · rw [if_pos (Option.isSome_iff_ne_none.mpr hconfig)]
    by_cases hbeats : beats n serial (s.area a) = true
    · rw [if_pos hbeats, tried_accepted hconfig hbeats,
        acceptClaim_own (lt_of_configured hconfig) (hown.imp (fun h => h.1) id), htaken]
      rfl
    · rw [if_neg hbeats, tried_none_iff.mpr (.inr (Bool.eq_false_iff.mpr hbeats)), State.rejectClaim, hquiet]
      rfl

/-- An area that this station claims for itself is held here after it, and is handed on. -/
theorem claimed_own (ha : a < s.areas.length) (hn : s.isOwn n = true) :
    claimed (.held n b) serial false a s = handedOn a s (heldBy a (.held n b) serial s) := by
  have hafter : (heldBy a (.held n b) serial s).holds a = true := by
    rw [State.holds, show (heldBy a (.held n b) serial s).area a = _ from State.area_setArea_self s a _ ha]
    exact hn
  rw [claimed_eq, hafter, taken, Bool.and_false, Bool.not_true, Bool.and_false]
  rfl

/-- An own CLAIM or TAKE that is accepted, and one that is rejected (R89, R90). -/
theorem applyClaim_accepted (hn : stationOk n = true) (hown : s.isOwn n = true) (hconfig : (s.area a).config ≠ none)
    (hbeats : beats n serial (s.area a) = true) : s.applyClaim src true false ⟨a, serial, n, b⟩ =
      (handedOn a s (heldBy a (.held n b) serial s)).latchIf (src == .takeover) .areaTaken := by
  have ha := lt_of_configured hconfig
  unfold State.applyClaim State.claimHeard State.configured
  dsimp only
  rw [hn, Bool.and_true, if_pos (Option.isSome_iff_ne_none.mpr hconfig), claimAccepted_eq, if_pos hbeats,
    acceptClaim_own ha (.inl hown), ← claimed_own ha hown]
  rfl

theorem applyClaim_rejected (hn : stationOk n = true) (hconfig : (s.area a).config ≠ none)
    (hbeats : beats n serial (s.area a) = false) (hsrc : src = .claim ∨ src = .takeover ∨ src = .take) :
    s.applyClaim src true false ⟨a, serial, n, b⟩ = s.claimLost a := by
  have htold : (src == .claim || src == .takeover || src == .take) = true := by
    rcases hsrc with rfl | rfl | rfl <;> rfl
  unfold State.applyClaim State.claimHeard State.configured
  dsimp only
  rw [hn, Bool.and_true, if_pos (Option.isSome_iff_ne_none.mpr hconfig), claimAccepted_eq, hbeats, State.rejectClaim, htold]
  rfl

theorem handedOn_wired (a : Nat) (s u : State) :
    handedOn a (wired g w s) (wired g w u) = wired g w (handedOn a s u) := by
  unfold handedOn
  dsimp only
  rw [show (wired g w s).window = s.window from rfl, show (wired g w s).holds = s.holds from rfl,
    show (wired g w u).holds = u.holds from rfl, show (wired g w s).area = s.area from rfl,
    show (wired g w u).area = u.area from rfl]
  split
  · split <;> rfl
  · split <;> rfl

end Sys2Proof.Answers

/-! PROOF. What COMMIT, ALARM CHANGE and ACK, PRESENCE and picture frames do at their sender once sent (8.4, 9.3, 11.3). -/

namespace Sys2Proof.Answers

open Sys2Proof.Machine Sys2Proof.Claims Sys2Proof.Keep

variable {c : Instr} {s t u v : State} {x : Sending} {n : Station} {f : Frame} {q : Option Byte} {rest : List TxFrame}
  {g : Bus → Bus} {w : Transmit → Transmit} {b : Badge} {k : Byte} {m : Station}

/-! ### COMMIT at its sender (R120) -/

theorem commitOrphans_eq (m : Station) (s : State) : s.commitOrphans m = commitOrphaned m s := by
  unfold State.commitOrphans commitOrphaned
  exact ite_congr (propext (isOwn_iff s m)) (fun _ => Option.not_isSome _) fun _ => rfl

/-- The number and the target of an offer that is COMMITTING. -/
def committingTo : Outgoing → Option (Byte × Station)
  | .committing o => some (o.number, o.target)
  | .idle => none
  | .offered _ => none

theorem committingTo_areaGone (a : Nat) (s : State) :
    committingTo (areaGone a s).handover.outgoing = committingTo s.handover.outgoing := by
  cases h : s.handover.outgoing with
  | idle => rw [areaGone_idle h]; exact congrArg committingTo h
  | committing o => rw [areaGone_committing h]; rfl
  | offered o =>
    unfold areaGone
    rw [h]
    dsimp only
    split <;> rfl

theorem committingTo_claimed (h : Hold) (serial : Half) (loss : Bool) (a : Nat) (s : State) :
    committingTo (claimed h serial loss a s).handover.outgoing = committingTo s.handover.outgoing := by
  have htaken := (taken_offers h serial loss a s).1
  rw [claimed_eq]
  split
  · rw [committingTo_areaGone, htaken]
  · rw [htaken]

theorem committingTo_committed (orphan loss : Bool) (y : AreaSet × State) (e : CommitEntry) :
    committingTo (committedTo m b orphan loss y e).2.handover.outgoing = committingTo y.2.handover.outgoing := by
  unfold committedTo
  split
  · rfl
  · next v hv =>
    unfold tried at hv
    split at hv
    · cases hv
    · rw [← Option.some.inj hv]
      exact committingTo_claimed _ _ _ _ _

theorem committingTo_foldl (orphan loss : Bool) (es : List CommitEntry) (y : AreaSet × State) :
    committingTo (es.foldl (committedTo m b orphan loss) y).2.handover.outgoing = committingTo y.2.handover.outgoing := by
  induction es generalizing y with
  | nil => rfl
  | cons e rest ih => rw [List.foldl_cons, ih, committingTo_committed]

theorem commitEndOut_committing {moved : AreaSet} (h : committingTo s.handover.outgoing = some (k, m)) :
    s.commitEndOut k moved = { s with
      handover := { s.handover with outgoing := .idle, lastOut := some ⟨k, m, .committed moved⟩ }
      port := flagged s .offerEnded } := by
  unfold State.commitEndOut
  cases ho : s.handover.outgoing with
  | idle => rw [ho] at h; cases h
  | offered o => rw [ho] at h; cases h
  | committing o =>
    rw [ho] at h
    obtain ⟨rfl, rfl⟩ := Prod.mk.inj (Option.some.inj h)
    dsimp only
    rw [if_pos (beq_self_eq_true _)]
    rfl

theorem commitEndOut_other {moved : AreaSet} (h : ∀ y, committingTo s.handover.outgoing = some y → y.1 ≠ k) :
    s.commitEndOut k moved = s := by
  unfold State.commitEndOut
  cases ho : s.handover.outgoing with
  | idle => rfl
  | offered o => rfl
  | committing o =>
    rw [ho] at h
    exact if_neg fun heq => h _ rfl (beq_iff_eq.mp heq)

/-- A COMMIT at its sender: its entries as claims without a loss, and the offer with its number (R87, R120). -/
theorem applyCommit_own {es : List CommitEntry} (hown : s.isOwn n = true) (hm : stationOk m = true) :
    s.applyCommit n k m b es = State.commitEndOut k (es.foldl (committedTo m b (commitOrphaned m s) false) (0, s)).1
      (es.foldl (committedTo m b (commitOrphaned m s) false) (0, s)).2 := by
  have hentries := commitEntries_of (own := true) (orphan := commitOrphaned m s) (loss := false) (b := b) hm es 0 s
    fun v _ e => applyClaim_own hm (.inr rfl)
  unfold State.applyCommit
  dsimp only
  rw [hown, commitOrphans_eq, hentries]
  rfl

/-! ### The entries of a sent frame by turns (R4, R25) -/

/-- A sent frame does what its first entry and then a further frame of the rest do, where each part does so beside what
stands in the frame's place. -/
theorem sent_inTurn {hold1 hold2 free : Transmit → Transmit} {act1 act2 : State → State}
    (hwhole : exec .attemptEnd s = .next (wired (fun y => y) free (act2 (act1 (ended s)))))
    (hfirst : exec .attemptEnd (wired (fun y => y) hold1 s) =
      .next (wired (fun y => y) free (act1 (ended (wired (fun y => y) hold1 s)))))
    (hrest : ∀ v, v.bus.sending = some x → v.node.number = s.node.number → (∃ y, v.tx = hold2 y) →
      exec .attemptEnd v = .next (wired (fun y => y) free (act2 (ended v))))
    (hact1 : ∀ v, act1 (wired (fun y => y) hold1 v) = wired (fun y => y) hold1 (act1 v))
    (hact2 : ∀ v, act2 (wired (fun y => y) hold2 v) = wired (fun y => y) hold2 (act2 v))
    (hbus : ∀ v, (act1 v).bus = v.bus) (hnumber : ∀ v, (act1 v).node.number = v.node.number)
    (hkept : ∀ y, hold2 (free (hold1 y)) = hold2 y)
    (hfreed : free (hold2 (act2 (act1 (ended s))).tx) = free (act2 (act1 (ended s))).tx)
    (ht : exec .attemptEnd (wired (fun y => y) hold1 s) = .next t) :
    exec .attemptEnd s = exec .attemptEnd { t with bus := { t.bus with sending := some x }, tx := hold2 t.tx } := by
  have hended : ended (wired (fun y => y) hold1 s) = wired (fun y => y) hold1 (ended s) := rfl
  rw [hfirst, hended, hact1] at ht
  have hafter : t = wired (fun y => y) free (wired (fun y => y) hold1 (act1 (ended s))) :=
    (Host.Outcome.next.inj ht).symm
  have hnext : ended { t with bus := { t.bus with sending := some x }, tx := hold2 t.tx } =
      wired (fun y => y) hold2 (act1 (ended s)) := by
    have hsame : t.bus = (ended s).bus := by rw [hafter]; exact hbus _
    have hplace : hold2 t.tx = hold2 (act1 (ended s)).tx := by rw [hafter]; exact hkept _
    have hended' : ended { t with bus := { t.bus with sending := some x }, tx := hold2 t.tx } =
        { t with bus := { t.bus with sending := none, fails := 0 }, tx := hold2 t.tx } := rfl
    rw [hended', hsame, hplace, hafter]
    unfold wired
    dsimp only
    rw [hbus]
    rfl
  have hagain := hrest { t with bus := { t.bus with sending := some x }, tx := hold2 t.tx } rfl
    (by rw [hafter]; exact hnumber _) ⟨_, rfl⟩
  rw [hwhole, hagain, hnext, hact2]
  refine congrArg Host.Outcome.next ?_
  unfold wired
  dsimp only
  rw [hfreed]

/-! ### PRESENCE and picture frames at their sender (R87, R153, R163, R164) -/

/-- One claim of an own presence. -/
def ownClaim (n : Station) (p : PresenceBody) (s : State) (e : ClaimEntry) : State :=
  (tried n (e.badge.getD p.activeBadge) false false e.serial e.area.toNat s).getD s

theorem ownClaim_kept {p : PresenceBody} (hown : s.isOwn n = true) (e : ClaimEntry) :
    (ownClaim n p s e).node = s.node ∧ (ownClaim n p s e).tx = s.tx := by
  unfold ownClaim
  by_cases hnone : tried n (e.badge.getD p.activeBadge) false false e.serial e.area.toNat s = none
  · rw [hnone]
    exact ⟨rfl, rfl⟩
  · obtain ⟨hconfig, hbeats⟩ := not_or.mp (mt tried_none_iff.mpr hnone)
    rw [tried_accepted hconfig (eq_true_of_ne_false hbeats)]
    show (claimed (.held n _) _ _ _ _).node = _ ∧ (claimed (.held n _) _ _ _ _).tx = _
    rw [claimed_own (lt_of_configured hconfig) hown, handedOn_eq]
    exact ⟨rfl, rfl⟩

theorem ownClaims_kept {p : PresenceBody} (hown : s.isOwn n = true) (es : List ClaimEntry) :
    (es.foldl (ownClaim n p) s).node = s.node ∧ (es.foldl (ownClaim n p) s).tx = s.tx := by
  induction es generalizing s with
  | nil => exact ⟨rfl, rfl⟩
  | cons e rest ih =>
    obtain ⟨hnode, htx⟩ := ownClaim_kept (p := p) hown e
    have hown' : (ownClaim n p s e).isOwn n = true := by rw [State.isOwn, hnode]; exact hown
    obtain ⟨hnode', htx'⟩ := ih hown'
    exact ⟨hnode'.trans hnode, htx'.trans htx⟩

/-- The claims of an own presence are ordinary ones, dark or not (R87). -/
theorem applyClaimList_own {p : PresenceBody} (hown : s.isOwn n = true) (hok : p.claims = [] ∨ stationOk n = true) :
    s.applyClaimList n p = p.claims.foldl (ownClaim n p) s := by
  have hplain : (p.dark && !s.isOwn n) = false := by rw [hown]; exact Bool.and_false _
  unfold State.applyClaimList presenceClaims
  rw [hplain, if_neg Bool.false_ne_true, List.foldl_map]
  clear hplain
  rcases hok with hnone | hok
  · rw [hnone]
    rfl
  · generalize p.claims = es
    induction es generalizing s with
    | nil => rfl
    | cons e rest ih =>
      have hclaim := applyClaim_own (s := s) (a := e.area.toNat) (serial := e.serial) (b := e.badge.getD p.activeBadge)
        (src := .presence) (orphan := false) hok (.inl ⟨hown, rfl⟩)
      have hnext : (ownClaim n p s e).isOwn n = true := by
        rw [State.isOwn, (ownClaim_kept hown e).1]
        exact hown
      rw [List.foldl_cons, List.foldl_cons, hown, hclaim]
      exact ih hnext

/-- A presence that counts as sent clears the reports it carried, and the one waiting takes its place (R135, R153). -/
theorem endAttempt_presence {p : PresenceTx} {body : PresenceBody} (h : s.bus.sending = some x) (hcls : x.cls = .presence)
    (hdriven : x.stoppedA = false ∨ x.stoppedB = false) (hn : s.node.number = some n) (hp : s.tx.presence = some p)
    (hbody : p.tx.frame = .presence body) (hok : body.claims = [] ∨ stationOk n = true) :
    s.endAttempt = { body.claims.foldl (ownClaim n body) (ended s) with
      node := { s.node with reports := reportsAfter s.node.reports body.reports p.again }
      tx := { s.tx with presence := s.tx.nextPresence, nextPresence := none } } := by
  have hown : (ended s).isOwn n = true := (isOwn_iff _ n).mpr hn
  obtain ⟨hnode, htx⟩ := ownClaims_kept (p := body) hown body.claims
  have happlied : (ended s).applyFrame n none (.presence body) = body.claims.foldl (ownClaim n body) (ended s) :=
    (if_pos hown).trans (applyClaimList_own hown hok)
  have hfirst : (ended s).head .presence = some p.tx := by
    rw [State.head]
    show s.tx.presence.map PresenceTx.tx = _
    rw [hp]
    rfl
  rw [endAttempt_sent h hdriven]
  unfold State.attemptSent
  rw [hcls]
  dsimp only
  rw [show State.head { s with bus := _ } .presence = some p.tx from hfirst,
    show State.own { s with bus := _ } = n from own_of_number (s := ended s) hn]
  dsimp only
  rw [hbody, show State.applyFrame n none (.presence body) { s with bus := _ } = _ from happlied]
  generalize body.claims.foldl (ownClaim n body) (ended s) = v at hnode htx
  show State.freePlace .presence v = _
  unfold State.freePlace
  dsimp only
  rw [htx, show (ended s).tx.presence = some p from hp]
  dsimp only
  unfold State.clearReports
  rw [hbody]
  dsimp only
  rw [hnode, htx]
  rfl

theorem attemptSent_picture (hcls : x.cls = .picture) : s.attemptSent x = State.freePlace .picture
    (((ended s).head .picture).elim (ended s) fun t => (ended s).applyFrame s.own none t.frame).streamSent := by
  unfold State.attemptSent
  rw [hcls]
  dsimp only
  cases h : (ended s).head .picture with
  | none =>
    rw [show State.head { s with bus := _ } .picture = none from h]
    rfl
  | some t =>
    rw [show State.head { s with bus := _ } .picture = some t from h]
    rfl

theorem endAttempt_picture {p : PictureTx} (h : s.bus.sending = some x) (hcls : x.cls = .picture)
    (hdriven : x.stoppedA = false ∨ x.stoppedB = false) (hp : s.tx.pictureFrame = some p)
    (hquiet : (ended s).applyFrame s.own none p.tx.frame = ended s) :
    s.endAttempt = State.freePlace .picture (ended s).streamSent := by
  have hfirst : (ended s).head .picture = some p.tx := by
    rw [State.head]
    show s.tx.pictureFrame.map PictureTx.tx = _
    rw [hp]
    rfl
  rw [endAttempt_sent h hdriven, attemptSent_picture hcls, hfirst, Option.elim_some, hquiet]

/-! ### A frame of a stream that counts as sent (R163, R164) -/

variable {p : PictureTx} {y : Machine.Stream} {active : StationSet} {i : Byte} {rs : List PictureRecord} {count : Half}

theorem streamSent_old (hp : s.tx.pictureFrame = some p) (h : p.current = false) : s.streamSent = s := by
  unfold State.streamSent
  rw [hp]
  split
  · next heq _ =>
    obtain rfl := Option.some.inj heq
    exact if_neg (by rw [h]; exact Bool.false_ne_true)
  · rfl

theorem streamSent_frame (hp : s.tx.pictureFrame = some p) (hs : s.transfer.serving = .streaming y)
    (h : p.current = true) (hf : p.tx.frame = .picture active i rs) :
    s.streamSent = s.setServing (.streaming { y with index := y.index + 1 }) := by
  unfold State.streamSent
  rw [hp, hs]
  dsimp only
  rw [h, hf]
  rfl

theorem streamSent_end (hp : s.tx.pictureFrame = some p) (hs : s.transfer.serving = .streaming y)
    (h : p.current = true) (hf : p.tx.frame = .pictureEnd active count) : s.streamSent = s.endStream := by
  unfold State.streamSent
  rw [hp, hs]
  dsimp only
  rw [h, hf]
  rfl

theorem endStream_streaming (hs : s.transfer.serving = .streaming y) : s.endStream = { s with
    tx := { s.tx with pictureFrame := s.tx.pictureFrame.map fun f => { f with current := false } }
    transfer := { s.transfer with
      serving := if y.staged = 0 then .idle
        else .streaming ⟨y.staged, 0, s.picture.list.map AlarmRecord.id, 0, 0, 0⟩ } } := by
  unfold State.endStream
  rw [hs]
  dsimp only
  by_cases h : y.staged = 0
  · rw [if_pos h, if_pos (beq_iff_eq.mpr h)]
    rfl
  · rw [if_neg h, if_neg (fun hb => h (beq_iff_eq.mp hb))]
    rfl

end Sys2Proof.Answers

/-! PROOF. The end of attempts (9.3, 9.5): O53. -/

namespace Sys2Proof.Answers

open Sys2Proof.Machine Sys2Proof.Claims Sys2Proof.Keep

variable {c : Instr} {s t u v : State} {x : Sending} {n : Station} {f : Frame} {q : Option Byte} {rest : List TxFrame}
  {b : Badge} {r : AlarmRecord} {l : List AlarmRecord} {d : Bool}

/-- An attempt that is sent has not stopped driving both lines. -/
structure Sends (s : State) (x : Sending) (n : Station) : Prop where
  sending : s.bus.sending = some x
  driven  : x.stoppedA = false ∨ x.stoppedB = false
  number  : s.node.number = some n

theorem Sends.own (h : Sends s x n) : (ended s).isOwn n = true := (isOwn_iff _ n).mpr h.number

/-- The urgent frame at the head of its queue acts on its sender, and its place is freed. -/
theorem exec_urgentSent (h : Sends s x n) (hcls : x.cls = .urgent) (hhead : s.tx.urgent = ⟨f, q⟩ :: rest)
    (happlied : (ended s).applyFrame n none f = v) :
    exec .attemptEnd s = .next (wired (fun y => y) tailed v) := by
  rw [exec_attemptEnd, endAttempt_urgent h.sending hcls h.driven h.number hhead, happlied]

theorem exec_changeSent (h : Sends s x n) (hcls : x.cls = .change) (hhead : s.tx.changeFrame = some ⟨f, q⟩)
    (happlied : (ended s).applyFrame n none f = v) :
    exec .attemptEnd s = .next (wired (fun y => y) unheld v) := by
  rw [exec_attemptEnd, endAttempt_change h.sending hcls h.driven hhead, own_of_number h.number, happlied]

theorem tailed_eq (hhead : s.tx.urgent = ⟨f, q⟩ :: rest) : wired (fun y => y) tailed (ended s) =
    { s with bus := { s.bus with sending := none, fails := 0 }, tx := { s.tx with urgent := rest } } := by
  rw [wired_ended, tailed, hhead]
  rfl

theorem unheld_eq (s : State) : wired (fun y => y) unheld (ended s) =
    { s with bus := { s.bus with sending := none, fails := 0 }, tx := { s.tx with changeFrame := none } } := rfl

/-! ### Frames that change nothing more at their sender -/

/-- OFFER, WITHDRAW, an ANSWER to another station, and a PICTURE REQUEST. -/
theorem applyFrame_quiet (hown : s.isOwn n = true)
    (hf : f = .pictureRequest ∨ (∃ number dest b areas xs, f = .offer number dest b areas xs) ∨
      (∃ number dest, f = .withdraw number dest) ∨
      (∃ origin number d r b, f = .answer origin number d r b ∧ origin ≠ n)) :
    s.applyFrame n none f = s := by
  have hnumber := (isOwn_iff s n).mp hown
  rcases hf with rfl | ⟨number, dest, b, areas, xs, rfl⟩ | ⟨number, dest, rfl⟩ | ⟨origin, number, d, r, b, rfl, hother⟩
  · exact if_neg (by rw [hown]; simp)
  · exact if_pos (by rw [hown]; simp)
  · show s.applyWithdraw n number dest = s
    unfold State.applyWithdraw
    split
    · exact if_neg (by rw [hown]; simp)
    · exact if_neg (by rw [hown]; simp)
    · rfl
  · have horigin : s.isOwn origin = false := by
      rw [isOwn_eq_false_iff, hnumber, Ne, Option.some.injEq]
      exact fun h => hother h.symm
    show s.applyAnswer n origin number d r b = s
    unfold State.applyAnswer
    split
    · rw [horigin]
      rfl
    · rfl
    · rfl

/-- A frame of a stream at its sender. -/
theorem applyFrame_ownPicture (hown : s.isOwn n = true) (hf : (∃ m i rs, f = .picture m i rs) ∨ ∃ m k, f = .pictureEnd m k) :
    s.applyFrame n none f = s := by
  rcases hf with ⟨m, i, rs, rfl⟩ | ⟨m, k, rfl⟩
  · exact if_neg (by rw [hown]; simp)
  · exact if_neg (by rw [hown]; simp)

/-! ### ACK, SHELVE and UNSHELVE (R25, R26, R31, R33) -/

theorem ackEntry_stale {e : AckEntry} (hown : s.isOwn n = true) (hr : findRecord e.id s.picture.list = some r)
    (hless : e.occurrence.toNat < r.occurrence.toNat) : s.ackEntry n b e =
      { s with picture := { s.picture with lastStale := some e.id }, port := flagged s .ackStale } := by
  unfold State.ackEntry
  rw [hr]
  dsimp only
  rw [if_pos hless, hown]
  rfl

/-- An attempt whose head frame changes the alarm list. -/
theorem sentChange_urgent {y : Option AlarmRecord} {k : AlarmId} {demand : State → Bool}
    (hdemand : ∀ v, demand (wired (fun y => y) tailed v) = demand v)
    (h : Sends s x n) (hcls : x.cls = .urgent) (hhead : s.tx.urgent = ⟨f, q⟩ :: rest)
    (happlied : (ended s).applyFrame n none f = v) (hands : HandsOn (demand v) l (ended s) v)
    (hu : u = { s with bus := { s.bus with sending := none, fails := 0 }, tx := { s.tx with urgent := rest } })
    (hself : findRecord k l = y) (hother : ∀ other, other ≠ k → findRecord other l = findRecord other s.picture.list) :
    ∃ t, exec .attemptEnd s = .next t ∧ ListChange u t ∧ WindowFollows s t ∧ OthersKept k s t ∧
      Annunciates (demand t) u t ∧ findRecord k t.picture.list = y := by
  have hafter := hands.wired (g := fun y => y) (w := tailed)
  rw [← hdemand v, tailed_eq hhead, ← hu] at hafter
  exact sentChange_of (exec_urgentSent h hcls hhead happlied) hafter
    (windowFollows_of_same (by rw [hu]; rfl) (by rw [hu]) hafter.window) hself hother

theorem findRecord_unshelved {k : AlarmId} {arrival : Sec} (hid : r.id = k) :
    findRecord k (moveRecord { r with handling := .unack, arrivalSec := arrival } l) =
      some { r with handling := .unack, arrivalSec := arrival } := by
  rw [← hid]
  exact findRecord_moveRecord_self { r with handling := .unack, arrivalSec := arrival } l

/-- The entries of a sent ACK frame by turns. -/
theorem sentAcks_inTurn {e : AckEntry} {es : List AckEntry} (h : Sends s x n) (hcls : x.cls = .urgent)
    (hhead : s.tx.urgent = ⟨.ack b (e :: es), q⟩ :: rest)
    (ht : exec .attemptEnd { s with tx := { s.tx with urgent := ⟨.ack b [e], q⟩ :: rest } } = .next t) :
    exec .attemptEnd s = exec .attemptEnd { t with
      bus := { t.bus with sending := some x }, tx := { t.tx with urgent := ⟨.ack b es, q⟩ :: rest } } := by
  refine sent_inTurn (hold1 := fun y => { y with urgent := ⟨.ack b [e], q⟩ :: rest })
    (hold2 := fun y => { y with urgent := ⟨.ack b es, q⟩ :: rest }) (free := tailed)
    (act1 := State.ackEntry n b e) (act2 := State.applyAcks n b es)
    (exec_urgentSent h hcls hhead rfl) ?_ ?_ (ackEntry_wired _ _) (applyAcks_wired _ _ es) (fun v => by simp)
    (fun v => by simp) (fun y => rfl) ?_ ht
  · exact exec_urgentSent (s := wired _ _ s) ⟨h.sending, h.driven, h.number⟩ hcls rfl rfl
  · rintro v hsending hnumber ⟨y, hy⟩
    exact exec_urgentSent (rest := rest) ⟨hsending, h.driven, hnumber.trans h.number⟩ hcls (by rw [hy]) rfl
  · have hplace : (State.applyAcks n b es (State.ackEntry n b e (ended s))).tx.urgent = ⟨.ack b (e :: es), q⟩ :: rest := by
      have hsame : (State.applyAcks n b es (State.ackEntry n b e (ended s))).tx = (ended s).tx := by simp
      rw [hsame]
      exact hhead
    unfold tailed
    dsimp only
    rw [hplace]
    rfl

/-- The entries of a sent ALARM CHANGE frame by turns. -/
theorem sentChanges_inTurn {e : ChangeEntry} {es : List ChangeEntry} (hsending : s.bus.sending = some x)
    (hdriven : x.stoppedA = false ∨ x.stoppedB = false) (hcls : x.cls = .change)
    (hhead : s.tx.changeFrame = some ⟨.alarmChange (e :: es), q⟩)
    (ht : exec .attemptEnd { s with tx := { s.tx with changeFrame := some ⟨.alarmChange [e], q⟩ } } = .next t) :
    exec .attemptEnd s = exec .attemptEnd { t with
      bus := { t.bus with sending := some x }, tx := { t.tx with changeFrame := some ⟨.alarmChange es, q⟩ } } := by
  have hrun : ∀ {v : State} {g : Frame}, v.bus.sending = some x → v.node.number = s.node.number →
      v.tx.changeFrame = some ⟨g, q⟩ →
      exec .attemptEnd v = .next (wired (fun y => y) unheld ((ended v).applyFrame s.own none g)) := by
    intro v g hv hnumber hframe
    have hown : v.own = s.own := by rw [State.own, hnumber]; rfl
    rw [exec_attemptEnd, endAttempt_change hv hcls hdriven hframe, hown]
  refine sent_inTurn (hold1 := fun y => { y with changeFrame := some ⟨.alarmChange [e], q⟩ })
    (hold2 := fun y => { y with changeFrame := some ⟨.alarmChange es, q⟩ }) (free := unheld)
    (act1 := State.changeEntry s.own e) (act2 := State.applyChanges s.own es)
    (hrun hsending rfl hhead) (hrun (v := wired _ _ s) (g := .alarmChange [e]) hsending rfl rfl)
    (fun v hv hnumber ⟨y, hy⟩ => hrun (g := .alarmChange es) hv hnumber (by rw [hy]))
    (changeEntry_wired (fun _ _ => rfl) _) (applyChanges_wired (fun _ _ => rfl) _ es) (fun v => by simp)
    (fun v => by rw [changeEntry_node]) (fun y => rfl) rfl ht

end Sys2Proof.Answers

/-! PROOF. What each kind of frame does at its sender once sent (9.3, 9.5): O53. -/

namespace Sys2Proof.Answers

open Sys2Proof.Machine Sys2Proof.Claims Sys2Proof.Keep

variable {c : Instr} {s t u v w : State} {x : Sending} {n : Station} {f : Frame} {q : Option Byte} {rest : List TxFrame}
  {b : Badge} {r y : AlarmRecord} {l : List AlarmRecord} {e : ChangeEntry} {p : Priority} {k : AreaConfig} {load : Area}

/-! ### An ALARM CHANGE at its feed station (R6 to R8) -/

/-- The head ALARM CHANGE frame holds one entry, which its sender's feed check passes. -/
structure SendsEntry (s : State) (x : Sending) (n : Station) (e : ChangeEntry) (q : Option Byte) (k : AreaConfig) : Prop where
  sends  : Sends s x n
  cls    : x.cls = .change
  frame  : s.tx.changeFrame = some ⟨.alarmChange [e], q⟩
  config : (s.area e.id.area.toNat).config = some k
  feed   : k.feed = n

theorem SendsEntry.fed (h : SendsEntry s x n e q k) : (ended s).feedCheck n e.id = true :=
  (feedCheck_iff _ _ _).mpr ⟨k, h.config, h.feed⟩

theorem SendsEntry.run (h : SendsEntry s x n e q k) (hv : (ended s).changeEntry n e = v) :
    exec .attemptEnd s = .next (wired (fun y => y) unheld v) :=
  exec_changeSent h.sends h.cls h.frame hv

/-- The state that a raise's record is put into, once its frame's place is free. -/
theorem raised_unheld (h : SendsEntry s x n e q k)
    (hu : u = { s with bus := { s.bus with sending := none, fails := 0 }, tx := { s.tx with changeFrame := none } })
    (hload : load = (s.area e.id.area.toNat).addLoad p)
    (hw : w = { u with
      areas := s.areas.set e.id.area.toNat load
      picture := { s.picture with arrivals := s.picture.arrivals + 1 }
      transfer := { s.transfer with pendingEvents := s.transfer.pendingEvents.filter fun y => y.id != e.id }
      port := { s.port with
        attention := if load.flood = (s.area e.id.area.toNat).flood then s.port.attention
          else plus s.port.attention .floodChange } }) :
    wired (fun y => y) unheld (raised e.id p (ended s)) = w ∧
      (raised e.id p (ended s)).inFlood e.id.area.toNat = load.flood := by
  refine ⟨by rw [hw, hu, hload]; rfl, ?_⟩
  rw [inFlood_raised (s := ended s) (by rw [show ((ended s).area _).config = some k from h.config]; exact Option.some_ne_none k),
    hload]
  rfl

theorem sent_newRaise (h : SendsEntry s x n e q k) (hkind : e.kind = 0x01) (hp : priorityOf e.priority.toNat = some p)
    (hw : wired (fun y => y) unheld (raised e.id p (ended s)) = w)
    (hflood : (raised e.id p (ended s)).inFlood e.id.area.toNat = load.flood)
    (hnone : findRecord e.id s.picture.list = none) (hroom : s.picture.list.length < 256)
    (hr : r = ⟨e.id, p, false, .unack, 1, e.raiseTime, s.clock.now, s.picture.arrivals, false, n⟩) :
    ∃ t, exec .attemptEnd s = .next t ∧ OthersKept e.id s t ∧ ListChange w t ∧ WindowFollows s t ∧
      findRecord e.id t.picture.list = some r ∧ Annunciates (sounds t r load.flood) w t := by
  have hstate := (changeEntry_raise h.fed hkind hp).trans ((raise_new (s := ended s) (n := n) (p := p) (rt := e.raiseTime)
    hnone).trans (newRaise_room (s := ended s) hroom))
  have hrecord : raisedRecord n e.id p e.raiseTime (ended s) = r := hr.symm
  rw [hrecord, hflood, show (ended s).picture = s.picture from rfl] at hstate
  have hands := (handsOn_soundFor (place r s.picture.list) r load.flood (raised e.id p (ended s))).wired
    (g := fun y => y) (w := unheld)
  rw [hw] at hands
  have hid : r.id = e.id := by rw [hr]
  have hrows : w.rows = s.rows := by rw [← hw]; exact rows_raised e.id p (ended s)
  have hwindow : w.window = s.window := by rw [← hw]; rfl
  refine ⟨_, h.run hstate, fun other ho => ?_, hands.change, windowFollows_of_same hrows hwindow hands.window, ?_,
    hands.annunciate⟩
  · rw [hands.list]
    exact othersKept_place hid other ho
  · rw [hands.list, findRecord_place _ _ _ fun _ => hnone, if_pos hid]

theorem sent_reRaise (h : SendsEntry s x n e q k) (hkind : e.kind = 0x01) (hp : priorityOf e.priority.toNat = some p)
    (hw : wired (fun y => y) unheld (raised e.id p (ended s)) = w)
    (hflood : (raised e.id p (ended s)).inFlood e.id.area.toNat = load.flood)
    (hy : findRecord e.id s.picture.list = some y)
    (hr : r = { y with
      priority := p, cleared := false
      handling := if y.handling.isAck = true then .unack else y.handling
      occurrence := if y.occurrence = 0xFF then 0xFF else y.occurrence + 1
      raiseTime := e.raiseTime, arrivalSec := s.clock.now, arrivalSeq := s.picture.arrivals
      escalated := false, feed := n }) :
    ∃ t, exec .attemptEnd s = .next t ∧ OthersKept e.id s t ∧ ListChange w t ∧
      findRecord e.id t.picture.list = some r ∧ Annunciates (sounds t r load.flood) w t ∧
      t.window.top = (if t.scoped.length ≤ s.window.top then t.scoped.length - 1 else s.window.top) ∧
      t.window.changed = (s.window.changed || viewMoved s t || s.inView e.id || t.inView e.id) := by
  have hid : y.id = e.id := (findRecord_some hy).2
  have hrecord : reRaisedRecord n p e.raiseTime y (ended s) = r := by
    rw [hr, reRaisedRecord, AlarmRecord.reraised, succSat_eq]
    rfl
  have hstate := raise_found (s := ended s) (n := n) (p := p) (rt := e.raiseTime) hy
  rw [← hid, reRaise_eq, hid, hrecord, hflood, show (ended s).picture = s.picture from rfl] at hstate
  have hands := (handsOn_soundFor (moveRecord r s.picture.list) r load.flood (raised e.id p (ended s))).wired
    (g := fun y => y) (w := unheld)
  rw [hw] at hands
  have hrid : r.id = e.id := by rw [hr]; exact hid
  have hrows : w.rows = s.rows := by rw [← hw]; exact rows_raised e.id p (ended s)
  have hwindow : w.window = s.window := by rw [← hw]; rfl
  have hrun := h.run ((changeEntry_raise h.fed hkind hp).trans hstate)
  have hshown : ∀ (before : Bool) (z : State), wired (fun y => y) unheld (shownIn e.id before z) =
      shownIn e.id before (wired (fun y => y) unheld z) := fun _ _ => rfl
  have hview : (ended s).inView e.id = s.inView e.id := rfl
  rw [hshown, hview] at hrun
  generalize (State.setList (moveRecord r s.picture.list) (raised e.id p (ended s))).soundFor r load.flood = z at hands hrun
  replace hands : HandsOn (sounds (wired (fun y => y) unheld z) r load.flood) (moveRecord r s.picture.list) w
    (wired (fun y => y) unheld z) := hands
  generalize wired (fun y => y) unheld z = t at hands hrun
  obtain ⟨htop, hchanged⟩ := windowFollows_of_same hrows hwindow hands.window
  refine ⟨_, hrun, fun other ho => ?_, listChange_trans hands.change rfl, ?_, hands.annunciate, htop, ?_⟩
  · exact (congrArg (findRecord other) hands.list).trans (findRecord_moveRecord_other (hrid ▸ ho))
  · exact (congrArg (findRecord e.id) hands.list).trans (hrid ▸ findRecord_moveRecord_self r _)
  · show (t.window.changed || s.inView e.id || t.inView e.id) = _
    rw [hchanged]
    rfl

theorem sent_clear (h : SendsEntry s x n e q k) (hkind : e.kind = 0x02)
    (hu : u = { s with bus := { s.bus with sending := none, fails := 0 }, tx := { s.tx with changeFrame := none } })
    (hr : findRecord e.id s.picture.list = some r) (hno : r.cleared = false) :
    ∃ t, exec .attemptEnd s = .next t ∧ ListChange u t ∧ WindowFollows s t ∧ OthersKept e.id s t ∧ Annunciates false u t ∧
      findRecord e.id t.picture.list = if r.handling.isAck = true then none else some { r with cleared := true } := by
  have hid : r.id = e.id := (findRecord_some hr).2
  have hstate := h.run ((changeEntry_clear h.fed hkind).trans (clear_found (s := ended s) hr hno))
  have hands := (handsOn_setList (cleared r s.picture.list) (ended s)).wired (g := fun y => y) (w := unheld)
  rw [unheld_eq, ← hu] at hands
  refine sentChange_of (demand := fun _ => false) hstate hands
    (windowFollows_of_same (by rw [hu]; rfl) (by rw [hu]) hands.window) ?_ fun other ho =>
      findRecord_cleared_other (hid ▸ ho)
  rw [← hid] at hr ⊢
  exact findRecord_cleared hr

/-! ### An echo failure -/

theorem line_stopped (x : Sending) (l : LineName) :
    x.stop l = if l = .a then { x with stoppedA := true } else { x with stoppedB := true } := by
  cases l <;> rfl

theorem stopped_eq (x : Sending) (l : LineName) (h : (l = .a ∧ x.stoppedA = false) ∨ (l = .b ∧ x.stoppedB = false)) :
    x.stopped l = false := by
  rcases h with ⟨rfl, h⟩ | ⟨rfl, h⟩ <;> exact h

/-- A line that fails the echo check (R138, R143). -/
theorem echo_failure {l : LineName} (h : s.bus.sending = some x)
    (hl : (l = .a ∧ x.stoppedA = false) ∨ (l = .b ∧ x.stoppedB = false)) (hdue : (s.line l).silentDue = false) :
    ∃ t, exec (.echoCheckFailure l) s = .next t ∧
      t = { s with
        bus := t.bus, node := { s.node with reports := { s.node.reports with echoFault := true, lineDisturbed := true } }
        port := { s.port with
          attention := if (s.line l).state.code = 1 then s.port.attention
            else plus s.port.attention .lineFault }
        tx := { s.tx with
          presence := s.tx.presence.map fun p =>
            { p with again := { p.again with echoFault := true, lineDisturbed := true } }
          nextPresence := s.tx.nextPresence.map fun p =>
            { p with again := { p.again with echoFault := true, lineDisturbed := true } } } } ∧
      t.bus.sending = some (if l = .a then { x with stoppedA := true } else { x with stoppedB := true }) ∧
      t.line l = { s.line l with state := .disturbed s.clock.now } ∧ (∀ m, m ≠ l → t.line m = s.line m) ∧
      t.bus.seq = s.bus.seq ∧ t.bus.lastSeq = s.bus.lastSeq ∧ t.bus.fails = s.bus.fails := by
  refine ⟨_, congrArg Host.Outcome.next (echoFail_driving h (stopped_eq x l hl) hdue), ?_, ?_, ?_, ?_, ?_, ?_, ?_⟩
  · unfold State.setReport marked undriven
    dsimp only
    rw [Option.map_map, Option.map_map]
    cases l <;> rfl
  · rw [← line_stopped]
    cases l <;> rfl
  · cases l <;> rfl
  · intro m hm
    cases l with
    | a => cases m with
      | a => exact absurd rfl hm
      | b => rfl
    | b => cases m with
      | a => rfl
      | b => exact absurd rfl hm
  · cases l <;> rfl
  · cases l <;> rfl
  · cases l <;> rfl

end Sys2Proof.Answers

/-! PROOF. The end of attempts, each kind of frame at its sender: O53. -/

namespace Sys2Proof.Answers

open Sys2Proof.Machine Sys2Proof.Claims Sys2Proof.Keep

variable {s t u v : State} {x : Sending} {n : Station} {f : Frame} {q : Option Byte} {rest : List TxFrame}
  {b : Badge} {r : AlarmRecord}

/-! ### An urgent frame at its sender -/

/-- The head of the urgent queue counts as sent by an attempt of this station, whose number is 1 to 16. -/
structure SendsUrgent (s : State) (x : Sending) (n : Station) (f : Frame) (q : Option Byte) (rest : List TxFrame) :
    Prop where
  sends : Sends s x n
  cls   : x.cls = .urgent
  head  : s.tx.urgent = ⟨f, q⟩ :: rest
  low   : 1 ≤ n.toNat
  high  : n.toNat ≤ 16

theorem SendsUrgent.run (h : SendsUrgent s x n f q rest) (hv : (ended s).applyFrame n none f = v) :
    exec .attemptEnd s = .next (wired (fun y => y) tailed v) := exec_urgentSent h.sends h.cls h.head hv

theorem SendsUrgent.ok (h : SendsUrgent s x n f q rest) : stationOk n = true := (stationOk_iff n).mpr ⟨h.low, h.high⟩

/-- A state after the attempt of an urgent frame that changes nothing more here. -/
def afterUrgent (rest : List TxFrame) (s : State) : State :=
  { s with bus := { s.bus with sending := none, fails := 0 }, tx := { s.tx with urgent := rest } }

theorem SendsUrgent.freed (h : SendsUrgent s x n f q rest) : wired (fun y => y) tailed (ended s) = afterUrgent rest s :=
  tailed_eq h.head

theorem sent_quiet (h : SendsUrgent s x n f q rest)
    (hf : f = .pictureRequest ∨ (∃ number dest b areas xs, f = .offer number dest b areas xs) ∨
      (∃ number dest, f = .withdraw number dest) ∨
      (∃ origin number d r b, f = .answer origin number d r b ∧ origin ≠ n)) :
    exec .attemptEnd s = .next (afterUrgent rest s) := by
  rw [h.run (applyFrame_quiet h.sends.own hf), h.freed]

theorem sent_ack {e : AckEntry} (h : SendsUrgent s x n (.ack b [e]) q rest) (hr : findRecord e.id s.picture.list = some r)
    (hocc : r.occurrence = e.occurrence) (hunack : r.handling = .unack) (hno : r.cleared = false) :
    ∃ t, exec .attemptEnd s = .next t ∧ ListChange (afterUrgent rest s) t ∧ WindowFollows s t ∧ OthersKept e.id s t ∧
      Annunciates false (afterUrgent rest s) t ∧
      findRecord e.id t.picture.list = some { r with handling := .ack n b, escalated := false } := by
  have hid : r.id = e.id := (findRecord_some hr).2
  refine sentChange_urgent (demand := fun _ => false) (fun _ => rfl) h.sends h.cls h.head
    (ackEntry_match (s := ended s) hr hocc hunack) (handsOn_setList _ _) rfl ?_
    fun other ho => findRecord_acknowledged_other (hid ▸ ho)
  have hself := findRecord_acknowledged (n := n) (b := b) (r := r) (l := s.picture.list) (hid ▸ hr)
  rw [if_neg (by rw [hno]; exact Bool.false_ne_true)] at hself
  exact (congrArg (fun k => findRecord k _) hid.symm).trans hself

theorem sent_stale {e : AckEntry} (h : SendsUrgent s x n (.ack b [e]) q rest)
    (hr : findRecord e.id s.picture.list = some r) (hless : e.occurrence.toNat < r.occurrence.toNat) :
    exec .attemptEnd s = .next { afterUrgent rest s with
      picture := { s.picture with lastStale := some e.id }, port := flagged s .ackStale } := by
  rw [h.run (ackEntry_stale (s := ended s) h.sends.own hr hless), ← h.freed]
  rfl

theorem sent_shelve {k : AlarmId} {minutes : Half} (h : SendsUrgent s x n (.shelve k minutes b) q rest)
    (hr : findRecord k s.picture.list = some r) (hroom : shelvedCount k.area k s.picture.list < s.shelveLimit k.area) :
    ∃ t, exec .attemptEnd s = .next t ∧ ListChange (afterUrgent rest s) t ∧ WindowFollows s t ∧ OthersKept k s t ∧
      Annunciates false (afterUrgent rest s) t ∧
      findRecord k t.picture.list = some { r with
        handling := .shelved (s.clock.now + BitVec.ofNat 32 (minutes.toNat * 60)) n b, escalated := false } :=
  sentChange_urgent (demand := fun _ => false) (fun _ => rfl) h.sends h.cls h.head
    (applyShelve_found (s := ended s) hr hroom) (handsOn_setList _ _) rfl
    (findRecord_changeRecord_self (fun _ => rfl) hr) fun _ ho => findRecord_changeRecord_other (fun _ => rfl) ho

theorem sent_unshelve {k : AlarmId} (h : SendsUrgent s x n (.unshelve k) q rest)
    (hr : findRecord k s.picture.list = some r) (hshelved : r.handling.isShelved = true) :
    ∃ t, exec .attemptEnd s = .next t ∧ ListChange (afterUrgent rest s) t ∧ WindowFollows s t ∧ OthersKept k s t ∧
      Annunciates (!r.cleared && sounds t { r with handling := .unack } (s.area k.area.toNat).flood) (afterUrgent rest s) t ∧
      findRecord k t.picture.list =
        if r.cleared = true then none else some { r with handling := .unack, arrivalSec := s.clock.now } := by
  have hid : r.id = k := (findRecord_some hr).2
  have hstate := applyUnshelve_shelved (s := ended s) hr hshelved
  unfold State.unshelveRecord at hstate
  by_cases hcleared : r.cleared = true
  · rw [if_pos hcleared] at hstate
    simp only [hcleared, if_true, Bool.not_true, Bool.false_and]
    refine sentChange_urgent (demand := fun _ => false) (fun _ => rfl) h.sends h.cls h.head hstate
      (handsOn_setList _ _) rfl ?_ fun other ho => findRecord_dropRecord_other (hid ▸ ho)
    rw [hid, findRecord_dropRecord, if_pos rfl]
  · rw [if_neg hcleared] at hstate
    simp only [hcleared, Bool.not_false, Bool.true_and, Bool.false_eq_true, if_false]
    have hrecord : { r with cleared := false } = r := by rw [← Bool.eq_false_iff.mpr hcleared]
    refine sentChange_urgent
      (demand := fun t => sounds t { r with handling := .unack } (s.area k.area.toNat).flood) (fun _ => rfl)
      h.sends h.cls h.head hstate (handsOn_soundFor _ _ _ _) rfl ?_
      fun other ho => findRecord_moveRecord_other (hid ▸ ho)
    refine (findRecord_unshelved hid).trans (congrArg some ?_)
    rw [← hrecord]
    rfl

/-! ### An own claim -/

/-- The claim of a CLAIM or TAKE frame. -/
def sourceOf (f : Frame) (a : Byte) (m : Half) (b : Badge) : ClaimSource :=
  if f = .claim 0x02 a m b then .takeover else if f = .take a m b then .take else .claim

variable {a : Byte} {m : Half} {k : AreaConfig}

theorem applyFrame_ownClaim (hown : s.isOwn n = true)
    (hf : f = .claim 0x01 a m b ∨ f = .claim 0x02 a m b ∨ f = .take a m b) :
    s.applyFrame n none f = s.applyClaim (sourceOf f a m b) true false ⟨a.toNat, m, n, b⟩ := by
  have hsource : sourceOf (.claim 0x01 a m b) a m b = .claim ∧ sourceOf (.claim 0x02 a m b) a m b = .takeover ∧
      sourceOf (.take a m b) a m b = .take := by
    refine ⟨?_, if_pos rfl, ?_⟩
    · refine (if_neg ?_).trans (if_neg fun h => by cases h)
      intro h
      exact absurd (Frame.claim.inj h).1 (by decide)
    · exact (if_neg fun h => by cases h).trans (if_pos rfl)
  obtain ⟨hclaim, htakeover, htake⟩ := hsource
  rcases hf with rfl | rfl | rfl
  · rw [hclaim]
    show s.applyClaim (claimSourceOf 0x01) (s.isOwn n) false _ = _
    rw [hown]
    rfl
  · rw [htakeover]
    show s.applyClaim (claimSourceOf 0x02) (s.isOwn n) false _ = _
    rw [hown]
    rfl
  · rw [htake]
    show s.applyClaim .take (s.isOwn n) false _ = _
    rw [hown]

theorem sourceOf_takeover_iff : (sourceOf f a m b == .takeover) = true ↔ f = .claim 0x02 a m b := by
  unfold sourceOf
  by_cases h : f = .claim 0x02 a m b
  · rw [if_pos h]
    exact ⟨fun _ => h, fun _ => rfl⟩
  · rw [if_neg h]
    refine ⟨fun hb => ?_, fun hf => absurd hf h⟩
    split at hb
    · exact absurd hb (by decide)
    · exact absurd hb (by decide)

theorem sent_claimAccepted (h : SendsUrgent s x n f q rest)
    (hf : f = .claim 0x01 a m b ∨ f = .claim 0x02 a m b ∨ f = .take a m b) (hk : (s.area a.toNat).config = some k)
    (hbeats : beats n m (s.area a.toNat) = true) :
    exec .attemptEnd s = .next { handedOn a.toNat s { afterUrgent rest s with
        areas := s.areas.set a.toNat { s.area a.toNat with hold := .held n b, serial := m } } with
      port := if f = .claim 0x02 a m b then flagged s .areaTaken else s.port } := by
  have hconfig : ((ended s).area a.toNat).config ≠ none := by
    rw [show ((ended s).area a.toNat).config = some k from hk]
    exact Option.some_ne_none k
  have hfreed : wired (fun y => y) tailed (handedOn a.toNat (ended s) (heldBy a.toNat (.held n b) m (ended s))) =
      handedOn a.toNat s { afterUrgent rest s with
        areas := s.areas.set a.toNat { s.area a.toNat with hold := .held n b, serial := m } } := by
    rw [← handedOn_wired, ← h.freed]
    rfl
  have hport := port_handedOn a.toNat s { afterUrgent rest s with
    areas := s.areas.set a.toNat { s.area a.toNat with hold := .held n b, serial := m } }
  rw [h.run ((applyFrame_ownClaim (s := ended s) h.sends.own hf).trans
    (applyClaim_accepted (s := ended s) h.ok h.sends.own hconfig hbeats))]
  refine congrArg Host.Outcome.next ?_
  rw [← hfreed] at hport ⊢
  generalize handedOn a.toNat (ended s) (heldBy a.toNat (.held n b) m (ended s)) = v at hport ⊢
  have hsame : v.port = s.port := hport
  unfold State.latchIf
  by_cases htake : f = .claim 0x02 a m b
  · rw [if_pos (sourceOf_takeover_iff.mpr htake), if_pos htake, flagged, ← hsame]
    rfl
  · rw [if_neg (fun hb => htake (sourceOf_takeover_iff.mp hb)), if_neg htake, ← hsame]
    rfl

theorem sent_claimRejected (h : SendsUrgent s x n f q rest)
    (hf : f = .claim 0x01 a m b ∨ f = .claim 0x02 a m b ∨ f = .take a m b) (hk : (s.area a.toNat).config = some k)
    (hbeats : beats n m (s.area a.toNat) = false) :
    exec .attemptEnd s = .next { afterUrgent rest s with lastLost := some a.toNat, port := flagged s .claimLost } := by
  have hconfig : ((ended s).area a.toNat).config ≠ none := by
    rw [show ((ended s).area a.toNat).config = some k from hk]
    exact Option.some_ne_none k
  have hsource : sourceOf f a m b = .claim ∨ sourceOf f a m b = .takeover ∨ sourceOf f a m b = .take := by
    unfold sourceOf
    split
    · exact .inr (.inl rfl)
    · split
      · exact .inr (.inr rfl)
      · exact .inl rfl
  rw [h.run ((applyFrame_ownClaim (s := ended s) h.sends.own hf).trans
    (applyClaim_rejected (s := ended s) h.ok hconfig hbeats hsource)), ← h.freed]
  rfl

/-! ### An own COMMIT (R120) -/

theorem sent_commit {number : Byte} {dest : Station} {es : List CommitEntry} {y : AreaSet × State}
    (h : SendsUrgent s x n (.commit number dest b es) q rest) (hdest : stationOk dest = true)
    (hy : y = es.foldl (committedTo dest b (commitOrphaned dest s) false) (0, { afterUrgent rest s with tx := s.tx }))
    (hv : v = { y.2 with tx := { y.2.tx with urgent := y.2.tx.urgent.tail } }) :
    (∀ o, s.handover.outgoing = .committing o → o.number = number →
      exec .attemptEnd s = .next { v with
        handover := { v.handover with outgoing := .idle, lastOut := some ⟨number, o.target, .committed y.1⟩ }
        port := flagged v .offerEnded }) ∧
    ((∀ o, s.handover.outgoing = .committing o → o.number ≠ number) → exec .attemptEnd s = .next v) := by
  have hfold : es.foldl (committedTo dest b (commitOrphaned dest (ended s)) false) (0, ended s) = y := hy.symm
  have happlied : (ended s).applyFrame n none (.commit number dest b es) = y.2.commitEndOut number y.1 := by
    rw [← hfold]
    exact applyCommit_own h.sends.own hdest
  have hcommitting : committingTo y.2.handover.outgoing = committingTo s.handover.outgoing := by
    rw [← hfold, committingTo_foldl]
    rfl
  refine ⟨fun o ho hnumber => ?_, fun hother => ?_⟩
  · rw [h.run happlied, commitEndOut_committing (k := number) (m := o.target)
      (by rw [hcommitting, ho, committingTo, hnumber]), hv]
    rfl
  · rw [h.run happlied, commitEndOut_other, hv]
    · rfl
    · intro z hz
      rw [hcommitting] at hz
      cases hout : s.handover.outgoing with
      | committing o =>
        rw [hout] at hz
        rw [← Option.some.inj hz]
        exact hother o hout
      | idle => rw [hout] at hz; cases hz
      | offered o => rw [hout] at hz; cases hz

/-! ### Picture frames -/

theorem freePlace_picture (s : State) : s.freePlace .picture = { s with tx := { s.tx with pictureFrame := none } } := rfl

/-- Settles O53: the attempt that failed, and the one that was sent: its frame at its sender, kind by kind. -/
theorem attemptsEnd : Obligations.AttemptsEnd := by
  unfold Obligations.AttemptsEnd
  intro s
  refine ⟨fun h => ⟨congrArg _ (endAttempt_idle h), fun l => congrArg _ (echoFail_idle h l)⟩,
    fun x l h hl hdue => echo_failure h hl hdue, fun x h hA hB => ?failed,
    fun x n q rest u hsending hcls hdriven hn hlow hhigh hu => ?urgent,
    fun x n e q u hsending hcls hdriven hn hlow hhigh hframe hu => ?change,
    fun x e es q t hsending hcls hdriven hframe hes ht => sentChanges_inTurn hsending hdriven hcls hframe ht,
    fun x n f y u hsending hcls hdriven hn hframe hserving hu => ?picture,
    fun x n p body hsending hcls hdriven hn hp hbody hok => ?presence⟩
  case failed =>
    rw [exec_attemptEnd, endAttempt_failed h hA hB, attemptFailed_eq]
    by_cases hnext : x.cls = .presence ∧ s.tx.nextPresence ≠ none
    · rw [if_pos hnext, if_pos hnext]
      rfl
    · rw [if_neg hnext, if_neg hnext]
      rfl
  case urgent =>
    have hafter : afterUrgent rest s = u := hu.symm
    have hsends : Sends s x n := ⟨hsending, hdriven, hn⟩
    rw [← hafter]
    refine ⟨fun hhead => sent_quiet ⟨hsends, hcls, hhead, hlow, hhigh⟩ (.inl rfl),
      fun b e r hhead hr hocc hunack hno => sent_ack ⟨hsends, hcls, hhead, hlow, hhigh⟩ hr hocc hunack hno,
      fun b e r hhead hr hless => sent_stale ⟨hsends, hcls, hhead, hlow, hhigh⟩ hr hless,
      fun k d b r hhead hr hroom => sent_shelve ⟨hsends, hcls, hhead, hlow, hhigh⟩ hr hroom,
      fun k r hhead hr hshelved => sent_unshelve ⟨hsends, hcls, hhead, hlow, hhigh⟩ hr hshelved,
      fun f k a m b hhead hf hk => ⟨fun hbeats => ?_, fun hbeats => ?_⟩,
      fun number dest b es y v hhead hlow' hhigh' hy hv => sent_commit ⟨hsends, hcls, hhead, hlow, hhigh⟩
        ((stationOk_iff dest).mpr ⟨hlow', hhigh'⟩) hy hv,
      fun b e es t hhead hes ht => sentAcks_inTurn hsends hcls hhead ht,
      fun f hhead hf => sent_quiet ⟨hsends, hcls, hhead, hlow, hhigh⟩ (.inr hf)⟩
    · exact sent_claimAccepted ⟨hsends, hcls, hhead, hlow, hhigh⟩ hf hk ((beats_iff _ _ _).mpr hbeats)
    · exact sent_claimRejected ⟨hsends, hcls, hhead, hlow, hhigh⟩ hf hk (beats_eq_false hbeats)
  case change =>
    have hsends : Sends s x n := ⟨hsending, hdriven, hn⟩
    refine ⟨fun hno => ?_, fun k p v w hk hfeed hkind hp hv hw => ?_, fun k r hk hfeed hkind hr hno => ?_⟩
    · rw [exec_changeSent hsends hcls hframe (changeEntry_mismatch (s := ended s) hno), hu]
      rfl
    · have hentry : SendsEntry s x n e q k := ⟨hsends, hcls, hframe, hk, hfeed⟩
      obtain ⟨hraised, hflood⟩ := raised_unheld hentry hu hv hw
      exact ⟨fun r hnone hroom hr => sent_newRaise hentry hkind hp hraised hflood hnone hroom hr,
        fun y r hy hr => sent_reRaise hentry hkind hp hraised hflood hy hr⟩
    · exact sent_clear ⟨hsends, hcls, hframe, hk, hfeed⟩ hkind hu hr hno
  case picture =>
    have hown : (ended s).isOwn s.own = true := by
      rw [own_of_number hn]
      exact (isOwn_iff _ n).mpr hn
    refine ⟨fun m i rs hf => ?_, fun m k hf hcurrent => ?_⟩
    · rw [exec_attemptEnd, endAttempt_picture hsending hcls hdriven hframe
        (applyFrame_ownPicture hown (.inl ⟨m, i, rs, hf⟩)), hu]
      by_cases hcurrent : f.current = true
      · rw [streamSent_frame (s := ended s) hframe hserving hcurrent hf, if_pos hcurrent]
        rfl
      · rw [streamSent_old (s := ended s) hframe (Bool.eq_false_iff.mpr hcurrent), if_neg hcurrent, ← hserving]
        rfl
    · rw [exec_attemptEnd, endAttempt_picture hsending hcls hdriven hframe
        (applyFrame_ownPicture hown (.inr ⟨m, k, hf⟩)), streamSent_end (s := ended s) hframe hserving hcurrent hf,
        endStream_streaming (s := ended s) hserving, hu]
      rfl
  case presence =>
    rw [exec_attemptEnd, endAttempt_presence hsending hcls hdriven hn hp hbody
      (hok.imp_right fun h => (stationOk_iff n).mpr h)]
    rfl

end Sys2Proof.Answers

/-! PROOF. Work done record by record over the alarm list, and shelves that run out (2.8, 2.9). -/

namespace Sys2Proof.Answers

open Sys2Proof.Machine Sys2Proof.Claims Sys2Proof.Keep

variable {s t u v : State} {r x : AlarmRecord} {l m : List AlarmRecord} {id other : AlarmId} {ids : List AlarmId}

/-! ### One step for each id -/

/-- A step that concerns the record of its own id, and keeps of the state what `kept` says. -/
structure ByRecord (step : AlarmId → State → State) (kept : State → State → Prop) : Prop where
  others : ∀ id v other, other ≠ id → findRecord other (step id v).picture.list = findRecord other v.picture.list
  keeps  : ∀ id v, kept v (step id v)
  refl   : ∀ v, kept v v
  trans  : ∀ v w z, kept v w → kept w z → kept v z

variable {step : AlarmId → State → State} {kept : State → State → Prop}

theorem ByRecord.foldl_keeps (h : ByRecord step kept) (ids : List AlarmId) (s : State) :
    kept s (ids.foldl (fun s id => step id s) s) := by
  induction ids generalizing s with
  | nil => exact h.refl s
  | cons id rest ih => exact h.trans _ _ _ (h.keeps id s) (ih _)

theorem ByRecord.foldl_unlisted (h : ByRecord step kept) (hno : id ∉ ids) (s : State) :
    findRecord id (ids.foldl (fun s id => step id s) s).picture.list = findRecord id s.picture.list := by
  induction ids generalizing s with
  | nil => rfl
  | cons k rest ih =>
    obtain ⟨hne, hrest⟩ := not_or.mp (mt List.mem_cons.mpr hno)
    exact (ih hrest _).trans (h.others k s id hne)

/-- When the turn of an id comes its record is as it was, and the other turns leave what its own makes of it. -/
theorem ByRecord.foldl_turn (h : ByRecord step kept) (hids : ids.Nodup) (hid : id ∈ ids) (s : State) :
    ∃ (v : State) (rest : List AlarmId), kept s v ∧ findRecord id v.picture.list = findRecord id s.picture.list ∧ id ∉ rest ∧
      ids.foldl (fun s id => step id s) s = rest.foldl (fun s id => step id s) (step id v) := by
  induction ids generalizing s with
  | nil => cases hid
  | cons k rest ih =>
    obtain ⟨hk, hrest⟩ := List.nodup_cons.mp hids
    by_cases hsame : id = k
    · subst hsame
      exact ⟨s, rest, h.refl s, rfl, hk, rfl⟩
    · obtain ⟨v, later, hv, hrecord, hlater, hturn⟩ :=
        ih hrest ((List.mem_cons.mp hid).resolve_left hsame) (step k s)
      exact ⟨v, later, h.trans _ _ _ (h.keeps k s) hv, hrecord.trans (h.others k s id hsame), hlater, hturn⟩

theorem findRecord_of_mem (hids : (l.map AlarmRecord.id).Nodup) (hr : r ∈ l) : findRecord r.id l = some r := by
  cases h : findRecord r.id l with
  | none => exact absurd rfl (findRecord_none.mp h r hr)
  | some x =>
    obtain ⟨hx, hid⟩ := findRecord_some h
    rw [eq_of_id_eq hids hx hr hid]

/-! ### One shelf (R34) -/

/-- A shelf that has run out, of a handling. -/
def shelfOver (now : Sec) : Handling → Bool
  | .shelved e _ _ => expired now e
  | .unack => false
  | .ack _ _ => false

theorem shelfOver_iff : shelfOver s.clock.now r.handling = true ↔ RunOut s r := by
  unfold RunOut
  cases h : r.handling with
  | unack => exact ⟨fun hb => (Bool.false_ne_true hb).elim, fun ⟨_, _, _, hs, _⟩ => by cases hs⟩
  | ack t b => exact ⟨fun hb => (Bool.false_ne_true hb).elim, fun ⟨_, _, _, hs, _⟩ => by cases hs⟩
  | shelved e n b =>
    refine ⟨fun hb => ⟨e, n, b, rfl, of_decide_eq_true hb⟩, fun ⟨e', n', b', hs, hlt⟩ => ?_⟩
    obtain ⟨rfl, -, -⟩ := Handling.shelved.inj hs
    exact decide_eq_true hlt

/-- The shelf of the record with an id has run out. -/
def runsOut (s : State) (id : AlarmId) : Bool := (findRecord id s.picture.list).any fun r => shelfOver s.clock.now r.handling

theorem expireShelf_left (h : runsOut s id = false) : s.expireShelf id = s := by
  unfold State.expireShelf
  unfold runsOut at h
  cases hr : findRecord id s.picture.list with
  | none => rfl
  | some r =>
    rw [hr, Option.any_some] at h
    dsimp only
    cases hh : r.handling with
    | unack => rfl
    | ack t b => rfl
    | shelved e t b =>
      rw [hh] at h
      exact if_neg (by rw [show expired s.now e = false from h]; exact Bool.false_ne_true)

theorem expireShelf_over (hr : findRecord id s.picture.list = some r) (h : shelfOver s.clock.now r.handling = true) :
    s.expireShelf id = (s.floodFound id.area.toNat).2.unshelveRecord (s.floodFound id.area.toNat).1 r := by
  unfold State.expireShelf
  rw [hr]
  dsimp only
  cases hh : r.handling with
  | unack => rw [hh] at h; cases h
  | ack t b => rw [hh] at h; cases h
  | shelved e t b =>
    rw [hh] at h
    exact if_pos h

/-- A free choice of the flood state leaves all but the count of the choices (log entry 4). -/
theorem floodFound_eq (a : Nat) (s : State) :
    (s.floodFound a).2 = { s with freeCount := (s.floodFound a).2.freeCount } := by
  unfold State.floodFound
  split
  · rfl
  · split <;> rfl

theorem floodFound_flood {a : Nat} (h : (s.area a).flood = true) : s.floodFound a = (true, s) := if_pos h

theorem floodFound_normal {a : Nat} (h : (s.area a).flood = false) (hno : s.second.floodEnded.getLsbD a = false) :
    s.floodFound a = (false, s) := by
  unfold State.floodFound
  rw [show s.inFlood a = false from h, hno]
  rfl

/-- The list after the end of a record's shelf (R33, R34). -/
def unshelved (now : Sec) (r : AlarmRecord) (l : List AlarmRecord) : List AlarmRecord :=
  if r.cleared then dropRecord r.id l else moveRecord { r with handling := .unack, arrivalSec := now } l

theorem handsOn_unshelve (u : State) (flood : Bool) (r : AlarmRecord) :
    HandsOn (!r.cleared && sounds (u.unshelveRecord flood r) { r with handling := .unack } flood)
      (unshelved u.clock.now r u.picture.list) u (u.unshelveRecord flood r) := by
  unfold State.unshelveRecord unshelved
  by_cases hcleared : r.cleared = true
  · simp only [hcleared, if_true, Bool.not_true, Bool.false_and]
    exact handsOn_setList _ _
  · simp only [hcleared, Bool.not_false, Bool.true_and, Bool.false_eq_true, if_false]
    exact handsOn_soundFor _ _ _ _

theorem findRecord_unshelved_self (now : Sec) (r : AlarmRecord) (l : List AlarmRecord) :
    findRecord r.id (unshelved now r l) =
      if r.cleared = true then none else some { r with handling := .unack, arrivalSec := now } := by
  unfold unshelved
  split
  · rw [findRecord_dropRecord, if_pos rfl]
  · exact findRecord_moveRecord_self { r with handling := .unack, arrivalSec := now } l

theorem findRecord_unshelved_other (now : Sec) (l : List AlarmRecord) (h : other ≠ r.id) :
    findRecord other (unshelved now r l) = findRecord other l := by
  unfold unshelved
  split
  · exact findRecord_dropRecord_other h
  · exact findRecord_moveRecord_other h

theorem nodup_unshelved (now : Sec) (r : AlarmRecord) (h : (l.map AlarmRecord.id).Nodup) :
    ((unshelved now r l).map AlarmRecord.id).Nodup := by
  have hdrop : ((dropRecord r.id l).map AlarmRecord.id).Nodup := (List.filter_sublist.map _).nodup h
  unfold unshelved
  split
  · exact hdrop
  · refine nodup_ids_place hdrop fun x hx => ?_
    exact bne_iff_ne.mp (List.mem_filter.mp hx).2

/-- A change of the list, of the horn, lamp and window, and of the count of free choices. -/
def Listed (s t : State) : Prop := ListChange { s with freeCount := t.freeCount } t

theorem Listed.trans (h : Listed s t) (h' : Listed t u) : Listed s u :=
  listChange_trans (congrArg (fun z : State => { z with freeCount := u.freeCount }) h) h'

theorem Listed.clock (h : Listed s t) : t.clock = s.clock := (congrArg State.clock (show t = _ from h) :)

theorem Listed.now (h : Listed s t) : t.clock.now = s.clock.now := congrArg Clock.now h.clock

/-- The end of a shelf that has run out, with the flood state that it finds (R33, R34). -/
theorem expireShelf_ends (hr : findRecord id s.picture.list = some r) (h : shelfOver s.clock.now r.handling = true) :
    ∃ flood, ((s.area id.area.toNat).flood = true → flood = true) ∧
      ((s.area id.area.toNat).flood = false → s.second.floodEnded.getLsbD id.area.toNat = false → flood = false) ∧
      HandsOn (!r.cleared && sounds (s.expireShelf id) { r with handling := .unack } flood)
        (unshelved s.clock.now r s.picture.list) { s with freeCount := (s.expireShelf id).freeCount }
        (s.expireShelf id) := by
  refine ⟨(s.floodFound id.area.toNat).1, fun hf => by rw [floodFound_flood hf],
    fun hf hno => by rw [floodFound_normal hf hno], ?_⟩
  have hfound := floodFound_eq id.area.toNat s
  have hands := handsOn_unshelve (s.floodFound id.area.toNat).2 (s.floodFound id.area.toNat).1 r
  rw [← expireShelf_over hr h] at hands
  have hcount : (s.floodFound id.area.toNat).2.freeCount = (s.expireShelf id).freeCount :=
    (congrArg State.freeCount hands.change).symm
  rw [hcount] at hfound
  rw [hfound] at hands
  exact hands

theorem byRecord_expireShelf : ByRecord (fun id s => State.expireShelf id s) Listed where
  others id v other ho := by
    by_cases h : runsOut v id = true
    · unfold runsOut at h
      obtain ⟨r, hr, hover⟩ := (Option.any_eq_true _ _).mp h
      obtain ⟨flood, -, -, hands⟩ := expireShelf_ends hr hover
      rw [hands.list]
      exact findRecord_unshelved_other _ _ (by rw [(findRecord_some hr).2]; exact ho)
    · rw [expireShelf_left (Bool.eq_false_iff.mpr h)]
  keeps id v := by
    by_cases h : runsOut v id = true
    · unfold runsOut at h
      obtain ⟨r, hr, hover⟩ := (Option.any_eq_true _ _).mp h
      obtain ⟨flood, -, -, hands⟩ := expireShelf_ends hr hover
      exact hands.change
    · rw [expireShelf_left (Bool.eq_false_iff.mpr h)]
      rfl
  refl _ := rfl
  trans _ _ _ h h' := h.trans h'

/-! ### All shelves (R34) -/

theorem runsOut_of_record (h : findRecord other t.picture.list = findRecord other s.picture.list)
    (hnow : t.clock.now = s.clock.now) : runsOut t other = runsOut s other := by
  rw [runsOut, h, hnow]
  rfl

/-- Only the ids whose shelf has run out at the start have a turn that does something. -/
theorem foldl_expireShelf_filter (hids : ids.Nodup) (s : State) :
    ids.foldl (fun s id => State.expireShelf id s) s =
      (ids.filter (runsOut s)).foldl (fun s id => State.expireShelf id s) s := by
  induction ids generalizing s with
  | nil => rfl
  | cons k rest ih =>
    obtain ⟨hk, hrest⟩ := List.nodup_cons.mp hids
    by_cases hover : runsOut s k = true
    · have hsame : rest.filter (runsOut (s.expireShelf k)) = rest.filter (runsOut s) := by
        refine List.filter_congr fun other ho => ?_
        refine runsOut_of_record (byRecord_expireShelf.others k s other fun he => hk (he ▸ ho)) ?_
        exact (byRecord_expireShelf.keeps k s).now
      rw [List.filter_cons_of_pos hover, List.foldl_cons, List.foldl_cons, ih hrest, hsame]
    · rw [List.filter_cons_of_neg hover, List.foldl_cons, expireShelf_left (Bool.eq_false_iff.mpr hover)]
      exact ih hrest s

end Sys2Proof.Answers

/-! PROOF. The shelves that a second event has reached (2.8), and one response deadline (2.9, 2.10). -/

namespace Sys2Proof.Answers

open Sys2Proof.Machine Sys2Proof.Claims Sys2Proof.Keep

variable {s t u v : State} {r x : AlarmRecord} {l m : List AlarmRecord} {id other : AlarmId} {ids : List AlarmId}

/-! ### The shelf row (R34) -/

/-- A state whose shelves the row has taken up. -/
def shelfTaken (s : State) : State := { s with second := { s.second with shelf := false } }

theorem exec_shelfExpiry_done (h : s.second.shelf = false) : exec .shelfExpiry s = .next s :=
  congrArg Host.Outcome.next (if_neg (by rw [h]; exact Bool.false_ne_true))

theorem exec_shelfExpiry (h : s.second.shelf = true) : exec .shelfExpiry s =
    .next ((s.picture.list.map AlarmRecord.id).foldl (fun s id => State.expireShelf id s) (shelfTaken s)) :=
  congrArg Host.Outcome.next (if_pos h)

theorem nothing_runsOut (h : ∀ x ∈ l, x ∈ s.picture.list ∧ ¬RunOut s x) (hids : (s.picture.list.map AlarmRecord.id).Nodup) :
    ∀ id ∈ l.map AlarmRecord.id, runsOut s id = false := by
  intro id hid
  obtain ⟨x, hx, rfl⟩ := List.mem_map.mp hid
  obtain ⟨hmem, hno⟩ := h x hx
  rw [runsOut, findRecord_of_mem hids hmem, Option.any_some]
  exact Bool.eq_false_iff.mpr (mt shelfOver_iff.mp hno)

theorem foldl_expireShelf_none (h : ∀ id ∈ ids, runsOut s id = false) :
    ids.foldl (fun s id => State.expireShelf id s) s = s := by
  induction ids with
  | nil => rfl
  | cons k rest ih =>
    obtain ⟨hk, hrest⟩ := List.forall_mem_cons.mp h
    rw [List.foldl_cons, expireShelf_left hk]
    exact ih hrest

/-- What becomes of each record when all shelves have been tested (R33, R34). -/
theorem shelf_record (hids : (s.picture.list.map AlarmRecord.id).Nodup) (hr : r ∈ s.picture.list)
    (ht : t = (s.picture.list.map AlarmRecord.id).foldl (fun s id => State.expireShelf id s) (shelfTaken s)) :
    findRecord r.id t.picture.list = if shelfOver s.clock.now r.handling = true then
      (if r.cleared = true then none else some { r with handling := .unack, arrivalSec := s.clock.now }) else some r := by
  have hmem : r.id ∈ s.picture.list.map AlarmRecord.id := List.mem_map.mpr ⟨r, hr, rfl⟩
  have hfound : findRecord r.id (shelfTaken s).picture.list = some r := findRecord_of_mem hids hr
  obtain ⟨v, rest, hkept, hrecord, hlater, hturn⟩ := byRecord_expireShelf.foldl_turn hids hmem (shelfTaken s)
  rw [hfound] at hrecord
  have hnow : v.clock.now = s.clock.now := hkept.now
  rw [ht, hturn, byRecord_expireShelf.foldl_unlisted hlater]
  by_cases hover : shelfOver s.clock.now r.handling = true
  · obtain ⟨flood, -, -, hands⟩ := expireShelf_ends hrecord (hnow.symm ▸ hover)
    rw [if_pos hover, hands.list, findRecord_unshelved_self, hnow]
  · have hstays : runsOut v r.id = false := by
      rw [runsOut, hrecord, Option.any_some, hnow]
      exact Bool.eq_false_iff.mpr hover
    rw [if_neg hover, expireShelf_left hstays, hrecord]

theorem setList_shelfTaken (k : List AlarmRecord) (u : State) : (shelfTaken u).setList k = shelfTaken (u.setList k) := by
  rw [setList_eq, setList_eq]
  rfl

theorem soundFor_shelfTaken (u : State) (r : AlarmRecord) (flood : Bool) :
    (shelfTaken u).soundFor r flood = shelfTaken (u.soundFor r flood) := by
  rw [soundFor_eq, soundFor_eq, show sounds (shelfTaken u) r flood = sounds u r flood from rfl]
  cases sounds u r flood <;> rfl

theorem unshelveRecord_shelfTaken (u : State) (flood : Bool) (r : AlarmRecord) :
    (shelfTaken u).unshelveRecord flood r = shelfTaken (u.unshelveRecord flood r) := by
  unfold State.unshelveRecord
  rw [setList_shelfTaken]
  dsimp only
  rw [setList_shelfTaken, soundFor_shelfTaken]
  split <;> rfl

theorem expireShelf_shelfTaken (id : AlarmId) (s : State) : (shelfTaken s).expireShelf id = shelfTaken (s.expireShelf id) := by
  by_cases h : runsOut s id = true
  · obtain ⟨r, hr, hover⟩ := (Option.any_eq_true _ _).mp h
    have hfound : (shelfTaken s).floodFound id.area.toNat =
        ((s.floodFound id.area.toNat).1, shelfTaken (s.floodFound id.area.toNat).2) := by
      unfold State.floodFound
      rw [show (shelfTaken s).inFlood = s.inFlood from rfl,
        show (shelfTaken s).second.floodEnded = s.second.floodEnded from rfl]
      split
      · rfl
      · split <;> rfl
    rw [expireShelf_over hr hover, expireShelf_over (s := shelfTaken s) hr hover, hfound]
    exact unshelveRecord_shelfTaken _ _ _
  · rw [expireShelf_left (Bool.eq_false_iff.mpr h), expireShelf_left (s := shelfTaken s) (Bool.eq_false_iff.mpr h)]

/-! ### The ids of a list that a record has left or moved in -/

theorem filter_ids_drop {p : AlarmId → Bool} (hp : p id = false) :
    ((dropRecord id l).map AlarmRecord.id).filter p = (l.map AlarmRecord.id).filter p := by
  unfold dropRecord
  induction l with
  | nil => rfl
  | cons x rest ih =>
    by_cases hx : x.id = id
    · have hout : ¬p x.id = true := by rw [hx, hp]; exact Bool.false_ne_true
      rw [List.filter_cons_of_neg (a := x) (p := fun r => r.id != id) (by rw [hx]; simp), List.map_cons, List.filter_cons_of_neg hout, ih]
    · rw [List.filter_cons_of_pos (a := x) (p := fun r => r.id != id) (bne_iff_ne.mpr hx), List.map_cons, List.map_cons, List.filter_cons, List.filter_cons, ih]

theorem filter_ids_place {p : AlarmId → Bool} (hp : p r.id = false) :
    ((place r l).map AlarmRecord.id).filter p = (l.map AlarmRecord.id).filter p := by
  have hout : ¬p r.id = true := by rw [hp]; exact Bool.false_ne_true
  induction l with
  | nil => exact List.filter_cons_of_neg hout
  | cons x rest ih =>
    unfold place
    split
    · rw [List.map_cons, List.filter_cons_of_neg hout]
    · rw [List.map_cons, List.map_cons, List.filter_cons, List.filter_cons, ih]

theorem filter_ids_unshelved {p : AlarmId → Bool} (now : Sec) (hp : p r.id = false) :
    ((unshelved now r l).map AlarmRecord.id).filter p = (l.map AlarmRecord.id).filter p := by
  unfold unshelved
  split
  · exact filter_ids_drop hp
  · exact (filter_ids_place (r := { r with handling := .unack, arrivalSec := now }) hp).trans (filter_ids_drop hp)

theorem dropRecord_between (hids : ((l ++ r :: m).map AlarmRecord.id).Nodup) : dropRecord r.id (l ++ r :: m) = l ++ m := by
  rw [List.map_append, List.map_cons] at hids
  obtain ⟨-, hright, hapart⟩ := List.nodup_append.mp hids
  have hkeep : ∀ k : List AlarmRecord, (∀ x ∈ k, x.id ≠ r.id) → k.filter (fun x => x.id != r.id) = k := fun k hk =>
    List.filter_eq_self.mpr fun x hx => bne_iff_ne.mpr (hk x hx)
  have hl : ∀ x ∈ l, x.id ≠ r.id := fun x hx =>
    hapart x.id (List.mem_map.mpr ⟨x, hx, rfl⟩) r.id List.mem_cons_self
  have hm : ∀ x ∈ m, x.id ≠ r.id := fun x hx he =>
    (List.nodup_cons.mp hright).1 (he ▸ List.mem_map.mpr ⟨x, hx, rfl⟩)
  unfold dropRecord
  rw [List.filter_append, List.filter_cons_of_neg (by simp), hkeep l hl, hkeep m hm]

/-- The shelves end one after another: the first that has run out, handed on, and then the others from there. -/
theorem shelves_next (hids : (s.picture.list.map AlarmRecord.id).Nodup) (hlist : s.picture.list = l ++ r :: m)
    (hover : shelfOver s.clock.now r.handling = true) (hfirst : ∀ x ∈ l, ¬RunOut s x) :
    (s.picture.list.map AlarmRecord.id).foldl (fun s id => State.expireShelf id s) (shelfTaken s) =
      ((s.expireShelf r.id).picture.list.map AlarmRecord.id).foldl (fun s id => State.expireShelf id s)
        (shelfTaken (s.expireShelf r.id)) := by
  have hmem : ∀ x ∈ l, x ∈ s.picture.list := fun x hx => by rw [hlist]; exact List.mem_append_left _ hx
  have hr : findRecord r.id s.picture.list = some r :=
    findRecord_of_mem hids (by rw [hlist]; exact List.mem_append_right _ List.mem_cons_self)
  obtain ⟨flood, -, -, hands⟩ := expireShelf_ends hr hover
  have hnow : (s.expireShelf r.id).clock.now = s.clock.now := (byRecord_expireShelf.keeps r.id s).now
  have hnone : ∀ id ∈ l.map AlarmRecord.id, runsOut s id = false :=
    nothing_runsOut (fun x hx => ⟨hmem x hx, hfirst x hx⟩) hids
  have hids' := hids
  rw [hlist, List.map_append, List.map_cons] at hids'
  obtain ⟨-, hright, hapart⟩ := List.nodup_append.mp hids'
  have hover' : runsOut (shelfTaken (s.expireShelf r.id)) r.id = false := by
    show (findRecord r.id (s.expireShelf r.id).picture.list).any _ = false
    rw [hands.list, findRecord_unshelved_self]
    split <;> rfl
  have hnone' : (l.map AlarmRecord.id).filter (runsOut (shelfTaken (s.expireShelf r.id))) = [] := by
    refine List.filter_eq_nil_iff.mpr fun id hid => ?_
    have hother : id ≠ r.id := fun he => hapart id hid r.id List.mem_cons_self he
    rw [show runsOut (shelfTaken (s.expireShelf r.id)) id = runsOut s id from
      runsOut_of_record (byRecord_expireShelf.others r.id s id hother) hnow, hnone id hid]
    exact Bool.false_ne_true
  have hidsT : ((s.expireShelf r.id).picture.list.map AlarmRecord.id).Nodup := by
    rw [hands.list]
    exact nodup_unshelved _ r hids
  rw [foldl_expireShelf_filter hidsT, hands.list, filter_ids_unshelved _ hover', hlist, List.map_append, List.map_cons,
    List.filter_append, hnone', List.nil_append, List.filter_cons_of_neg (by rw [hover']; exact Bool.false_ne_true),
    ← foldl_expireShelf_filter (List.nodup_cons.mp hright).2, List.foldl_append,
    foldl_expireShelf_none (s := shelfTaken s) hnone, List.foldl_cons, expireShelf_shelfTaken]

end Sys2Proof.Answers

/-! PROOF. Response deadlines and the escalation (2.9, 2.10): O45. -/

namespace Sys2Proof.Answers

open Sys2Proof.Machine Sys2Proof.Claims Sys2Proof.Keep

variable {s t u v : State} {r x : AlarmRecord} {l m : List AlarmRecord} {id other : AlarmId} {ids : List AlarmId} {k : Nat}

/-! ### The escalation of one record (R37) -/

/-- A record escalated. -/
def escalatedRecord (r : AlarmRecord) : AlarmRecord := { r with escalated := true }

/-- A state with another count of free choices. -/
def counted (k : Nat) (s : State) : State := { s with freeCount := k }

theorem escalate_list (r : AlarmRecord) (s : State) :
    (s.escalate r).picture.list = changeRecord r.id escalatedRecord s.picture.list := by
  unfold State.escalate State.latchIf
  dsimp only
  split
  · split <;> rfl
  · split <;> rfl

/-- What the response deadlines change: the list, horn and lamp, ESCALATION, the count of free choices. -/
def Escalates (s t : State) : Prop :=
  (∃ list horn lamp flags k, t = { s with
    picture := { s.picture with list := list, horn := horn, lamp := lamp }
    port := { s.port with attention := flags }, freeCount := k }) ∧
  (t.port.attention = s.port.attention ∨ t.port.attention = plus s.port.attention .escalation)

theorem escalates_escalate (r : AlarmRecord) (s : State) : Escalates s (s.escalate r) := by
  have hshape : ∀ y : State, ∀ b : Bool, Escalates s y → y.port.attention = s.port.attention →
      Escalates s (y.latchIf b .escalation) := by
    rintro y b ⟨⟨list, horn, lamp, flags, k, hy⟩, -⟩ hflags
    unfold State.latchIf
    split
    · exact ⟨⟨list, horn, lamp, plus flags .escalation, k, by rw [hy]; rfl⟩, .inr (congrArg (plus · .escalation) hflags)⟩
    · exact ⟨⟨list, horn, lamp, flags, k, hy⟩, .inl hflags⟩
  unfold State.escalate
  dsimp only
  refine hshape _ _ ?_ ?_
  · split <;> exact ⟨⟨_, _, _, _, _, rfl⟩, .inl rfl⟩
  · split <;> rfl

theorem Escalates.refl (s : State) : Escalates s s := ⟨⟨_, _, _, _, _, rfl⟩, .inl rfl⟩

theorem Escalates.trans (h : Escalates s t) (h' : Escalates t u) : Escalates s u := by
  obtain ⟨⟨list, horn, lamp, flags, k, ht⟩, hflags⟩ := h
  obtain ⟨⟨list', horn', lamp', flags', k', hu⟩, hflags'⟩ := h'
  refine ⟨⟨list', horn', lamp', flags', k', by rw [hu, ht]⟩, ?_⟩
  have htwice : ∀ z : BitVec 24, plus (plus z .escalation) .escalation = plus z .escalation := fun z => by
    rw [plus, plus, BitVec.or_assoc, BitVec.or_self]
  rcases hflags' with h' | h' <;> rcases hflags with h | h <;> rw [h', h]
  · exact .inl rfl
  · exact .inr rfl
  · exact .inr rfl
  · exact .inr (htwice _)

theorem Escalates.counted (k : Nat) (s : State) : Escalates s (counted k s) := ⟨⟨_, _, _, _, _, rfl⟩, .inl rfl⟩

/-- What the deadline of a record, the routing and the targets look at. -/
structure SameGround (s v : State) : Prop where
  now    : v.clock.now = s.clock.now
  area   : v.area = s.area
  second : v.second = s.second
  node   : v.node = s.node
  signOn : v.signOn = s.signOn

theorem Escalates.ground (h : Escalates s t) : SameGround s t := by
  obtain ⟨⟨list, horn, lamp, flags, k, ht⟩, -⟩ := h
  exact ⟨by rw [ht], by rw [ht]; rfl, by rw [ht], by rw [ht], by rw [ht]⟩

theorem SameGround.routed (h : SameGround s t) (r : AlarmRecord) : t.routed r = s.routed r := by
  unfold State.routed State.isStandby State.rankZero State.isOwn
  rw [h.area, h.node, h.signOn]

theorem SameGround.target (h : SameGround s t) (a : Nat) : t.escalationTarget a = s.escalationTarget a := by
  unfold State.escalationTarget State.isStandby State.rankZero State.isOwn
  rw [h.area, h.node, h.signOn]

theorem SameGround.pastDeadline (h : SameGround s t) (r : AlarmRecord) : t.pastDeadline r = s.pastDeadline r := by
  unfold State.pastDeadline State.since
  rw [show t.clock.now = s.clock.now from h.now]

/-! ### The test of one record (R35, R36) -/

theorem testDeadline_unfound (h : findRecord id s.picture.list = none) : s.testDeadline id = s := by
  unfold State.testDeadline
  rw [h]

theorem testDeadline_early (hr : findRecord id s.picture.list = some r) (h : s.pastDeadline r = false) :
    s.testDeadline id = s := by
  unfold State.testDeadline
  rw [hr]
  exact if_neg (by rw [h]; exact Bool.false_ne_true)

/-- A record past its deadline whose area's flood does not matter, or is none, is escalated (R36). -/
theorem testDeadline_late (hr : findRecord id s.picture.list = some r) (h : s.pastDeadline r = true)
    (hflood : r.priority = .urgent ∨ r.priority = .high ∨ ((s.area id.area.toNat).flood = false ∧
      s.second.floodEnded.getLsbD id.area.toNat = false)) : s.testDeadline id = s.escalate r := by
  unfold State.testDeadline
  rw [hr]
  dsimp only
  rw [if_pos h]
  rcases hflood with hp | hp | ⟨hf, hno⟩
  · rw [hp]
  · rw [hp]
  · rw [floodFound_normal hf hno]
    cases r.priority <;> rfl

/-- A MEDIUM or LOW record in an area in FLOOD is passed over (R36). -/
theorem testDeadline_flooded (hr : findRecord id s.picture.list = some r) (hp : r.priority = .medium ∨ r.priority = .low)
    (hf : (s.area id.area.toNat).flood = true) : s.testDeadline id = s := by
  unfold State.testDeadline
  rw [hr]
  dsimp only
  rw [floodFound_flood hf]
  rcases hp with hp | hp <;> rw [hp] <;> split <;> rfl

/-- A record is escalated by its test, or nothing but a free choice comes of it. -/
theorem testDeadline_cases (hr : findRecord id s.picture.list = some r) :
    ∃ k, s.testDeadline id = counted k s ∨
      (s.pastDeadline r = true ∧ s.testDeadline id = (counted k s).escalate r) := by
  by_cases h : s.pastDeadline r = true
  · have hself : ∀ z, z = s.escalate r → ∃ k, z = counted k s ∨ (s.pastDeadline r = true ∧ z = (counted k s).escalate r) :=
      fun z hz => ⟨s.freeCount, .inr ⟨h, hz⟩⟩
    have hfound : ∀ z, z = (if (s.floodFound id.area.toNat).1 then (s.floodFound id.area.toNat).2
        else (s.floodFound id.area.toNat).2.escalate r) →
        ∃ k, z = counted k s ∨ (s.pastDeadline r = true ∧ z = (counted k s).escalate r) := by
      intro z hz
      refine ⟨(s.floodFound id.area.toNat).2.freeCount, ?_⟩
      have hcount : (s.floodFound id.area.toNat).2 = counted (s.floodFound id.area.toNat).2.freeCount s := floodFound_eq _ s
      rw [hz, ← hcount]
      split
      · exact .inl rfl
      · exact .inr ⟨h, rfl⟩
    unfold State.testDeadline
    rw [hr]
    dsimp only
    rw [if_pos h]
    cases r.priority with
    | urgent => exact hself _ rfl
    | high => exact hself _ rfl
    | medium => exact hfound _ rfl
    | low => exact hfound _ rfl
  · exact ⟨s.freeCount, .inl (testDeadline_early hr (Bool.eq_false_iff.mpr h))⟩

theorem findRecord_escalate_self (hr : findRecord r.id s.picture.list = some r) :
    findRecord r.id (s.escalate r).picture.list = some { r with escalated := true } := by
  rw [escalate_list]
  exact findRecord_changeRecord_self (fun _ => rfl) hr

theorem findRecord_escalate_other (s : State) (h : other ≠ r.id) :
    findRecord other (s.escalate r).picture.list = findRecord other s.picture.list := by
  rw [escalate_list]
  exact findRecord_changeRecord_other (fun _ => rfl) h

theorem byRecord_testDeadline : ByRecord (fun id s => State.testDeadline id s) Escalates where
  others id v other ho := by
    cases hr : findRecord id v.picture.list with
    | none => rw [testDeadline_unfound hr]
    | some r =>
      obtain ⟨k, h | ⟨-, h⟩⟩ := testDeadline_cases hr
      · rw [h]
        rfl
      · rw [h]
        exact findRecord_escalate_other _ (by rw [(findRecord_some hr).2]; exact ho)
  keeps id v := by
    cases hr : findRecord id v.picture.list with
    | none =>
      rw [testDeadline_unfound hr]
      exact .refl v
    | some r =>
      obtain ⟨k, h | ⟨-, h⟩⟩ := testDeadline_cases hr
      · rw [h]
        exact .counted k v
      · rw [h]
        exact (Escalates.counted k v).trans (escalates_escalate r _)
  refl := Escalates.refl
  trans _ _ _ h h' := h.trans h'

/-! ### ESCALATION (R37) -/

/-- A record has been escalated between two states, and this station is a target for it. -/
def EscalatedHere (s t : State) (id : AlarmId) : Prop :=
  ∃ r, findRecord id s.picture.list = some r ∧ r.escalated = false ∧
    findRecord id t.picture.list = some { r with escalated := true } ∧ s.escalationTarget id.area.toNat = true

theorem flagSet_escalate (r : AlarmRecord) (s : State) :
    (s.escalate r).flagSet .escalation = true ↔
      s.flagSet .escalation = true ∨ s.escalationTarget r.id.area.toNat = true := by
  unfold State.escalate
  dsimp only
  rw [flagSet_latchIf_iff]
  split
  · exact or_congr Iff.rfl ⟨fun h => h.2, fun h => ⟨rfl, h⟩⟩
  · exact or_congr Iff.rfl ⟨fun h => h.2, fun h => ⟨rfl, h⟩⟩

theorem escalated_ne (h : r.escalated = false) : r ≠ { r with escalated := true } := fun he =>
  Bool.false_ne_true (h.symm.trans (congrArg AlarmRecord.escalated he))

theorem flagSet_testDeadline (id : AlarmId) (s : State) : (s.testDeadline id).flagSet .escalation = true ↔
    s.flagSet .escalation = true ∨ EscalatedHere s (s.testDeadline id) id := by
  cases hr : findRecord id s.picture.list with
  | none =>
    rw [testDeadline_unfound hr]
    refine ⟨.inl, fun h => h.elim (fun h => h) ?_⟩
    rintro ⟨r, hr', -⟩
    rw [hr] at hr'
    cases hr'
  | some r =>
    have hid : r.id = id := (findRecord_some hr).2
    obtain ⟨k, h | ⟨hpast, h⟩⟩ := testDeadline_cases hr
    · rw [h]
      refine ⟨.inl, fun h => h.elim (fun h => h) ?_⟩
      rintro ⟨y, hy, hno, hafter, -⟩
      exact absurd (Option.some.inj (hy.symm.trans hafter)) (escalated_ne hno)
    · have hno : r.escalated = false := by
        unfold State.pastDeadline at hpast
        rw [Bool.and_eq_true, Bool.and_eq_true, Bool.not_eq_true'] at hpast
        exact hpast.1.2
      rw [h, flagSet_escalate]
      refine or_congr Iff.rfl ⟨fun htarget => ⟨r, hr, hno, ?_, hid ▸ htarget⟩, fun ⟨_, _, _, _, htarget⟩ => ?_⟩
      · rw [← hid] at hr ⊢
        exact findRecord_escalate_self (s := counted k s) hr
      · rw [hid]
        exact htarget

theorem flagSet_deadlines (hids : ids.Nodup) (s : State) :
    (ids.foldl (fun s id => State.testDeadline id s) s).flagSet .escalation = true ↔
      s.flagSet .escalation = true ∨
        ∃ id ∈ ids, EscalatedHere s (ids.foldl (fun s id => State.testDeadline id s) s) id := by
  induction ids generalizing s with
  | nil => exact ⟨.inl, fun h => h.elim (fun h => h) fun ⟨_, hid, _⟩ => by cases hid⟩
  | cons k rest ih =>
    obtain ⟨hk, hrest⟩ := List.nodup_cons.mp hids
    have hground := (byRecord_testDeadline.keeps k s).ground
    have hself := byRecord_testDeadline.foldl_unlisted hk (s.testDeadline k)
    rw [List.foldl_cons, ih hrest, flagSet_testDeadline, or_assoc]
    refine or_congr Iff.rfl ?_
    rw [exists_mem_cons_iff]
    refine or_congr ?_ (exists_congr fun id => and_congr_right fun hid => ?_)
    · unfold EscalatedHere
      rw [hself]
    · have hother : id ≠ k := fun he => hk (he ▸ hid)
      unfold EscalatedHere
      rw [byRecord_testDeadline.others k s id hother, hground.target]

/-! ### The horn of an escalated record (R27, R37) -/

/-- The horn sounds, and there is a routed UNACK record. -/
def Alarming (s : State) : Prop := (∃ p half, s.picture.horn = .sounding p half) ∧ s.routedUnack ≠ []

theorem highest_ne_none (h : l ≠ []) : highest l ≠ none := by
  cases l with
  | nil => exact absurd rfl h
  | cons x rest =>
    unfold highest
    split
    · split <;> exact Option.some_ne_none _
    · exact Option.some_ne_none _

theorem sounding_reevaluate {h : Horn} {top : Option Priority} (hs : ∃ p half, h = .sounding p half) (ht : top ≠ none) :
    ∃ p half, h.reevaluate top = .sounding p half := by
  obtain ⟨p, half, rfl⟩ := hs
  cases top with
  | none => exact absurd rfl ht
  | some q =>
    unfold Horn.reevaluate
    dsimp only
    split <;> exact ⟨_, _, rfl⟩

theorem sounding_sound {h : Horn} {top : Option Priority} (hs : (∃ p half, h = .sounding p half) ∨ top ≠ none) :
    ∃ p half, h.sound top = .sounding p half := by
  cases top with
  | none => exact hs.elim (fun h => h) (absurd rfl)
  | some q => cases h with
    | quiet => exact ⟨_, _, rfl⟩
    | sounding p half => exact ⟨_, _, rfl⟩
    | silenced => exact ⟨_, _, rfl⟩

/-- A record is routed at least as widely once it is escalated (R14). -/
theorem routed_escalated (h : s.routed r = true) : s.routed { r with escalated := true } = true := by
  unfold State.routed at h ⊢
  dsimp only at h ⊢
  split at h
  · rw [Bool.or_eq_true, Bool.and_eq_true] at h ⊢
    exact h.imp_right fun h => ⟨rfl, h.2⟩
  · exact h
  · exact h

theorem routedUnack_ne_nil : s.routedUnack ≠ [] ↔ ∃ x ∈ s.picture.list, x.handling.isUnack = true ∧ s.routed x = true := by
  unfold State.routedUnack
  rw [Ne, List.filter_eq_nil_iff]
  simp only [Classical.not_forall, Classical.not_not, Bool.and_eq_true, exists_prop]

/-- The state of an escalation between the list and the sound demand. -/
def relistedFor (r : AlarmRecord) (s : State) : State :=
  State.reroute { s with picture := { s.picture with list := changeRecord r.id escalatedRecord s.picture.list } }

theorem escalate_picture (r : AlarmRecord) (s : State) : (s.escalate r).picture =
    (if s.routed { r with escalated := true } then (relistedFor r s).sound else relistedFor r s).picture := by
  have hlatch : ∀ (y : State) (b : Bool), (y.latchIf b .escalation).picture = y.picture := by
    intro y b
    unfold State.latchIf
    split <;> rfl
  exact hlatch _ _

theorem routedUnack_relistedFor (h : s.routedUnack ≠ []) : (relistedFor r s).routedUnack ≠ [] := by
  obtain ⟨x, hx, hunack, hrouted⟩ := routedUnack_ne_nil.mp h
  refine routedUnack_ne_nil.mpr ⟨if x.id == r.id then escalatedRecord x else x, List.mem_map.mpr ⟨x, hx, rfl⟩, ?_, ?_⟩
  · split <;> exact hunack
  · show s.routed _ = true
    split
    · exact routed_escalated hrouted
    · exact hrouted

/-- An escalated record routed here sounds the horn; the horn goes on while further records are tested. -/
theorem alarming_escalate (hr : findRecord r.id s.picture.list = some r) (hunack : r.handling.isUnack = true)
    (h : Alarming s ∨ s.routed { r with escalated := true } = true) : Alarming (s.escalate r) := by
  have hset : (relistedFor r s).routedUnack ≠ [] := by
    rcases h with ⟨-, h⟩ | hrouted
    · exact routedUnack_relistedFor h
    · refine routedUnack_ne_nil.mpr ⟨escalatedRecord r, ?_, hunack, hrouted⟩
      exact List.mem_map.mpr ⟨r, (findRecord_some hr).1, if_pos (beq_self_eq_true _)⟩
  have hunackAfter : (s.escalate r).routedUnack = (relistedFor r s).routedUnack := by
    have hrouted : (s.escalate r).routed = s.routed := funext (escalates_escalate r s).ground.routed
    unfold State.routedUnack
    rw [hrouted, escalate_list]
    rfl
  refine ⟨?_, by rw [hunackAfter]; exact hset⟩
  rw [escalate_picture]
  have hhorn : ∀ (hs : ∃ p half, s.picture.horn = .sounding p half),
      ∃ p half, (relistedFor r s).picture.horn = .sounding p half := fun hs =>
    sounding_reevaluate hs (highest_ne_none hset)
  by_cases hrouted : s.routed { r with escalated := true } = true
  · rw [if_pos hrouted]
    exact sounding_sound (.inr (highest_ne_none hset))
  · rw [if_neg hrouted]
    exact hhorn (h.resolve_right hrouted).1

theorem isUnack_of_past (h : s.pastDeadline r = true) : r.handling.isUnack = true := by
  unfold State.pastDeadline at h
  rw [Bool.and_eq_true, Bool.and_eq_true] at h
  exact h.1.1

theorem alarming_testDeadline (h : Alarming s) (id : AlarmId) : Alarming (s.testDeadline id) := by
  cases hr : findRecord id s.picture.list with
  | none =>
    rw [testDeadline_unfound hr]
    exact h
  | some r =>
    have hid : r.id = id := (findRecord_some hr).2
    obtain ⟨k, hk | ⟨hpast, hk⟩⟩ := testDeadline_cases hr
    · rw [hk]
      exact h
    · rw [hk]
      rw [← hid] at hr
      exact alarming_escalate (s := counted k s) hr (isUnack_of_past hpast) (.inl h)

theorem alarming_deadlines (h : Alarming s) (ids : List AlarmId) :
    Alarming (ids.foldl (fun s id => State.testDeadline id s) s) := by
  induction ids generalizing s with
  | nil => exact h
  | cons k rest ih => exact ih (alarming_testDeadline h k)

end Sys2Proof.Answers

/-! PROOF. Shelves and response deadlines at a second event (2.8 to 2.10): O45. -/

namespace Sys2Proof.Answers

open Sys2Proof.Machine Sys2Proof.Claims Sys2Proof.Keep

variable {s t u v : State} {r x : AlarmRecord} {l m : List AlarmRecord} {id other : AlarmId} {ids : List AlarmId}

/-! ### The deadline row (R35) -/

/-- A state whose response deadlines the row has taken up. -/
def deadlineTaken (s : State) : State := { s with second := { s.second with deadline := false } }

/-- The response deadlines of all records tested. -/
def deadlinesTested (s : State) : State :=
  (s.picture.list.map AlarmRecord.id).foldl (fun s id => State.testDeadline id s) (deadlineTaken s)

theorem exec_responseDeadline_done (h : s.second.deadline = false) : exec .responseDeadline s = .next s :=
  congrArg Host.Outcome.next (if_neg (by rw [h]; exact Bool.false_ne_true))

theorem exec_responseDeadline (h : s.second.deadline = true) : exec .responseDeadline s = .next (deadlinesTested s) :=
  congrArg Host.Outcome.next (if_pos h)

theorem escalates_deadlines (s : State) : Escalates (deadlineTaken s) (deadlinesTested s) :=
  byRecord_testDeadline.foldl_keeps _ _

/-- The test of one record at its turn, and what the later turns keep. -/
theorem deadline_turn (hids : (s.picture.list.map AlarmRecord.id).Nodup) (hr : r ∈ s.picture.list) :
    ∃ (v : State) (rest : List AlarmId), SameGround (deadlineTaken s) v ∧ findRecord r.id v.picture.list = some r ∧
      findRecord r.id (deadlinesTested s).picture.list = findRecord r.id (v.testDeadline r.id).picture.list ∧
      deadlinesTested s = rest.foldl (fun s id => State.testDeadline id s) (v.testDeadline r.id) := by
  have hmem : r.id ∈ s.picture.list.map AlarmRecord.id := List.mem_map.mpr ⟨r, hr, rfl⟩
  obtain ⟨v, rest, hkept, hrecord, hlater, hturn⟩ := byRecord_testDeadline.foldl_turn hids hmem (deadlineTaken s)
  refine ⟨v, rest, hkept.ground, hrecord.trans (findRecord_of_mem hids hr), ?_, hturn⟩
  exact (congrArg (fun z : State => findRecord r.id z.picture.list) hturn).trans
    (byRecord_testDeadline.foldl_unlisted hlater _)

theorem pastDeadline_iff (s : State) (r : AlarmRecord) : s.pastDeadline r = true ↔
    r.handling = .unack ∧ r.escalated = false ∧
      ((r.priority = .urgent ∧ 60 ≤ (s.clock.now - r.arrivalSec).toNat) ∨
        (r.priority = .high ∧ 300 ≤ (s.clock.now - r.arrivalSec).toNat) ∨
        (r.priority = .medium ∧ 900 ≤ (s.clock.now - r.arrivalSec).toNat)) := by
  have hunack : r.handling.isUnack = true ↔ r.handling = .unack := by cases r.handling <;> simp [Handling.isUnack]
  have hlate : ∀ d, decide (d ≤ s.since r.arrivalSec) = true ↔ d ≤ (s.clock.now - r.arrivalSec).toNat := fun d =>
    decide_eq_true_iff
  unfold State.pastDeadline
  rw [Bool.and_eq_true, Bool.and_eq_true, hunack, Bool.not_eq_true', and_assoc]
  refine and_congr_right fun _ => and_congr_right fun _ => ?_
  cases r.priority with
  | urgent => simp [Priority.deadline, hlate]
  | high => simp [Priority.deadline, hlate]
  | medium => simp [Priority.deadline, hlate]
  | low => simp [Priority.deadline]

theorem deadline_late (hids : (s.picture.list.map AlarmRecord.id).Nodup) (hr : r ∈ s.picture.list)
    (hunack : r.handling = .unack) (hno : r.escalated = false)
    (hlate : (r.priority = .urgent ∧ 60 ≤ (s.clock.now - r.arrivalSec).toNat) ∨
      (r.priority = .high ∧ 300 ≤ (s.clock.now - r.arrivalSec).toNat) ∨
      (r.priority = .medium ∧ 900 ≤ (s.clock.now - r.arrivalSec).toNat ∧
        (s.area r.id.area.toNat).flood = false ∧ s.second.floodEnded.getLsbD r.id.area.toNat = false)) :
    findRecord r.id (deadlinesTested s).picture.list = some { r with escalated := true } := by
  obtain ⟨v, rest, hground, hrecord, hafter, -⟩ := deadline_turn hids hr
  have hpast : v.pastDeadline r = true := by
    rw [hground.pastDeadline]
    refine (pastDeadline_iff _ r).mpr ⟨hunack, hno, ?_⟩
    exact hlate.imp_right fun h => h.imp_right fun h => ⟨h.1, h.2.1⟩
  have hflood : r.priority = .urgent ∨ r.priority = .high ∨ ((v.area r.id.area.toNat).flood = false ∧
      v.second.floodEnded.getLsbD r.id.area.toNat = false) := by
    rw [hground.area, hground.second]
    exact hlate.imp (fun h => h.1) fun h => h.imp (fun h => h.1) fun h => h.2.2
  rw [hafter, testDeadline_late hrecord hpast hflood]
  exact findRecord_escalate_self hrecord

theorem deadline_stays (hids : (s.picture.list.map AlarmRecord.id).Nodup) (hr : r ∈ s.picture.list)
    (h : r.handling ≠ .unack ∨ r.escalated = true ∨ r.priority = .low ∨
      (s.clock.now - r.arrivalSec).toNat < 60 ∨
      (r.priority = .high ∧ (s.clock.now - r.arrivalSec).toNat < 300) ∨
      (r.priority = .medium ∧ (s.clock.now - r.arrivalSec).toNat < 900) ∨
      (r.priority = .medium ∧ (s.area r.id.area.toNat).flood = true)) :
    findRecord r.id (deadlinesTested s).picture.list = some r := by
  obtain ⟨v, rest, hground, hrecord, hafter, -⟩ := deadline_turn hids hr
  rw [hafter]
  by_cases hflooded : r.priority = .medium ∧ (s.area r.id.area.toNat).flood = true
  · rw [testDeadline_flooded hrecord (.inl hflooded.1) (by rw [hground.area]; exact hflooded.2), hrecord]
  · have hearly : v.pastDeadline r = false := by
      rw [hground.pastDeadline, Bool.eq_false_iff, Ne, pastDeadline_iff]
      rintro ⟨hunack, hno, hlate⟩
      have hnow : (deadlineTaken s).clock.now = s.clock.now := rfl
      rw [hnow] at hlate
      generalize (s.clock.now - r.arrivalSec).toNat = seconds at h hlate
      rcases h with h | h | h | h | ⟨hp, h⟩ | ⟨hp, h⟩ | h
      · exact h hunack
      · exact Bool.false_ne_true (hno.symm.trans h)
      · rw [h] at hlate
        simp at hlate
      · omega
      · rw [hp] at hlate
        simp at hlate
        omega
      · rw [hp] at hlate
        simp at hlate
        omega
      · exact hflooded h
    rw [testDeadline_early hrecord hearly, hrecord]

/-! ### The horn and the flag (R37) -/

theorem deadline_sounds (hids : (s.picture.list.map AlarmRecord.id).Nodup) (hr : r ∈ s.picture.list)
    (hno : r.escalated = false)
    (hafter : findRecord r.id (deadlinesTested s).picture.list = some { r with escalated := true })
    (hrouted : s.routed { r with escalated := true } = true) :
    ∃ p half, (deadlinesTested s).picture.horn = .sounding p half := by
  obtain ⟨v, rest, hground, hrecord, hturn, hrest⟩ := deadline_turn hids hr
  obtain ⟨k, hk | ⟨hpast, hk⟩⟩ := testDeadline_cases hrecord
  · rw [hturn, hk] at hafter
    exact absurd (Option.some.inj (hrecord.symm.trans hafter)) (escalated_ne hno)
  · have halarm : Alarming (v.testDeadline r.id) := by
      rw [hk]
      refine alarming_escalate (s := counted k v) hrecord (isUnack_of_past hpast) (.inr ?_)
      exact (hground.routed _).trans hrouted
    rw [hrest]
    exact (alarming_deadlines halarm rest).1

theorem flagSet_deadlinesTested (hids : (s.picture.list.map AlarmRecord.id).Nodup) :
    (deadlinesTested s).flagSet .escalation = true ↔ s.flagSet .escalation = true ∨
      ∃ r ∈ s.picture.list, r.escalated = false ∧
        findRecord r.id (deadlinesTested s).picture.list = some { r with escalated := true } ∧
        (s.isStandby r.id.area.toNat = true ∨ s.rankZero = true) := by
  have htarget : ∀ a, (deadlineTaken s).escalationTarget a = true ↔ s.isStandby a = true ∨ s.rankZero = true := fun a =>
    Bool.or_eq_true_iff
  refine (flagSet_deadlines hids (deadlineTaken s)).trans (or_congr Iff.rfl ⟨?_, ?_⟩)
  · rintro ⟨id, -, r, hr, hno, hafter, ht⟩
    obtain ⟨hmem, rfl⟩ := findRecord_some hr
    exact ⟨r, hmem, hno, hafter, (htarget _).mp ht⟩
  · rintro ⟨r, hr, hno, hafter, ht⟩
    exact ⟨r.id, List.mem_map.mpr ⟨r, hr, rfl⟩, r, findRecord_of_mem hids hr, hno, hafter, (htarget _).mpr ht⟩

/-! ### The first shelf that has run out -/

theorem shelf_first (hids : (s.picture.list.map AlarmRecord.id).Nodup) (hmark : s.second.shelf = true)
    (hlist : s.picture.list = l ++ r :: m) (hover : RunOut s r) (hfirst : ∀ x ∈ l, ¬RunOut s x) :
    ∃ t flood, exec .shelfExpiry s = exec .shelfExpiry t ∧
      ListChange { s with freeCount := t.freeCount } t ∧ WindowFollows s t ∧
      ((s.area r.id.area.toNat).flood = true → flood = true) ∧
      ((s.area r.id.area.toNat).flood = false → s.second.floodEnded.getLsbD r.id.area.toNat = false → flood = false) ∧
      Annunciates (!r.cleared && sounds t { r with handling := .unack } flood) { s with freeCount := t.freeCount } t ∧
      (r.cleared = true → t.picture.list = l ++ m) ∧
      (r.cleared = false →
        Placed { r with handling := .unack, arrivalSec := s.clock.now } (l ++ m) t.picture.list) := by
  have hmem : r ∈ s.picture.list := by rw [hlist]; exact List.mem_append_right _ List.mem_cons_self
  have hover' := shelfOver_iff.mpr hover
  obtain ⟨flood, hyes, hno, hands⟩ := expireShelf_ends (findRecord_of_mem hids hmem) hover'
  have hdrop : dropRecord r.id s.picture.list = l ++ m := by
    rw [hlist] at hids ⊢
    exact dropRecord_between hids
  have hmark' : (s.expireShelf r.id).second.shelf = true := by
    rw [hands.change]
    exact hmark
  refine ⟨s.expireShelf r.id, flood, ?_, hands.change, hands.window, hyes, hno, hands.annunciate, fun hc => ?_,
    fun hc => ?_⟩
  · rw [exec_shelfExpiry hmark, exec_shelfExpiry hmark', shelves_next hids hlist hover' hfirst]
  · rw [hands.list, unshelved, if_pos hc, hdrop]
  · rw [hands.list, unshelved, if_neg (by rw [hc]; exact Bool.false_ne_true), moveRecord, hdrop]
    exact placed_place _ _

/-- Settles O45: both rows go through the ids of the list; each id's turn finds its record as it was, and the other turns
leave what its own makes of it. -/
theorem shelvesAndDeadlinesRunOut : Obligations.ShelvesAndDeadlinesRunOut := by
  unfold Obligations.ShelvesAndDeadlinesRunOut
  intro s hsound
  have hids := hsound.ids
  refine ⟨exec_shelfExpiry_done, fun h => ⟨_, exec_shelfExpiry h, byRecord_expireShelf.foldl_keeps _ (shelfTaken s),
    fun r hr => ⟨fun e n b hshelf hout => ?_, fun hstays => ?_⟩⟩, fun h hnone => ?_,
    fun l r m h hlist hover hfirst => shelf_first hids h hlist hover hfirst, exec_responseDeadline_done,
    fun h => ⟨deadlinesTested s, exec_responseDeadline h, ?_, (escalates_deadlines s).2, fun r hr => ⟨fun hunack hno hlate =>
      deadline_late hids hr hunack hno hlate, fun hstays => deadline_stays hids hr hstays⟩⟩, fun t h ht => ?_⟩
  case refine_1 =>
    have hover : shelfOver s.clock.now r.handling = true := shelfOver_iff.mpr ⟨e, n, b, hshelf, hout⟩
    rw [shelf_record hids hr rfl, if_pos hover]
    exact ⟨fun hc => if_pos hc, fun hc => if_neg (by rw [hc]; exact Bool.false_ne_true)⟩
  case refine_2 =>
    rw [shelf_record hids hr rfl, if_neg]
    intro hover
    obtain ⟨e, n, b, hshelf, hout⟩ := shelfOver_iff.mp hover
    exact absurd hout (Nat.not_lt.mpr (hstays e n b hshelf))
  case refine_3 =>
    rw [exec_shelfExpiry h]
    refine congrArg Host.Outcome.next (foldl_expireShelf_none (s := shelfTaken s) ?_)
    exact nothing_runsOut (s := shelfTaken s) (fun x hx => ⟨hx, hnone x hx⟩) hids
  case refine_4 =>
    obtain ⟨⟨list, horn, lamp, flags, k, hshape⟩, -⟩ := escalates_deadlines s
    rw [hshape]
    rfl
  case refine_5 =>
    rw [exec_responseDeadline h] at ht
    rw [← Host.Outcome.next.inj ht]
    exact ⟨flagSet_deadlinesTested hids, fun r hr hno hafter hrouted => deadline_sounds hids hr hno hafter hrouted⟩

end Sys2Proof.Answers

/-! PROOF. The work that the rows leave of a second event is done before the next one, row by row (R102). -/

namespace Sys2Proof.Answers

open Sys2Proof.Machine Sys2Proof.Claims Sys2Proof.Keep

variable {s t u v : State}

/-! ### The rows in order -/

theorem startWork_dueWork (s : State) : s.dueWork.startWork = s.startWork := by
  unfold State.startWork
  rw [dueWork_unmarked (dueWork_due s)]

theorem overdueWork_startWork (s : State) : s.startWork.overdueWork = s.overdueWork := by
  obtain ⟨hdue, hstart⟩ := startWork_marks s
  unfold State.overdueWork
  rw [startWork_unmarked hdue hstart]

/-- The rows of the calendar, the scheduled offer and the lines. -/
def calendarRows : List Instr :=
  [.dueInstant, .shiftStart, .overdueInstant, .scheduleReached, .lineSilent .a, .lineSilent .b, .lineRecovery .a,
    .lineRecovery .b]

/-- The rows of the offer timers, the firing and the refresh. -/
def offerRows : List Instr :=
  [.offerTimeout, .decisionWindow, .commitWait, .scheduledOfferFire, .refreshWaitFailure, .refreshStallFailure,
    .pictureRequestRepeat]

theorem ran_calendarRows (s : State) : calendarRows.foldl ran s = s.finishCalendar.lineWork := by
  show (s.dueWork.startWork.overdueWork.scheduleWork).lineWork = _
  rw [startWork_dueWork, overdueWork_startWork]
  rfl

theorem ran_peerRows (s : State) :
    ((List.range 16).map fun i => Instr.peerLost (BitVec.ofNat 8 (i + 1))).foldl ran s = s.peerWork := by
  rw [List.foldl_map]
  rfl

theorem ran_graceRows (s : State) :
    ((List.range 32).map fun a => Instr.orphanGraceRunOut (BitVec.ofNat 8 a)).foldl ran s = s.graceWork := by
  rw [List.foldl_map]
  refine foldl_of_eq (fun v a ha => ?_) s
  have hbyte : (BitVec.ofNat 8 a).toNat = a := by
    rw [BitVec.toNat_ofNat, Nat.mod_eq_of_lt (Nat.lt_trans (List.mem_range.mp ha) (by decide))]
  show v.graceRunOut (BitVec.ofNat 8 a).toNat = v.graceRunOut a
  rw [hbyte]

theorem ran_offerRows (s : State) : offerRows.foldl ran s = s.offerWork.refreshWork := rfl

theorem ran_rebadgeRows : ∀ (n : Nat) (s : State),
    (List.replicate n Instr.rebadgeClaimBuild).foldl ran s = State.rebadgeMany n s
  | 0, _ => rfl
  | n + 1, s => ran_rebadgeRows n s.rebadgeOne

/-- What is left of the last second event's work is what the second event does first (log entry 3). -/
theorem leftOver_eq (s : State) : leftOver s = s.finishSecond := by
  have hrows : workRows = calendarRows ++ (List.range 16).map (fun i => Instr.peerLost (BitVec.ofNat 8 (i + 1))) ++
      [.consoleDark, .listenEnd] ++ (List.range 32).map (fun a => Instr.orphanGraceRunOut (BitVec.ofNat 8 a)) ++
      offerRows ++ List.replicate 8 .rebadgeClaimBuild ++ [.shelfExpiry, .responseDeadline] := rfl
  have hlast : ∀ v : State, [Instr.shelfExpiry, .responseDeadline].foldl ran v = v.shelfWork.deadlineWork :=
    fun _ => rfl
  have hown : ∀ v : State, [Instr.consoleDark, .listenEnd].foldl ran v = v.goDark.endListen := fun _ => rfl
  unfold leftOver State.finishSecond State.rebadgeWork
  rw [hrows]
  simp only [List.foldl_append]
  rw [ran_calendarRows, ran_peerRows, hown, ran_graceRows, ran_offerRows, ran_rebadgeRows, hlast]
  rfl

theorem foldl_ran_idle {rows : List Instr} (h : ∀ c ∈ rows, ran s c = s) : rows.foldl ran s = s := by
  induction rows with
  | nil => rfl
  | cons c rest ih =>
    obtain ⟨hc, hrest⟩ := List.forall_mem_cons.mp h
    rw [List.foldl_cons, hc]
    exact ih hrest

/-! ### The port and FLOOD_CHANGE -/

/-- Of the port only attention flags differ, and FLOOD_CHANGE is as it was. -/
structure Unflooded (s t : State) : Prop where
  port  : t.port = { s.port with attention := t.port.attention }
  flood : t.flagSet .floodChange = s.flagSet .floodChange

theorem Unflooded.of_port (h : t.port = s.port) : Unflooded s t := ⟨by rw [h], flagSet_congr h _⟩

theorem Unflooded.refl (s : State) : Unflooded s s := .of_port rfl

theorem Unflooded.trans (h : Unflooded s t) (h' : Unflooded t u) : Unflooded s u :=
  ⟨by rw [h'.port, h.port], h'.flood.trans h.flood⟩

theorem Unflooded.after (h : Unflooded t u) (hp : t.port = s.port) : Unflooded s u := Unflooded.trans (.of_port hp) h

theorem Unflooded.latch {f : Flag} (hf : f ≠ .floodChange) (s : State) : Unflooded s (s.latch f) := by
  refine ⟨rfl, Bool.eq_iff_iff.mpr ((flagSet_latch_iff s _ f).trans ⟨fun h => h.elim (fun h => h) fun h => ?_, .inl⟩)⟩
  exact absurd h.symm hf

theorem Unflooded.latchIf {f : Flag} (hf : f ≠ .floodChange) (b : Bool) (s : State) : Unflooded s (s.latchIf b f) := by
  unfold State.latchIf
  split
  · exact .latch hf s
  · exact .refl s

theorem Unflooded.latchOpt {x : Option Flag} (hx : x ≠ some .floodChange) (s : State) : Unflooded s (s.latchOpt x) := by
  cases x with
  | none => exact .refl s
  | some f => exact .latch (fun h => hx (congrArg some h)) s

theorem Unflooded.ite {b : Prop} [Decidable b] (ht : b → Unflooded s t) (hu : ¬b → Unflooded s u) :
    Unflooded s (if b then t else u) := by
  split
  · next h => exact ht h
  · next h => exact hu h

theorem Unflooded.bySecond {f : State → State} (h : Unflooded s (f s)) : Unflooded s (s.bySecond f) :=
  h.trans (.of_port (by unfold State.bySecond; dsimp only; split <;> rfl))

theorem Unflooded.foldl {α : Type} {f : State → α → State} (h : ∀ s x, Unflooded s (f s x)) (l : List α) (s : State) :
    Unflooded s (l.foldl f s) := by
  induction l generalizing s with
  | nil => exact .refl s
  | cons x rest ih => exact (h s x).trans (ih _)

/-! ### The ends of offers -/

theorem Unflooded.endOut (o : OutOffer) (e : OfferEnd) (s : State) : Unflooded s (s.endOut o e) := by
  refine Unflooded.after (.latchOpt ?_ _) rfl
  cases e <;> exact fun h => by cases h

theorem Unflooded.endIn (o : InOffer) (e : OfferEnd) (s : State) : Unflooded s (s.endIn o e) := by
  refine Unflooded.after (.latchOpt ?_ _) rfl
  cases e <;> exact fun h => by cases h

theorem Unflooded.endSeat (k : Byte) (e : OfferEnd) (s : State) : Unflooded s (s.endSeat k e) := by
  refine Unflooded.after (.latchOpt ?_ _) rfl
  cases e <;> exact fun h => by cases h

theorem Unflooded.dropOffer (o : OutOffer) (e : OfferEnd) (s : State) : Unflooded s (s.dropOffer o e) := by
  unfold State.dropOffer
  refine .ite (fun _ => .endSeat _ _ s) fun _ => ?_
  exact Unflooded.after (.endOut o e _) (by simp)

theorem Unflooded.answerEnd (f : Frame) (o : InOffer) (e : OfferEnd) (s : State) :
    Unflooded s ((s.queueIfRoom f).endIn o e) := Unflooded.after (.endIn o e _) (by simp)

theorem Unflooded.lossNotice (n : Station) (s : State) : Unflooded s (s.lossNotice n) := by
  have hout : Unflooded s (s.lossOut n) := by
    unfold State.lossOut
    split
    · exact .ite (fun _ => .dropOffer _ _ s) fun _ => .refl s
    · exact .refl s
    · exact .refl s
  refine hout.trans ?_
  show Unflooded _ ((s.lossOut n).lossIn n)
  unfold State.lossIn
  split
  · exact .ite (fun _ => .endIn _ _ _) fun _ => .refl _
  · exact .ite (fun _ => .endIn _ _ _) fun _ => .refl _
  · exact .refl _

theorem Unflooded.ownDark (s : State) : Unflooded s s.ownDark := by
  have hout : Unflooded s s.ownDarkOut := by
    unfold State.ownDarkOut
    split
    · exact .dropOffer _ _ s
    · exact .refl s
    · exact .refl s
  refine hout.trans ?_
  show Unflooded _ s.ownDarkOut.ownDarkIn
  unfold State.ownDarkIn
  split
  · exact .ite (fun _ => .refl _) fun _ => .answerEnd _ _ _ _
  · exact .refl _
  · exact .refl _

/-! ### The rows -/

theorem Unflooded.testOverdue (s : State) : Unflooded s s.testOverdue := by
  unfold State.testOverdue
  exact .ite (fun _ => .after (.latch (fun h => by cases h) _) rfl) fun _ => .refl s

theorem Unflooded.finishCalendar (s : State) : Unflooded s s.finishCalendar := by
  have hdue : Unflooded s s.dueWork := by
    unfold State.dueWork
    refine .ite (fun _ => ?_) fun _ => .refl s
    exact Unflooded.after (.latchIf (fun h => by cases h) _ _) rfl
  have hstart : Unflooded s s.startWork := by
    unfold State.startWork
    refine .ite (fun _ => hdue.trans ?_) fun _ => hdue
    exact Unflooded.after (.bySecond (.of_port (by simp))) rfl
  have hoverdue : Unflooded s s.overdueWork := by
    unfold State.overdueWork
    refine .ite (fun _ => hstart.trans ?_) fun _ => hstart
    exact Unflooded.after (.testOverdue _) rfl
  have hschedule : ∀ v : State, Unflooded v v.scheduleWork := fun v => .of_port (by simp)
  exact hoverdue.trans (hschedule _)

theorem Unflooded.setLineState (n : LineName) (x : LineState) (s : State) : Unflooded s (s.setLineState n x) := by
  have hset : Unflooded s (s.setLine n { s.line n with state := x }) := .of_port (by cases n <;> rfl)
  exact hset.trans (.latchIf (fun h => by cases h) _ _)

theorem Unflooded.lineWork (s : State) : Unflooded s s.lineWork := by
  have hsilence : ∀ n (v : State), Unflooded v (v.silenceLine n) := fun n v => by
    unfold State.silenceLine
    refine .ite (fun _ => ?_) fun _ => .refl v
    exact Unflooded.after (.setLineState n _ _) (by cases n <;> rfl)
  have hrecover : ∀ n (v : State), Unflooded v (v.recoverLine n) := fun n v => by
    unfold State.recoverLine
    split
    · exact .ite (fun _ => .setLineState n _ v) fun _ => .refl v
    · exact .refl v
    · exact .refl v
  exact (((hsilence .a s).trans (hsilence .b _)).trans (hrecover .a _)).trans (hrecover .b _)

theorem Unflooded.setHold (a : Nat) (h : Hold) (serial : Half) (s : State) : Unflooded s (s.setHold a h serial) := by
  have hput : Unflooded s (withHold a h serial s) := .of_port rfl
  rw [setHold_eq]
  refine .ite (fun _ => hput.trans ?_) fun _ => hput
  unfold State.areaLost
  split
  · exact .of_port rfl
  · refine .ite (fun _ => ?_) fun _ => .of_port rfl
    exact Unflooded.after (.dropOffer _ _ _) rfl
  · exact .of_port rfl

/-- A peer that has fallen silent is lost, and any other is left. -/
theorem losePeer_cases (n : Station) (s : State) : s.losePeer n = s ∨ ∃ r, s.losePeer n =
    ((((fallenSilent n r s).orphanAll n).bySecond (State.lossNotice n)).forgetSeq n).dropRequester n := by
  unfold State.losePeer
  split
  · exact .inl rfl
  · next r _ =>
    split
    · exact .inr ⟨r, rfl⟩
    · exact .inl rfl

theorem Unflooded.orphanAll (n : Station) (s : State) : Unflooded s (s.orphanAll n) := by
  refine .foldl (fun v a => ?_) _ s
  unfold State.orphanArea
  split
  · exact .ite (fun _ => .setHold _ _ _ v) fun _ => .refl v
  · exact .refl v
  · exact .refl v

theorem Unflooded.losePeer (n : Station) (s : State) : Unflooded s (s.losePeer n) := by
  obtain h | ⟨r, h⟩ := losePeer_cases n s
  · exact .of_port (congrArg State.port h)
  · have hfallen : Unflooded s (fallenSilent n r s) :=
      .after (.latch (fun h => by cases h) _) (by unfold State.setPeer; split <;> rfl)
    have hnotice := (hfallen.trans (.orphanAll n _)).trans (.bySecond (.lossNotice n _))
    exact h ▸ hnotice.trans (.of_port (by simp))

theorem Unflooded.peerWork (s : State) : Unflooded s s.peerWork := .foldl (fun _ _ => .losePeer _ _) _ s

theorem Unflooded.goDark (s : State) : Unflooded s s.goDark := by
  unfold State.goDark
  refine .ite (fun _ => ?_) fun _ => .refl s
  exact Unflooded.after (.bySecond (.ownDark _)) rfl

theorem Unflooded.endListen (s : State) : Unflooded s s.endListen := by
  have hrefresh : ∀ v : State, Unflooded v v.startRefresh := fun v => by
    unfold State.startRefresh
    refine .ite (fun _ => .of_port (by simp)) fun _ => ?_
    exact Unflooded.after (.latch (fun h => by cases h) _) rfl
  unfold State.endListen
  refine .ite (fun _ => ?_) fun _ => .refl s
  have hbuilt : ∀ v : State, Unflooded v v.buildPresence := fun v => .of_port (by simp)
  exact .after (((hbuilt _).trans (hrefresh _)).trans (hbuilt _)) rfl

theorem Unflooded.graceWork (s : State) : Unflooded s s.graceWork := by
  refine .foldl (fun v a => ?_) _ s
  have hrun : Unflooded v (v.setRunOut a) := .of_port (by simp)
  unfold State.graceRunOut
  refine .ite (fun _ => .ite (fun _ => hrun.trans ?_) fun _ => hrun.trans (.latchIf (fun h => by cases h) _ _))
    fun _ => .refl v
  unfold State.takeOver
  refine .ite (fun _ => .refl _) fun _ => .ite (fun _ => .of_port (by simp)) fun _ => .latch (fun h => by cases h) _

theorem Unflooded.fireSchedule (s : State) : Unflooded s s.fireSchedule := by
  have hfired : ∀ r (v : State), Unflooded v (v.fired r) := fun r v =>
    Unflooded.after (.latch (by cases r <;> exact fun h => by cases h) _) rfl
  have hmade : ∀ n m (v : State), Unflooded v (v.makeOffer n m) := fun n m v => by
    unfold State.makeOffer
    refine .ite (fun _ => ?_) fun _ => .of_port (by simp)
    exact Unflooded.after (.latch (fun h => by cases h) _) rfl
  have huse : ∀ v : State, Unflooded v v.useFireChoices := fun v => .of_port (by simp)
  unfold State.fireSchedule
  split
  · refine .ite (fun _ => .ite (fun _ => hfired _ s) fun _ => ?_) fun _ => .refl s
    split
    · exact (huse s).trans (hfired _ _)
    · exact ((huse s).trans (hmade _ _ _)).trans (hfired _ _)
  · exact .refl s
  · exact .refl s

theorem Unflooded.offerWork (s : State) : Unflooded s s.offerWork := by
  have hout : ∀ v : State, Unflooded v v.offerTimer := fun v => by
    unfold State.offerTimer
    split
    · exact .ite (fun _ => .bySecond (.dropOffer _ _ v)) fun _ => .refl v
    · exact .refl v
    · exact .refl v
  have hdecision : ∀ v : State, Unflooded v v.decisionTimer := fun v => by
    unfold State.decisionTimer
    split
    · exact .ite (fun _ => .ite (fun _ => .bySecond (.endSeat _ _ v)) fun _ => .answerEnd _ _ _ v) fun _ => .refl v
    · exact .refl v
    · exact .refl v
  have hcommit : ∀ v : State, Unflooded v v.commitTimer := fun v => by
    unfold State.commitTimer
    split
    · exact .ite (fun _ => .endIn _ _ v) fun _ => .refl v
    · exact .refl v
    · exact .refl v
  exact ((((hout s).trans (hdecision _)).trans (hcommit _))).trans (.fireSchedule _)

theorem Unflooded.refreshWork (s : State) : Unflooded s s.refreshWork := by
  have hfailed : ∀ x (v : State), Unflooded v (v.refreshFailed x) := fun x v => by
    unfold State.refreshFailed
    refine .ite (fun _ => .of_port ?_) fun _ => .after (.latch (fun h => by cases h) _) rfl
    split
    · simp
    · split <;> simp
  have hwait : ∀ v : State, Unflooded v v.refreshWaitTest := fun v => by
    unfold State.refreshWaitTest
    split
    · exact .refl v
    · split
      · exact .ite (fun _ => hfailed _ v) fun _ => .refl v
      · exact .refl v
  have hstall : ∀ v : State, Unflooded v v.refreshStallTest := fun v => by
    unfold State.refreshStallTest
    split
    · exact .refl v
    · split
      · exact .refl v
      · exact .ite (fun _ => hfailed _ v) fun _ => .refl v
  have hrepeat : ∀ v : State, Unflooded v v.repeatWork := fun v => .of_port (by simp)
  exact ((hwait s).trans (hstall _)).trans (hrepeat _)

theorem Unflooded.deadlineWork (s : State) : Unflooded s s.deadlineWork := by
  unfold State.deadlineWork
  refine .ite (fun _ => ?_) fun _ => .refl s
  obtain ⟨⟨list, horn, lamp, flags, k, hshape⟩, hflags⟩ := escalates_deadlines s
  refine ⟨?_, ?_⟩
  · show (deadlinesTested s).port = { s.port with attention := (deadlinesTested s).port.attention }
    rw [hshape]
    rfl
  · show (deadlinesTested s).flagSet .floodChange = _
    rcases hflags with h | h
    · exact congrArg (fun x : BitVec 24 => x.getLsbD Flag.floodChange.bit) h
    · refine (congrArg (fun x : BitVec 24 => x.getLsbD Flag.floodChange.bit) h).trans ?_
      exact (Unflooded.latch (f := .escalation) (fun h => by cases h) s).flood

theorem Unflooded.finishSecond (s : State) : Unflooded s s.finishSecond := by
  have hlost := ((Unflooded.finishCalendar s).trans (.lineWork _)).trans (.peerWork _)
  have hgrace := ((hlost.trans (.goDark _)).trans (.endListen _)).trans (.graceWork _)
  have hoffers := (hgrace.trans (.offerWork _)).trans (.refreshWork _)
  have hrebadge : ∀ v : State, Unflooded v v.rebadgeWork := fun v => .of_port (by simp)
  have hshelves : ∀ v : State, Unflooded v v.shelfWork := fun v => .of_port (by simp)
  exact ((hoffers.trans (hrebadge _)).trans (hshelves _)).trans (.deadlineWork _)

end Sys2Proof.Answers

/-! PROOF. What the work that is left of a second event keeps: time, the hold fields apart the area table, the lines'
counts, the peers that are not lost, and the station's own configuration. -/

namespace Sys2Proof.Answers

open Sys2Proof.Machine Sys2Proof.Claims Sys2Proof.Keep

variable {s t u v : State}

/-! ### Clock and marks -/

theorem finishSecond_sameTime (s : State) : SameTime s.clock s.finishSecond.clock := by
  have hrest : s.finishSecond.clock = s.finishCalendar.clock := by simp [State.finishSecond]
  exact hrest ▸ finishCalendar_sameTime s

theorem finishCalendar_overdue (s : State) : s.finishCalendar.second.overdue = false := by
  have hoverdue : s.overdueWork.second.overdue = false := by
    unfold State.overdueWork
    split
    · simp
    · next h => exact Bool.eq_false_iff.mpr h
  have hschedule : ∀ v : State, v.scheduleWork.second.overdue = v.second.overdue := fun v => by
    unfold State.scheduleWork
    split <;> simp
  exact (hschedule _).trans hoverdue

theorem finishSecond_overdue (s : State) : s.finishSecond.second.overdue = false := by
  have hshelf : ∀ v : State, v.shelfWork.second.overdue = v.second.overdue := fun v => by
    unfold State.shelfWork
    split <;> simp
  have hdeadline : ∀ v : State, v.deadlineWork.second.overdue = v.second.overdue := fun v => by
    unfold State.deadlineWork
    split <;> simp
  have hrepeat : ∀ v : State, v.repeatWork.second.overdue = v.second.overdue := fun v => by
    unfold State.repeatWork
    split <;> simp
  unfold State.finishSecond State.refreshWork
  simp [hshelf, hdeadline, hrepeat, finishCalendar_overdue]

/-! ### The station -/

/-- Number, gap and digest are as they were, and an ACTIVE station is ACTIVE still. -/
structure SameStation (s t : State) : Prop where
  number : t.node.number = s.node.number
  gap    : t.node.gap = s.node.gap
  digest : t.node.digest = s.node.digest
  active : s.node.mode = .active → t.node.mode = .active

theorem SameStation.of_node (h : t.node = s.node) : SameStation s t :=
  ⟨by rw [h], by rw [h], by rw [h], fun hm => by rw [h]; exact hm⟩

theorem SameStation.trans (h : SameStation s t) (h' : SameStation t u) : SameStation s u :=
  ⟨h'.number.trans h.number, h'.gap.trans h.gap, h'.digest.trans h.digest, fun hm => h'.active (h.active hm)⟩

theorem goDark_node (s : State) : s.goDark.node = { s.node with dark := s.goDark.node.dark } := by
  unfold State.goDark
  split
  · simp
  · rfl

theorem endListen_sameStation (s : State) : SameStation s s.endListen := by
  have hbuilt : ∀ v : State, SameStation v v.buildPresence := fun v => by
    unfold State.buildPresence
    dsimp only
    split <;> exact ⟨rfl, rfl, rfl, fun h => h⟩
  have hbegun : ∀ v : State, v.startRefresh.node = v.node := fun v => by simp
  unfold State.endListen
  split
  · have hactive : SameStation s { s with node := { s.node with mode := .active, activeSince := s.now } } :=
      ⟨rfl, rfl, rfl, fun _ => rfl⟩
    exact hactive.trans ((hbuilt _).trans ((SameStation.of_node (hbegun _)).trans (hbuilt _)))
  · exact ⟨rfl, rfl, rfl, fun h => h⟩

theorem finishSecond_sameStation (s : State) : SameStation s s.finishSecond := by
  have hnode : s.finishSecond.node = s.finishCalendar.lineWork.peerWork.goDark.endListen.node := by
    simp [State.finishSecond]
  have hbefore : s.finishCalendar.lineWork.peerWork.node = s.node := by simp
  obtain ⟨hnumber, hgap, hdigest, hactive⟩ := endListen_sameStation s.finishCalendar.lineWork.peerWork.goDark
  have hdark := goDark_node s.finishCalendar.lineWork.peerWork
  rw [hbefore] at hdark
  rw [hdark] at hnumber hgap hdigest hactive
  rw [← hnode] at hnumber hgap hdigest hactive
  exact ⟨hnumber, hgap, hdigest, hactive⟩

/-! ### The area table -/

/-- An area apart from who holds it. -/
def bare (r : Area) : Area := { r with hold := .unheld }

/-- Only hold fields of the area table differ. -/
def SameUnheld (s t : State) : Prop := t.areas.map bare = s.areas.map bare

theorem SameUnheld.area (h : SameUnheld s t) (a : Nat) : bare (t.area a) = bare (s.area a) := by
  have hget := congrArg (fun l => l.getD a (bare .initial)) h
  rw [getD_map, getD_map] at hget
  exact hget

theorem SameUnheld.length (h : SameUnheld s t) : t.areas.length = s.areas.length := by
  simpa using congrArg List.length h

theorem SameUnheld.of_areas (h : t.areas = s.areas) : SameUnheld s t := congrArg (List.map bare) h

theorem SameUnheld.trans (h : SameUnheld s t) (h' : SameUnheld t u) : SameUnheld s u := Eq.trans h' h

theorem sameUnheld_setArea {a : Nat} {r : Area} (h : bare r = bare (s.area a)) : SameUnheld s (s.setArea a r) := by
  by_cases ha : a < s.areas.length
  · have harea : bare (s.area a) = (s.areas.map bare)[a]'(by simpa using ha) := by simp [State.area, ha]
    unfold SameUnheld
    simp only [State.setArea, List.map_set, h, harea, List.set_getElem_self]
  · exact .of_areas (List.set_eq_of_length_le (Nat.le_of_not_lt ha))

theorem sameUnheld_orphanArea (n : Station) (a : Nat) (s : State) : SameUnheld s (s.orphanArea n a) := by
  have hset : ∀ h, (s.setHold a h (s.area a).serial).areas = (s.setArea a { s.area a with hold := h }).areas :=
    fun h => by
      rw [setHold_eq]
      split
      · rw [(State.areaLost_frame _ a).2.2.2.1]
        rfl
      · rfl
  unfold State.orphanArea
  split
  · split
    · exact (sameUnheld_setArea (by rfl)).trans (.of_areas (hset _))
    · exact .of_areas rfl
  · exact .of_areas rfl
  · exact .of_areas rfl

theorem sameUnheld_losePeer (n : Station) (s : State) : SameUnheld s (s.losePeer n) := by
  have horphan : ∀ v : State, SameUnheld v (v.orphanAll n) := fun v =>
    foldl_keeps (fun w : State => w.areas.map bare) _ (fun w a => sameUnheld_orphanArea n a w) _ v
  obtain h | ⟨r, h⟩ := losePeer_cases n s
  · exact .of_areas (congrArg State.areas h)
  · have hput : SameUnheld s (fallenSilent n r s) := .of_areas (by simp [fallenSilent])
    exact h ▸ (hput.trans (horphan _)).trans (.of_areas (by simp))

theorem sameUnheld_graceRunOut (a : Nat) (s : State) : SameUnheld s (s.graceRunOut a) := by
  have hrun : SameUnheld s (s.setRunOut a) := by
    unfold State.setRunOut
    split
    · exact sameUnheld_setArea (by rfl)
    · exact .of_areas rfl
    · exact .of_areas rfl
  unfold State.graceRunOut
  split
  · dsimp only
    split
    · exact hrun.trans (.of_areas (by simp))
    · exact hrun.trans (.of_areas (by simp))
  · exact .of_areas rfl

theorem finishSecond_sameUnheld (s : State) : SameUnheld s s.finishSecond := by
  have hpeers : ∀ v : State, SameUnheld v v.peerWork := fun v =>
    foldl_keeps (fun w : State => w.areas.map bare) _ (fun w _ => sameUnheld_losePeer _ w) _ v
  have hgrace : ∀ v : State, SameUnheld v v.graceWork := fun v =>
    foldl_keeps (fun w : State => w.areas.map bare) _ (fun w a => sameUnheld_graceRunOut a w) _ v
  have hend : s.finishSecond.areas = s.finishCalendar.lineWork.peerWork.goDark.endListen.graceWork.areas := by
    simp [State.finishSecond]
  have hfirst : SameUnheld s s.finishCalendar.lineWork := .of_areas (by simp)
  have hown : SameUnheld s.finishCalendar.lineWork.peerWork s.finishCalendar.lineWork.peerWork.goDark.endListen :=
    .of_areas (by simp)
  exact (((hfirst.trans (hpeers _)).trans hown).trans (hgrace _)).trans (.of_areas hend)

/-! ### Lines and peers -/

/-- A line's counts are as they were. -/
def SameCounts (s t : State) : Prop := ∀ l, (t.line l).heard = (s.line l).heard ∧ (t.line l).quiet = (s.line l).quiet

theorem SameCounts.trans (h : SameCounts s t) (h' : SameCounts t u) : SameCounts s u := fun l =>
  ⟨(h' l).1.trans (h l).1, (h' l).2.trans (h l).2⟩

theorem SameCounts.of_bus (h : t.bus.lineA = s.bus.lineA) (h' : t.bus.lineB = s.bus.lineB) : SameCounts s t
  | .a => ⟨congrArg Line.heard h, congrArg Line.quiet h⟩
  | .b => ⟨congrArg Line.heard h', congrArg Line.quiet h'⟩

theorem sameCounts_setLine {n : LineName} {x : Line} (hheard : x.heard = (s.line n).heard)
    (hquiet : x.quiet = (s.line n).quiet) : SameCounts s (s.setLine n x) := by
  intro l
  cases n with
  | a =>
    cases l with
    | a => exact ⟨hheard, hquiet⟩
    | b => exact ⟨rfl, rfl⟩
  | b =>
    cases l with
    | a => exact ⟨rfl, rfl⟩
    | b => exact ⟨hheard, hquiet⟩

theorem sameCounts_setLineState (n : LineName) (x : LineState) (s : State) : SameCounts s (s.setLineState n x) := by
  have hput : SameCounts s (s.setLine n { s.line n with state := x }) := sameCounts_setLine rfl rfl
  have hlatch : ∀ (b : Bool) (v : State), SameCounts v (v.latchIf b .lineFault) := fun _ _ =>
    .of_bus (by simp) (by simp)
  exact hput.trans (hlatch _ _)

theorem sameCounts_silenceLine (n : LineName) (s : State) : SameCounts s (s.silenceLine n) := by
  unfold State.silenceLine
  dsimp only
  split
  · have hmark : SameCounts s (s.setLine n { s.line n with silentDue := false }) := sameCounts_setLine rfl rfl
    exact hmark.trans (sameCounts_setLineState _ _ _)
  · exact .of_bus rfl rfl

theorem sameCounts_recoverLine (n : LineName) (s : State) : SameCounts s (s.recoverLine n) := by
  unfold State.recoverLine
  split
  · split
    · exact sameCounts_setLineState _ _ _
    · exact .of_bus rfl rfl
  · exact .of_bus rfl rfl
  · exact .of_bus rfl rfl

theorem sameCounts_lineWork (s : State) : SameCounts s s.lineWork :=
  (((sameCounts_silenceLine .a s).trans (sameCounts_silenceLine .b _)).trans (sameCounts_recoverLine .a _)).trans
    (sameCounts_recoverLine .b _)

/-- A loss forgets a sequence, and changes nothing else of the bus. -/
theorem losePeer_bus (n : Station) (s : State) :
    (s.losePeer n).bus = { s.bus with lastSeq := (s.losePeer n).bus.lastSeq } := by
  have hforget : ∀ v : State, (v.forgetSeq n).bus = { v.bus with lastSeq := (v.forgetSeq n).bus.lastSeq } :=
    fun v => by
    unfold State.forgetSeq
    split <;> rfl
  obtain h | ⟨r, h⟩ := losePeer_cases n s
  · rw [h]
  · have hbus : (s.losePeer n).bus =
        ((((fallenSilent n r s).orphanAll n).bySecond (State.lossNotice n)).forgetSeq n).bus := by simp [h]
    have hbefore : (((fallenSilent n r s).orphanAll n).bySecond (State.lossNotice n)).bus = s.bus := by
      simp [fallenSilent]
    rw [hbus, hforget, hbefore]

theorem sameCounts_peerWork (s : State) : SameCounts s s.peerWork := by
  have hlose : ∀ (n : Station) (v : State), SameCounts v (v.losePeer n) := fun n v =>
    .of_bus (by rw [losePeer_bus]) (by rw [losePeer_bus])
  unfold State.peerWork
  generalize List.range 16 = rows
  induction rows generalizing s with
  | nil => exact .of_bus rfl rfl
  | cons i rest ih => exact (hlose _ s).trans (ih _)

theorem finishSecond_counts (s : State) : SameCounts s s.finishSecond := by
  have hend : s.finishSecond.bus = s.finishCalendar.lineWork.peerWork.bus := by simp [State.finishSecond]
  have hfirst : s.finishCalendar.bus = s.bus := by simp
  have hcalendar : SameCounts s s.finishCalendar := .of_bus (congrArg Bus.lineA hfirst) (congrArg Bus.lineB hfirst)
  have hthen := (hcalendar.trans (sameCounts_lineWork _)).trans (sameCounts_peerWork _)
  exact hthen.trans (.of_bus (congrArg Bus.lineA hend) (congrArg Bus.lineB hend))

theorem finishSecond_peer {n : Station} {r : PeerRecord} (h : s.peer n = some r) (hr : r.silence ≠ 3) :
    s.finishSecond.peer n = some r := by
  have hlose : ∀ (m : Station) (v : State), v.peer n = some r → (v.losePeer m).peer n = some r := fun m v hv => by
    by_cases hm : n = m
    · subst hm
      rw [losePeer_other fun x hx => .inr (Option.some.inj (hv.symm.trans hx) ▸ hr)]
      exact hv
    · obtain hleft | ⟨x, hlost⟩ := losePeer_cases m v
      · rw [hleft]
        exact hv
      · have hpeers : (v.losePeer m).peers = (fallenSilent m x v).peers := by simp [hlost]
        have hrecord : (v.losePeer m).peer n = (fallenSilent m x v).peer n := by rw [State.peer, hpeers, State.peer]
        exact hrecord.trans ((peer_setPeer_other hm).trans hv)
  have hpeers : ∀ (l : List Nat) (v : State), v.peer n = some r →
      (l.foldl (fun w i => w.losePeer (BitVec.ofNat 8 (i + 1))) v).peer n = some r := fun l => by
    induction l with
    | nil => exact fun _ hv => hv
    | cons i rest ih => exact fun v hv => ih _ (hlose _ v hv)
  have hend : s.finishSecond.peers = s.finishCalendar.lineWork.peerWork.peers := by simp [State.finishSecond]
  rw [State.peer, hend]
  refine hpeers _ _ ?_
  rw [State.peer, show s.finishCalendar.lineWork.peers = s.peers by simp]
  exact h

end Sys2Proof.Answers

/-! PROOF. The second that begins, before its presence is built: clock and marks, the decay, the peers' silence and the
lines' counts (R58, R102 to R104, R109, R144, R155). -/

namespace Sys2Proof.Answers

open Sys2Proof.Machine Sys2Proof.Claims Sys2Proof.Keep

variable {s t u v : State}

/-! ### The state that the presence is built in -/

/-- The clock of the second that begins. -/
def begunClock (u : State) : Clock := (u.setClock Clock.advance).markInstants.clock

/-- The area table after a decay. -/
def decayed (u : State) : List Area := u.areas.map Area.decay

/-- The marks of the second that begins. -/
def begunMarks (u : State) : SecondWork :=
  { (u.setClock Clock.advance).markInstants.second with
    floodEnded := areaSetOf fun a => (u.area a).flood && !((u.area a).decay).flood
    shelf := true, deadline := true
    schedule := State.fireTimeCome { u with clock := begunClock u }, repeatWork := u.repeatOwed }

/-- A state in the second that begins, with no flag latched yet. -/
def ticked (u : State) : State := { u with
  clock := begunClock u, areas := decayed u, second := begunMarks u, peers := u.peers.map (Option.map countSilence)
  bus := { u.bus with
    lineA := u.bus.lineA.count u.bus.lineB.heard, lineB := u.bus.lineB.count u.bus.lineA.heard } }

/-- A state in the second that begins. -/
def begun (u : State) : State :=
  (ticked u).latchIf (u.areas.any fun r => r.decay.flood != r.flood) .floodChange

theorem beginSecond_eq (u : State) : u.beginSecond = (begun u).presenceWork := by
  have hmarked : (u.setClock Clock.advance).markInstants = { u with
      clock := begunClock u, second := (u.setClock Clock.advance).markInstants.second } := by
    unfold begunClock State.markInstants
    split <;> rfl
  unfold State.beginSecond
  rw [hmarked]
  unfold begun State.decayAll State.latchIf
  split <;> rfl

theorem begun_eq (u : State) : begun u = { u with
    clock := (begun u).clock, areas := (begun u).areas, second := (begun u).second, peers := (begun u).peers
    bus := { u.bus with lineA := (begun u).bus.lineA, lineB := (begun u).bus.lineB }
    port := { u.port with attention := (begun u).port.attention } } := by
  unfold begun State.latchIf
  split <;> rfl

/-! ### The clock and its instants -/

theorem begun_clock (u : State) : (begun u).clock = begunClock u := by simp [begun, ticked]

theorem begunClock_eq (u : State) : begunClock u = { u.clock.advance with
    shift := if u.clock.advance.millTime = 0 then u.clock.pattern.shiftOf 0 else u.clock.shift
    inLead := if u.clock.advance.millTime = 0 then u.clock.pattern.inLead 0 else u.clock.inLead } := by
  unfold begunClock State.markInstants
  by_cases h : u.clock.advance.millTime = 0
  · rw [if_pos (show (u.setClock Clock.advance).clock.millTime = 0 from h), if_pos h, if_pos h, ← h]
    rfl
  · rw [if_neg (show ¬(u.setClock Clock.advance).clock.millTime = 0 from h), if_neg h, if_neg h]
    rfl

theorem begun_second (u : State) : (begun u).second = begunMarks u := by simp [begun, ticked]

/-- An instant is marked where mill time reaches it, and none is at the wrap of 2099. -/
theorem instantMarks (hdue : u.second.due = false) (hstart : u.second.start = false)
    (hoverdue : u.second.overdue = false) :
    ((begunMarks u).due = true ↔
      u.clock.advance.millTime ≠ 0 ∧ u.clock.pattern.isDue u.clock.advance.millTime = true) ∧
    ((begunMarks u).start = true ↔
      u.clock.advance.millTime ≠ 0 ∧ u.clock.pattern.isStart u.clock.advance.millTime = true) ∧
    ((begunMarks u).overdue = true ↔
      u.clock.advance.millTime ≠ 0 ∧ u.clock.pattern.isOverdue u.clock.advance.millTime = true) := by
  unfold begunMarks State.markInstants
  by_cases h : u.clock.advance.millTime = 0
  · have hwrap : (u.setClock Clock.advance).clock.millTime = 0 := h
    rw [if_pos hwrap]
    have hnone : ∀ {b : Bool} {p : Prop}, b = false → (b = true ↔ u.clock.advance.millTime ≠ 0 ∧ p) :=
      fun hb => ⟨fun hm => absurd (hb.symm.trans hm) (by simp), fun hm => absurd h hm.1⟩
    exact ⟨hnone hdue, hnone hstart, hnone hoverdue⟩
  · have hno : ¬(u.setClock Clock.advance).clock.millTime = 0 := h
    rw [if_neg hno]
    exact ⟨(and_iff_right h).symm, (and_iff_right h).symm, (and_iff_right h).symm⟩

theorem scheduleMark (u : State) : (begunMarks u).schedule = true ↔
    ∃ o m, u.handover.scheduled = .armed o ∧ o.fire = .at m ∧ m ≤ u.clock.advance.millTime := by
  have htime : (begunClock u).millTime = u.clock.advance.millTime := by rw [begunClock_eq]
  show State.fireTimeCome { u with clock := begunClock u } = true ↔ _
  unfold State.fireTimeCome
  dsimp only
  rw [htime]
  cases hs : u.handover.scheduled with
  | empty => simp
  | waiting o => simp
  | armed o =>
    rcases hf : o.fire with m | _
    · simp [hf]
    · simp [hf]

theorem repeatMark (u : State) : (begunMarks u).repeatWork = true ↔
    ∃ x, u.transfer.refresh = some x ∧ x.repeatOwed = true := by
  show u.repeatOwed = true ↔ _
  unfold State.repeatOwed
  cases u.transfer.refresh <;> simp

/-! ### The area table (R58, R59) -/

theorem begun_area (u : State) (a : Nat) : (begun u).area a = (u.area a).decay := by
  have hareas : (begun u).areas = u.areas.map Area.decay := by simp [begun, ticked, decayed]
  unfold State.area
  rw [hareas, show Area.initial = Area.initial.decay from rfl, getD_map]
  rfl

theorem begun_areas_length (u : State) : (begun u).areas.length = u.areas.length := by
  simp [begun, ticked, decayed]

theorem decay_load (r : Area) : r.decay.load = r.load - (r.load + 63) / 64 := by
  unfold Area.decay Area.floodTest
  split <;> rfl

theorem decay_unconfigured {r : Area} (h : r.config = none) : r.decay.flood = r.flood := by
  unfold Area.decay Area.floodTest
  dsimp only
  rw [h]

theorem decay_configured {r : Area} {k : AreaConfig} (h : r.config = some k) :
    (r.flood = true → (r.decay.flood = true ↔ k.floodOff < r.decay.load)) ∧
      (r.flood = false → (r.decay.flood = true ↔ k.floodOn ≤ r.decay.load)) := by
  have hflood : r.decay.flood =
      if r.flood then !decide (r.decay.load ≤ k.floodOff) else decide (k.floodOn ≤ r.decay.load) := by
    rw [decay_load]
    unfold Area.decay Area.floodTest
    dsimp only
    rw [h]
  rw [hflood]
  constructor
  · intro hf
    simp [hf]
  · intro hf
    simp [hf]

theorem floodEndedMark (u : State) (a : Nat) : (begunMarks u).floodEnded.getLsbD a = true ↔
    a < 32 ∧ (u.area a).flood = true ∧ (u.area a).decay.flood = false := by
  show (areaSetOf _).getLsbD a = true ↔ _
  rw [getLsbD_areaSetOf]
  simp

theorem floodFlips_iff (u : State) : (u.areas.any fun r => r.decay.flood != r.flood) = true ↔
    ∃ a, (u.area a).decay.flood ≠ (u.area a).flood := by
  rw [List.any_eq_true]
  constructor
  · rintro ⟨r, hr, hflip⟩
    obtain ⟨a, ha, rfl⟩ := List.mem_iff_getElem.mp hr
    refine ⟨a, ?_⟩
    rw [State.area, getD_of_lt _ ha]
    exact bne_iff_ne.mp hflip
  · rintro ⟨a, hflip⟩
    obtain hmem | hinitial := area_mem_or_initial u a
    · exact ⟨_, hmem, bne_iff_ne.mpr hflip⟩
    · exact absurd (hinitial ▸ rfl) hflip

theorem flagSet_begun (u : State) (f : Flag) : (begun u).flagSet f = true ↔
    u.flagSet f = true ∨ f = .floodChange ∧ ∃ a, (u.area a).decay.flood ≠ (u.area a).flood := by
  rw [begun, flagSet_latchIf_iff, floodFlips_iff, and_comm]
  rfl

/-! ### Peers and lines (R144, R155) -/

theorem begun_peers (u : State) : (begun u).peers = u.peers.map fun x => x.map fun r =>
    if r.state = .present then { r with silence := min 3 (r.silence + 1) } else r := by
  have hcount : countSilence = fun r : PeerRecord =>
      if r.state = .present then { r with silence := min 3 (r.silence + 1) } else r := by
    funext r
    unfold countSilence
    simp
  rw [← hcount]
  simp [begun, ticked]

theorem begun_peer {n : Station} {r : PeerRecord} (h : u.peer n = some r) (hr : r.state = .present)
    (hsilence : r.silence < 3) : (begun u).peer n = some { r with silence := r.silence + 1 } := by
  have hpeer : (begun u).peer n = u.countPeers.peer n := by
    have hpeers : (begun u).peers = u.countPeers.peers := by simp [begun, ticked, State.countPeers]
    rw [State.peer, hpeers, State.peer]
  rw [hpeer, peer_countPeers, h, Option.map_some, countSilence, if_pos (by simp [hr]),
    Nat.min_eq_right (Nat.succ_le_of_lt hsilence)]

theorem begun_line (u : State) (l m : LineName) (h : m ≠ l) : (begun u).line l = (u.line l).count (u.line m).heard := by
  have hbus : (begun u).bus = (ticked u).bus := by simp [begun]
  cases l with
  | a =>
    cases m with
    | a => exact absurd rfl h
    | b => exact congrArg Bus.lineA hbus
  | b =>
    cases m with
    | a => exact congrArg Bus.lineB hbus
    | b => exact absurd rfl h

theorem silentDue_count (l : Line) (b : Bool) : (l.count b).silentDue = true ↔
    l.heard = false ∧ b = true ∧ 2 ≤ l.quiet ∧ l.state ≠ .silent := by
  unfold Line.count
  have hcount : (min 3 (l.quiet + 1) == 3) = decide (2 ≤ l.quiet) := by
    rw [beq_decide]
    exact decide_eq_decide.mpr (by omega)
  cases l.heard with
  | true => simp
  | false =>
    cases b with
    | false => simp
    | true => simp [hcount]

theorem begun_line_state (u : State) (l : LineName) : ((begun u).line l).state = (u.line l).state := by
  cases l with
  | a => rw [begun_line u .a .b (by decide)]; rfl
  | b => rw [begun_line u .b .a (by decide)]; rfl

end Sys2Proof.Answers

/-! PROOF. The presence of a second event: its claim list, its build beside one being sent, and the dark flag that falls
due at the same second event (R135, R151, R152, R158). -/

namespace Sys2Proof.Answers

open Sys2Proof.Machine Sys2Proof.Claims Sys2Proof.Keep

variable {s t u v : State}

/-! ### The claim list (R152) -/

/-- The list is a beginning of the areas in order, within its room, and the first area left out would not fit. -/
theorem fitClaims_spec (s : State) (areas : List Nat) : ∀ room,
    (fitClaims s room areas).1 = (areas.take (fitClaims s room areas).1.length).map s.claimEntry ∧
    (fitClaims s room areas).2 = areas.drop (fitClaims s room areas).1.length ∧
    claimsSize (fitClaims s room areas).1 ≤ room ∧
    ∀ a, areas[(fitClaims s room areas).1.length]? = some a →
      room < claimsSize (fitClaims s room areas).1 + claimEntrySize (s.claimEntry a) := by
  induction areas with
  | nil => exact fun room => ⟨rfl, rfl, Nat.zero_le _, fun a h => by cases h⟩
  | cons a rest ih =>
    intro room
    unfold fitClaims
    by_cases hfits : claimEntrySize (s.claimEntry a) ≤ room
    · obtain ⟨hlist, hrest, hsize, hnext⟩ := ih (room - claimEntrySize (s.claimEntry a))
      dsimp only
      rw [if_pos hfits]
      have hcons : ∀ es, claimsSize (s.claimEntry a :: es) = claimEntrySize (s.claimEntry a) + claimsSize es :=
        fun _ => rfl
      refine ⟨?_, hrest, ?_, fun x hx => ?_⟩
      · exact congrArg (s.claimEntry a :: ·) hlist
      · rw [hcons]
        omega
      · have := hnext x hx
        rw [hcons]
        omega
    · dsimp only
      rw [if_neg hfits]
      refine ⟨rfl, rfl, Nat.zero_le _, fun x hx => ?_⟩
      obtain rfl : a = x := Option.some.inj hx
      show room < 0 + _
      omega

theorem claimsSize_eq (es : List ClaimEntry) :
    claimsSize es = (es.map fun e => if e.badge = none then 3 else 6).sum := by
  have hsize : claimEntrySize = fun e => if e.badge = none then 3 else 6 := by
    funext e
    unfold claimEntrySize
    cases e.badge <;> rfl
  rw [claimsSize, hsize]

theorem claimEntry_area {a : Nat} (h : a < 32) (s : State) : (s.claimEntry a).area.toNat = a := by
  show (BitVec.ofNat 5 a).toNat = a
  rw [BitVec.toNat_ofNat, Nat.mod_eq_of_lt h]

theorem claimEntry_badge (s : State) (a : Nat) : (s.claimEntry a).badge = match (s.area a).hold with
    | .held _ b => if b = s.activeBadge then none else some b
    | _ => none := by
  unfold State.claimEntry
  dsimp only
  cases (s.area a).hold with
  | held n b => by_cases h : b = s.activeBadge <;> simp [h]
  | unheld => rfl
  | orphaned n b since g => rfl

theorem claimOrder_lt {a : Nat} (h : a ∈ s.claimOrder) : a < 32 := by
  obtain ⟨i, -, rfl⟩ := List.mem_map.mp (List.mem_filter.mp h).1
  exact Nat.mod_lt _ (by decide)

/-- The claim list of a presence and the list start that it leaves. -/
theorem claims_built (v : State) :
    v.presenceBody.claims.map (fun e => (e.area.toNat, e.serial, e.badge)) =
      (v.claimOrder.take v.presenceBody.claims.length).map (fun a =>
        (a, (v.area a).serial, match (v.area a).hold with
          | .held _ b => if b = v.activeBadge then none else some b
          | _ => none)) ∧
    claimsSize v.presenceBody.claims ≤ 103 ∧
    (∀ a b n, v.claimOrder[v.presenceBody.claims.length]? = some a → (v.area a).hold = .held n b →
      103 < claimsSize v.presenceBody.claims + (if b = v.activeBadge then 3 else 6) ∧ v.claimList.2.headD 0 = a) ∧
    (v.claimOrder.length ≤ v.presenceBody.claims.length → v.claimList.2.headD 0 = 0) := by
  obtain ⟨hlist, hrest, hsize, hnext⟩ := fitClaims_spec v v.claimOrder Config.claimBytes
  have hclaims : v.presenceBody.claims = (fitClaims v Config.claimBytes v.claimOrder).1 := rfl
  have hhead : v.claimList.2.headD 0 = (v.claimOrder[v.presenceBody.claims.length]?).getD 0 := by
    rw [State.claimList, hrest, hclaims, List.headD_eq_head?_getD, List.head?_drop]
  rw [hhead]
  rw [← hclaims] at hlist hsize hnext
  refine ⟨?_, hsize, fun a b n ha hhold => ?_, fun h => ?_⟩
  · generalize v.presenceBody.claims.length = k at *
    rw [hlist, List.map_map]
    refine List.map_congr_left fun a ha => ?_
    have hlt : a < 32 := claimOrder_lt (List.mem_of_mem_take ha)
    show ((v.claimEntry a).area.toNat, (v.area a).serial, (v.claimEntry a).badge) = _
    rw [claimEntry_area hlt, claimEntry_badge]
  · refine ⟨?_, by rw [ha]; rfl⟩
    have hover := hnext a ha
    have hentry : claimEntrySize (v.claimEntry a) = if b = v.activeBadge then 3 else 6 := by
      rw [claimEntrySize, claimEntry_badge, hhold]
      by_cases hb : b = v.activeBadge <;> simp [hb]
    rw [← hentry]
    exact hover
  · rw [List.getElem?_eq_none h]
    rfl

/-! ### The build (R135) -/

theorem attempting_iff (c : TxClass) (s : State) :
    s.attempting c = true ↔ ∃ x, s.bus.sending = some x ∧ x.cls = c := by
  unfold State.attempting
  cases s.bus.sending <;> simp

theorem buildPresence_beside (h : s.tx.presence ≠ none) (h' : ∃ x, s.bus.sending = some x ∧ x.cls = .presence) :
    s.buildPresence = { s with
      node := { s.node with listStart := s.claimList.2.headD 0 }
      tx := { s.tx with nextPresence := some ⟨⟨.presence s.presenceBody, none⟩, .none⟩ } } := by
  refine if_pos ?_
  rw [(attempting_iff _ s).mpr h', Bool.true_and]
  exact Option.isSome_iff_ne_none.mpr h

theorem buildPresence_placed (h : ¬(s.tx.presence ≠ none ∧ ∃ x, s.bus.sending = some x ∧ x.cls = .presence)) :
    s.buildPresence = { s with
      node := { s.node with listStart := s.claimList.2.headD 0 }
      tx := { s.tx with presence := some ⟨⟨.presence s.presenceBody, none⟩, .none⟩ } } := by
  refine if_neg fun hb => h ?_
  obtain ⟨hattempt, hsome⟩ := (Bool.and_eq_true _ _).mp hb
  exact ⟨Option.isSome_iff_ne_none.mp hsome, (attempting_iff _ s).mp hattempt⟩

/-! ### The dark flag at the same second event (R158) -/

/-- A state with a free choice used. -/
def chosen (s : State) : State := { s with freeCount := s.freeCount + 1 }

theorem goDark_chosen (s : State) : (chosen s).goDark = chosen s.goDark := by
  have hdrop : ∀ (o : OutOffer) (e : OfferEnd) (v : State), (chosen v).dropOffer o e = chosen (v.dropOffer o e) :=
    fun o e v => by
      unfold State.dropOffer State.endSeat State.endOut State.queueIfRoom
      rw [show (chosen v).isOwn = v.isOwn from rfl, show (chosen v).hasRoom = v.hasRoom from rfl]
      split
      · cases seatFlag e <;> rfl
      · split <;> cases outFlag e <;> rfl
  have hout : ∀ v : State, (chosen v).ownDarkOut = chosen v.ownDarkOut := fun v => by
    unfold State.ownDarkOut
    rw [show (chosen v).handover = v.handover from rfl]
    split
    · exact hdrop _ _ v
    · rfl
    · rfl
  have hin : ∀ v : State, (chosen v).ownDarkIn = chosen v.ownDarkIn := fun v => by
    unfold State.ownDarkIn
    rw [show (chosen v).handover = v.handover from rfl, show (chosen v).isOwn = v.isOwn from rfl]
    split
    · split
      · rfl
      · unfold State.endIn State.queueIfRoom
        rw [show (chosen v).hasRoom = v.hasRoom from rfl]
        split <;> rfl
    · rfl
    · rfl
  have hboth : ∀ v : State, (chosen v).ownDark = chosen v.ownDark := fun v => by
    unfold State.ownDark
    rw [hout, hin]
  have hfires : ∀ v : State, (chosen v).bySecond State.ownDark = chosen (v.bySecond State.ownDark) := fun v => by
    unfold State.bySecond
    dsimp only
    rw [hboth]
    rw [show (chosen v.ownDark).dueToFire = v.ownDark.dueToFire from rfl,
      show (chosen v).dueToFire = v.dueToFire from rfl]
    split <;> rfl
  unfold State.goDark
  rw [show (chosen s).darkDue = s.darkDue from rfl]
  split
  · exact hfires (darkened s)
  · rfl

/-- The state that the presence is built in, from the one that the second has begun in. -/
theorem presenceWork_eq (h : Active s) : ∃ v,
    ((s.node.dark = true ∨ (s.clock.now - s.node.lastCheckIn).toNat < 5) ∧ v = s ∨
      s.node.dark = false ∧ 5 ≤ (s.clock.now - s.node.lastCheckIn).toNat ∧
        ∃ d, (d = s ∨ d = s.goDark) ∧ v = chosen d) ∧ s.presenceWork = v.buildPresence := by
  unfold State.presenceWork
  rw [if_pos (isActive_iff.mpr h)]
  by_cases hdue : s.darkDue = true
  · obtain ⟨hlit, hlate⟩ := (Bool.and_eq_true _ _).mp hdue
    rw [if_pos hdue]
    cases hbefore : Config.darkBeforePresence s.freeCount with
    | false =>
      exact ⟨_, .inr ⟨by simpa using hlit, of_decide_eq_true hlate, s, .inl rfl, rfl⟩, by simp [chosen]⟩
    | true =>
      refine ⟨_, .inr ⟨by simpa using hlit, of_decide_eq_true hlate, s.goDark, .inr rfl, rfl⟩, ?_⟩
      rw [← goDark_chosen]
      simp [chosen]
  · rw [if_neg hdue]
    refine ⟨s, .inl ⟨?_, rfl⟩, rfl⟩
    refine Classical.byContradiction fun hc => ?_
    obtain ⟨hlit, hlate⟩ := not_or.mp hc
    refine hdue ((Bool.and_eq_true _ _).mpr ⟨by simpa using hlit, decide_eq_true (Nat.le_of_not_lt hlate)⟩)

/-- A state that the presence may be built in: what the presence carries is as the second has begun it, but for the dark
flag. -/
structure Readied (s v : State) : Prop where
  clock    : v.clock = s.clock
  areas    : v.areas = s.areas
  second   : v.second = s.second
  peers    : v.peers = s.peers
  bus      : v.bus = s.bus
  signOn   : v.signOn = s.signOn
  transfer : v.transfer = s.transfer
  node     : v.node = { s.node with dark := v.node.dark }
  slots    : v.tx.presence = s.tx.presence ∧ v.tx.nextPresence = s.tx.nextPresence
  port     : Unflooded s v

theorem goDark_slots (s : State) :
    s.goDark.tx.presence = s.tx.presence ∧ s.goDark.tx.nextPresence = s.tx.nextPresence := by
  have hqueued : ∀ (f : Frame) (v : State), (v.queueIfRoom f).tx.presence = v.tx.presence ∧
      (v.queueIfRoom f).tx.nextPresence = v.tx.nextPresence := fun f v => by
    unfold State.queueIfRoom
    split <;> exact ⟨rfl, rfl⟩
  have hout : ∀ v : State, v.ownDarkOut.tx.presence = v.tx.presence ∧
      v.ownDarkOut.tx.nextPresence = v.tx.nextPresence := fun v => by
    unfold State.ownDarkOut State.dropOffer
    split
    · split
      · simp
      · simp [hqueued]
    · exact ⟨rfl, rfl⟩
    · exact ⟨rfl, rfl⟩
  have hin : ∀ v : State, v.ownDarkIn.tx.presence = v.tx.presence ∧
      v.ownDarkIn.tx.nextPresence = v.tx.nextPresence := fun v => by
    unfold State.ownDarkIn
    split
    · split
      · exact ⟨rfl, rfl⟩
      · simp [hqueued]
    · exact ⟨rfl, rfl⟩
    · exact ⟨rfl, rfl⟩
  have hsecond : ∀ v : State, (v.bySecond State.ownDark).tx = v.ownDark.tx := fun v => by
    unfold State.bySecond
    dsimp only
    split <;> rfl
  unfold State.goDark
  split
  · rw [hsecond]
    exact ⟨(hin _).1.trans (hout _).1, (hin _).2.trans (hout _).2⟩
  · exact ⟨rfl, rfl⟩

theorem Readied.refl (s : State) : Readied s s := ⟨rfl, rfl, rfl, rfl, rfl, rfl, rfl, rfl, ⟨rfl, rfl⟩, .refl s⟩

theorem Readied.chosen (h : Readied s v) : Readied s (chosen v) :=
  ⟨h.clock, h.areas, h.second, h.peers, h.bus, h.signOn, h.transfer, h.node, h.slots, h.port.trans (.of_port rfl)⟩

theorem Readied.goDark (s : State) : Readied s s.goDark :=
  ⟨by simp, by simp, by simp, by simp, by simp, by simp, by simp, goDark_node s, goDark_slots s, .goDark s⟩

theorem Readied.of_choice (h : (s.node.dark = true ∨ (s.clock.now - s.node.lastCheckIn).toNat < 5) ∧ v = s ∨
    s.node.dark = false ∧ 5 ≤ (s.clock.now - s.node.lastCheckIn).toNat ∧
      ∃ d, (d = s ∨ d = s.goDark) ∧ v = Answers.chosen d) : Readied s v := by
  obtain ⟨-, rfl⟩ | ⟨-, -, d, rfl | rfl, rfl⟩ := h
  · exact .refl v
  · exact (Readied.refl d).chosen
  · exact (Readied.goDark s).chosen

theorem presenceWork_idle (h : ¬Active s) : s.presenceWork = s :=
  if_neg fun ha => h (isActive_iff.mp ha)

end Sys2Proof.Answers

/-! PROOF. The second event: what is left of the last one's work, then the second that begins (R58, R59, R102 to R104,
R109, R129, R135, R144, R151, R152, R155, R158, R170). -/

namespace Sys2Proof.Answers

open Sys2Proof.Machine Sys2Proof.Claims Sys2Proof.Keep

variable {s t u v w : State}

/-- The state after a second event. -/
def afterSecond (s : State) : State := (begun s.finishSecond).presenceWork

theorem exec_secondEvent (s : State) : exec .secondEvent s = .next (afterSecond s) :=
  congrArg Host.Outcome.next (beginSecond_eq s.finishSecond)

/-! ### What the presence's build leaves -/

theorem presenceWork_keeps (s : State) : SameStation s s.presenceWork ∧ Unflooded s s.presenceWork := by
  by_cases h : Active s
  · obtain ⟨v, hv, ht⟩ := presenceWork_eq h
    have hready := Readied.of_choice hv
    have hstation : SameStation s v := by
      refine ⟨?_, ?_, ?_, fun hm => ?_⟩
      all_goals rw [hready.node]
      exact hm
    have hbuilt : SameStation v v.buildPresence := by
      unfold State.buildPresence
      dsimp only
      split <;> exact ⟨rfl, rfl, rfl, fun h => h⟩
    rw [ht]
    exact ⟨hstation.trans hbuilt, hready.port.trans (.of_port (by simp))⟩
  · rw [presenceWork_idle h]
    exact ⟨.of_node rfl, .refl s⟩

theorem begun_node (u : State) : (begun u).node = u.node := by rw [begun_eq]

theorem begun_tx (u : State) : (begun u).tx = u.tx := by rw [begun_eq]

theorem afterSecond_station (s : State) : SameStation s (afterSecond s) :=
  ((finishSecond_sameStation s).trans (.of_node (begun_node _))).trans (presenceWork_keeps _).1

/-! ### The clock -/

theorem afterSecond_clock (s : State) : (afterSecond s).clock = begunClock s.finishSecond := by
  rw [← begun_clock]
  simp [afterSecond]

theorem afterSecond_time (s : State) :
    (afterSecond s).clock.now = s.clock.now + 1 ∧ (afterSecond s).clock.phase = (s.clock.phase + 1) % 16 ∧
    (afterSecond s).clock.millTime = (if s.clock.millTime < 3155759999 then s.clock.millTime + 1 else 0) ∧
    (afterSecond s).clock.secondPeriods = (if (s.clock.phase + 1) % 16 = 15 then 32768 - s.clock.trim else 32768) ∧
    (afterSecond s).clock.trim = s.clock.trim ∧ (afterSecond s).clock.pattern = s.clock.pattern := by
  have hleft := finishSecond_sameTime s
  unfold SameTime at hleft
  rw [afterSecond_clock, begunClock_eq, hleft]
  exact ⟨rfl, rfl, rfl, rfl, rfl, rfl⟩

theorem afterSecond_calendar (s : State) : (afterSecond s).clock = { s.finishSecond.clock with
    millTime := (afterSecond s).clock.millTime, now := (afterSecond s).clock.now, phase := (afterSecond s).clock.phase
    secondPeriods := (afterSecond s).clock.secondPeriods
    shift := if (afterSecond s).clock.millTime = 0 then s.finishSecond.clock.pattern.shiftOf 0
      else s.finishSecond.clock.shift
    inLead := if (afterSecond s).clock.millTime = 0 then s.finishSecond.clock.pattern.inLead 0
      else s.finishSecond.clock.inLead } := by
  rw [afterSecond_clock, begunClock_eq]
  rfl

/-! ### The areas -/

theorem afterSecond_area (s : State) (a : Nat) : (afterSecond s).area a = (s.finishSecond.area a).decay := by
  rw [← begun_area, afterSecond, State.area, (State.presenceWork_frame _).2.2.1]
  rfl

theorem finishSecond_area (s : State) (a : Nat) :
    (s.finishSecond.area a).config = (s.area a).config ∧ (s.finishSecond.area a).serial = (s.area a).serial ∧
      (s.finishSecond.area a).load = (s.area a).load ∧ (s.finishSecond.area a).flood = (s.area a).flood := by
  have h := (finishSecond_sameUnheld s).area a
  exact ⟨(congrArg Area.config h :), (congrArg Area.serial h :), (congrArg Area.load h :), (congrArg Area.flood h :)⟩

theorem afterSecond_loads (s : State) (a : Nat) :
    ((afterSecond s).area a).config = (s.area a).config ∧ ((afterSecond s).area a).serial = (s.area a).serial ∧
    ((afterSecond s).area a).load = (s.area a).load - ((s.area a).load + 63) / 64 ∧
    ((s.area a).config = none → ((afterSecond s).area a).flood = (s.area a).flood) ∧
    ∀ k, (s.area a).config = some k →
      ((s.area a).flood = true → (((afterSecond s).area a).flood = true ↔ k.floodOff < ((afterSecond s).area a).load)) ∧
      ((s.area a).flood = false → (((afterSecond s).area a).flood = true ↔ k.floodOn ≤ ((afterSecond s).area a).load)) := by
  obtain ⟨hconfig, hserial, hload, hflood⟩ := finishSecond_area s a
  have hfields := floodTest_fields { s.finishSecond.area a with
    load := (s.finishSecond.area a).load - ((s.finishSecond.area a).load + 63) / 64 }
  rw [afterSecond_area]
  refine ⟨hfields.1.trans hconfig, hfields.2.2.trans hserial, by rw [decay_load, hload], fun h => ?_, fun k h => ?_⟩
  · rw [decay_unconfigured (hconfig.trans h), hflood]
  · rw [← hflood]
    exact decay_configured (hconfig.trans h)

theorem afterSecond_hold (s : State) (a : Nat) : ((afterSecond s).area a).hold = (s.finishSecond.area a).hold := by
  rw [afterSecond_area]
  exact (floodTest_fields _).2.1

theorem flagSet_afterSecond (s : State) : (afterSecond s).flagSet .floodChange = true ↔
    s.flagSet .floodChange = true ∨ ∃ a, ((afterSecond s).area a).flood ≠ (s.area a).flood := by
  have hlast : (afterSecond s).flagSet .floodChange = (begun s.finishSecond).flagSet .floodChange :=
    (presenceWork_keeps _).2.flood
  rw [hlast, flagSet_begun, (Unflooded.finishSecond s).flood]
  refine or_congr_right ((and_iff_right rfl).trans (exists_congr fun a => ?_))
  rw [afterSecond_area, (finishSecond_area s a).2.2.2]

/-! ### Lines, peers and marks -/

theorem afterSecond_line (s : State) (l : LineName) : (afterSecond s).line l = (begun s.finishSecond).line l := by
  have hbus : (afterSecond s).bus = (begun s.finishSecond).bus := by simp [afterSecond]
  cases l with
  | a => exact congrArg Bus.lineA hbus
  | b => exact congrArg Bus.lineB hbus

theorem afterSecond_counts (s : State) (l : LineName) : ((afterSecond s).line l).heard = false ∧
    ∀ m, m ≠ l → ((afterSecond s).line l).quiet = (if (s.line l).heard = true then 0
        else if (s.line m).heard = true then min 3 ((s.line l).quiet + 1) else (s.line l).quiet) ∧
      (((afterSecond s).line l).silentDue = true ↔ (s.line l).heard = false ∧ (s.line m).heard = true ∧
        2 ≤ (s.line l).quiet ∧ ((afterSecond s).line l).state ≠ .silent) := by
  have hother : ∃ m, m ≠ l := by
    cases l with
    | a => exact ⟨.b, by decide⟩
    | b => exact ⟨.a, by decide⟩
  have hline : ∀ m, m ≠ l → (afterSecond s).line l =
      (s.finishSecond.line l).count (s.finishSecond.line m).heard := fun m hm =>
    (afterSecond_line s l).trans (begun_line _ l m hm)
  obtain ⟨hheard, hquiet⟩ := finishSecond_counts s l
  refine ⟨?_, fun m hm => ⟨?_, ?_⟩⟩
  · obtain ⟨m, hm⟩ := hother
    rw [hline m hm]
    rfl
  · rw [hline m hm, ← hheard, ← hquiet, ← (finishSecond_counts s m).1]
    rfl
  · rw [hline m hm, silentDue_count, hheard, hquiet, (finishSecond_counts s m).1]
    rfl

theorem afterSecond_peers (s : State) : (afterSecond s).peers = (begun s.finishSecond).peers := by simp [afterSecond]

theorem afterSecond_peer {n : Station} {r : PeerRecord} (h : s.peer n = some r) (hr : r.state = .present)
    (hsilence : r.silence < 3) : (afterSecond s).peer n = some { r with silence := r.silence + 1 } := by
  rw [State.peer, afterSecond_peers]
  exact begun_peer (finishSecond_peer h (Nat.ne_of_lt hsilence)) hr hsilence

theorem afterSecond_second (s : State) : (afterSecond s).second = begunMarks s.finishSecond := by
  rw [← begun_second]
  simp [afterSecond]

theorem afterSecond_marks (s : State) :
    ((afterSecond s).second.shelf = true ∧ (afterSecond s).second.deadline = true ∧
      ((afterSecond s).second.due = true ↔
        (afterSecond s).clock.millTime ≠ 0 ∧ s.clock.pattern.isDue (afterSecond s).clock.millTime = true) ∧
      ((afterSecond s).second.start = true ↔
        (afterSecond s).clock.millTime ≠ 0 ∧ s.clock.pattern.isStart (afterSecond s).clock.millTime = true) ∧
      ((afterSecond s).second.overdue = true ↔
        (afterSecond s).clock.millTime ≠ 0 ∧ s.clock.pattern.isOverdue (afterSecond s).clock.millTime = true) ∧
      ((afterSecond s).second.schedule = true ↔ ∃ o m, s.finishSecond.handover.scheduled = .armed o ∧ o.fire = .at m ∧
        m ≤ (afterSecond s).clock.millTime) ∧
      ((afterSecond s).second.repeatWork = true ↔
        ∃ x, s.finishSecond.transfer.refresh = some x ∧ x.repeatOwed = true) ∧
      ∀ a, (afterSecond s).second.floodEnded.getLsbD a = true ↔
        a < 32 ∧ (s.area a).flood = true ∧ ((afterSecond s).area a).flood = false) := by
  have hmill : (afterSecond s).clock.millTime = s.finishSecond.clock.advance.millTime := by
    rw [afterSecond_clock, begunClock_eq]
  have hpattern : s.finishSecond.clock.pattern = s.clock.pattern := by
    have hleft := finishSecond_sameTime s
    unfold SameTime at hleft
    rw [hleft]
  obtain ⟨hdue, hstart⟩ := finishSecond_marks s
  obtain ⟨h1, h2, h3⟩ := instantMarks hdue hstart (finishSecond_overdue s)
  rw [hpattern] at h1 h2 h3
  rw [afterSecond_second, hmill]
  refine ⟨rfl, rfl, h1, h2, h3, scheduleMark _, repeatMark _, fun a => ?_⟩
  rw [floodEndedMark, (finishSecond_area s a).2.2.2, afterSecond_area]

theorem afterSecond_kept (s : State) : (afterSecond s).lastLost = s.lastLost ∧ (afterSecond s).signOn = s.signOn ∧
    (afterSecond s).pending = s.pending := by
  rw [afterSecond, ← beginSecond_eq]
  exact State.secondEvent_frame s

theorem afterSecond_areas_length (s : State) : (afterSecond s).areas.length = s.areas.length := by
  rw [afterSecond, (State.presenceWork_frame _).2.2.1, begun_areas_length]
  exact (finishSecond_sameUnheld s).length

theorem afterSecond_port (s : State) :
    (afterSecond s).port.answer = s.port.answer ∧ (afterSecond s).port.counter = s.port.counter := by
  have hlast : (afterSecond s).port = { (begun s.finishSecond).port with attention := (afterSecond s).port.attention } :=
    (presenceWork_keeps _).2.port
  rw [hlast, begun_eq, (Unflooded.finishSecond s).port]
  exact ⟨rfl, rfl⟩

/-! ### The presence -/

/-- What the second event changes, but for the presence of an ACTIVE station. -/
theorem begun_afterSecond (s : State) : begun s.finishSecond = { s.finishSecond with
    clock := (afterSecond s).clock, areas := (afterSecond s).areas, second := (afterSecond s).second
    peers := (afterSecond s).peers
    bus := { s.finishSecond.bus with lineA := (afterSecond s).bus.lineA, lineB := (afterSecond s).bus.lineB }
    port := { s.finishSecond.port with attention := (begun s.finishSecond).port.attention } } := by
  have hclock : (afterSecond s).clock = (begun s.finishSecond).clock := by simp [afterSecond]
  have hareas : (afterSecond s).areas = (begun s.finishSecond).areas := by simp [afterSecond]
  have hsecond : (afterSecond s).second = (begun s.finishSecond).second := by simp [afterSecond]
  have hbus : (afterSecond s).bus = (begun s.finishSecond).bus := by simp [afterSecond]
  rw [hclock, hareas, hsecond, hbus, afterSecond_peers]
  exact begun_eq _

theorem buildPresence_places (v : State) : v.buildPresence = { v with
    node := { v.node with listStart := v.buildPresence.node.listStart }
    tx := { v.tx with presence := v.buildPresence.tx.presence, nextPresence := v.buildPresence.tx.nextPresence } } := by
  unfold State.buildPresence
  dsimp only
  split <;> rfl

/-- What a presence carries (R151, R152), and the list start and places that its build leaves. -/
theorem presence_built (v : State) : ∃ p held,
    (if v.tx.presence ≠ none ∧ (∃ x, v.bus.sending = some x ∧ x.cls = .presence)
      then v.buildPresence.tx.nextPresence else v.buildPresence.tx.presence) = some ⟨⟨.presence p, none⟩, .none⟩ ∧
    (if v.tx.presence ≠ none ∧ (∃ x, v.bus.sending = some x ∧ x.cls = .presence)
      then v.buildPresence.tx.presence = v.tx.presence else v.buildPresence.tx.nextPresence = v.tx.nextPresence) ∧
    p = v.presenceBody ∧ held = v.claimOrder ∧ v.buildPresence.node.listStart = v.claimList.2.headD 0 := by
  refine ⟨v.presenceBody, v.claimOrder, ?_⟩
  by_cases h : v.tx.presence ≠ none ∧ ∃ x, v.bus.sending = some x ∧ x.cls = .presence
  · rw [if_pos h, if_pos h, buildPresence_beside h.1 h.2]
    exact ⟨rfl, rfl, rfl, rfl, rfl⟩
  · rw [if_neg h, if_neg h, buildPresence_placed h]
    exact ⟨rfl, rfl, rfl, rfl, rfl⟩

theorem buildPresence_offers (v : State) : v.buildPresence.tx.presence ≠ none := by
  obtain ⟨p, held, hplaced, hother, -⟩ := presence_built v
  by_cases h : v.tx.presence ≠ none ∧ ∃ x, v.bus.sending = some x ∧ x.cls = .presence
  · rw [if_pos h] at hother
    rw [hother]
    exact h.1
  · rw [if_neg h] at hplaced
    rw [hplaced]
    exact Option.some_ne_none _

/-- The state that an ACTIVE station's presence is built in, and its build. -/
theorem afterSecond_active (h : Active s.finishSecond) : ∃ v,
    ((s.finishSecond.node.dark = true ∨
          ((afterSecond s).clock.now - s.finishSecond.node.lastCheckIn).toNat < 5) ∧ v = begun s.finishSecond ∨
      s.finishSecond.node.dark = false ∧
        5 ≤ ((afterSecond s).clock.now - s.finishSecond.node.lastCheckIn).toNat ∧
        ∃ d, (d = begun s.finishSecond ∨ d = (begun s.finishSecond).goDark) ∧ v = chosen d) ∧
    Readied (begun s.finishSecond) v ∧ afterSecond s = v.buildPresence := by
  have hactive : Active (begun s.finishSecond) := (congrArg Node.mode (begun_node _)).trans h
  obtain ⟨v, hv, ht⟩ := presenceWork_eq hactive
  have hclock : (afterSecond s).clock = (begun s.finishSecond).clock := by simp [afterSecond]
  refine ⟨v, ?_, Readied.of_choice hv, ht⟩
  rw [hclock]
  rw [begun_node] at hv
  exact hv

/-- The presence of an ACTIVE station carries the state that the second event leaves. -/
theorem presenceBody_afterSecond (hv : Readied (begun s.finishSecond) v) (ht : afterSecond s = v.buildPresence) :
    v.presenceBody.dark = (afterSecond s).node.dark ∧ v.presenceBody.overdue = (afterSecond s).clock.overdue ∧
    v.presenceBody.pictureValid = (afterSecond s).transfer.valid ∧
    (v.presenceBody.joinMark = true ↔
      ((afterSecond s).clock.now - s.finishSecond.node.activeSince).toNat < 3) ∧
    v.presenceBody.activeBadge = (match s.signOn.active with
      | some o => o.badge
      | none => 0) ∧
    v.presenceBody.activeRank = (match s.signOn.active with
      | some o => BitVec.ofNat 8 o.rank
      | none => 0) ∧
    v.presenceBody.reliefBadge = (match s.signOn.relief with
      | some o => o.badge
      | none => 0) ∧
    v.presenceBody.millTime = BitVec.ofNat 32 (afterSecond s).clock.millTime ∧
    v.presenceBody.digest = s.node.digest.getD 0 ∧
    v.presenceBody.lineA = (afterSecond s).bus.lineA.state.code ∧
    v.presenceBody.lineB = (afterSecond s).bus.lineB.state.code ∧
    v.presenceBody.reports = (afterSecond s).node.reports := by
  have hnode : (afterSecond s).node = { v.node with listStart := (afterSecond s).node.listStart } := by
    rw [ht]
    exact congrArg State.node (buildPresence_places v)
  have hclock : (afterSecond s).clock = v.clock := by simp [ht]
  have hbus : (afterSecond s).bus = v.bus := by simp [ht]
  have htransfer : (afterSecond s).transfer = v.transfer := by simp [ht]
  have hsince : v.node.activeSince = s.finishSecond.node.activeSince := by rw [hv.node, begun_node]
  have hdigest : v.node.digest = s.node.digest := by
    rw [hv.node, begun_node]
    exact (finishSecond_sameStation s).digest
  have hsignOn : v.signOn = s.signOn := by
    rw [hv.signOn, begun_eq]
    exact (State.finishSecond_frame s).2.1
  rw [hnode, hclock, hbus, htransfer]
  refine ⟨rfl, rfl, rfl, ?_, ?_, ?_, ?_, rfl, congrArg (Option.getD · 0) hdigest, rfl, rfl, rfl⟩
  · rw [← hsince]
    exact decide_eq_true_iff
  · show (v.signOn.active.map Operator.badge).getD 0 = _
    rw [hsignOn]
    cases s.signOn.active <;> rfl
  · show BitVec.ofNat 8 ((v.signOn.active.map Operator.rank).getD 0) = _
    rw [hsignOn]
    cases s.signOn.active <;> rfl
  · show (v.signOn.relief.map Operator.badge).getD 0 = _
    rw [hsignOn]
    cases s.signOn.relief <;> rfl

/-- Settles O44: the work left over is `finishSecond`, and the second that begins is `begun`, each clause by the part of
the state it speaks of; the presence is built in a state that differs from `begun` by the dark flag alone. -/
theorem secondEventAdvancesTheClock : Obligations.SecondEventAdvancesTheClock := by
  unfold Obligations.SecondEventAdvancesTheClock
  intro s u hu
  rw [leftOver_eq] at hu
  subst hu
  obtain ⟨hnow, hphase, hmill, hperiods, htrim, hpattern⟩ := afterSecond_time s
  obtain ⟨hnumber, hgap, hdigest, hactive⟩ := afterSecond_station s
  obtain ⟨hanswer, hcounter⟩ := afterSecond_port s
  obtain ⟨hlost, hsignOn, hpending⟩ := afterSecond_kept s
  refine ⟨afterSecond s, exec_secondEvent s, fun h => (leftOver_eq s).symm.trans (foldl_ran_idle h), hnow, hphase, hmill,
    hperiods, htrim, hpattern, afterSecond_loads s, fun n r h hr hsilence => afterSecond_peer h hr hsilence, ?offers,
    afterSecond_counts s, afterSecond_marks s, ?length, afterSecond_hold s, ?state,
    (afterSecond_peers s).trans (begun_peers _), afterSecond_calendar s, flagSet_afterSecond s, ?rest, ?presence,
    hsignOn, hlost, hpending, hnumber, hgap, hdigest, hanswer, hcounter⟩
  case offers =>
    intro h
    obtain ⟨v, -, -, ht⟩ := afterSecond_active ((finishSecond_sameStation s).active h)
    rw [ht]
    exact buildPresence_offers v
  case length =>
    exact (afterSecond_areas_length s)
  case state =>
    exact fun l => (congrArg Line.state (afterSecond_line s l)).trans (begun_line_state _ l)
  case rest =>
    refine ⟨begun s.finishSecond, begun_afterSecond s, fun f => ?_, fun h => ?_, fun h => ?_⟩
    · rw [flagSet_begun]
      simp only [afterSecond_area]
    · exact presenceWork_idle fun ha => h ((congrArg Node.mode (begun_node _)).symm.trans ha)
    · obtain ⟨v, hv, -, ht⟩ := afterSecond_active h
      refine ⟨v, ?_, ht ▸ buildPresence_places v⟩
      obtain hlit | ⟨hlit, hlate, d, hd, rfl⟩ := hv
      · exact .inl hlit
      · refine .inr ⟨hlit, hlate, d, hd.imp id fun hdark => congrArg Host.Outcome.next hdark.symm, ?_⟩
        have hcount : d.freeCount = s.finishSecond.freeCount := by
          obtain rfl | rfl := hd
          · rw [begun_eq]
          · rw [(State.goDark_frame _).2.2.2.2.2.2.2.2.2.2.1, begun_eq]
        rw [← hcount]
        rfl
  case presence =>
    intro h
    obtain ⟨v, -, hv, ht⟩ := afterSecond_active h
    obtain ⟨p, held, hplaced, hother, rfl, rfl, hstart⟩ := presence_built v
    obtain ⟨hdark, hoverdue, hvalid, hjoin, hbadge, hrest⟩ := presenceBody_afterSecond hv ht
    obtain ⟨hclaims, hroom, hnext, hall⟩ := claims_built v
    have hslots : v.tx.presence = s.finishSecond.tx.presence ∧ v.tx.nextPresence = s.finishSecond.tx.nextPresence := by
      rw [hv.slots.1, hv.slots.2, begun_tx]
      exact ⟨rfl, rfl⟩
    have hsending : v.bus.sending = s.finishSecond.bus.sending := by rw [hv.bus, begun_eq]
    have harea : ∀ a, (afterSecond s).area a = v.area a := fun a => by
      rw [State.area, ht, (State.buildPresence_frame v).2.2.1]
      rfl
    have horder : v.claimOrder = ((List.range 32).map fun i => (s.finishSecond.node.listStart + i) % 32).filter
        (afterSecond s).holds := by
      have hlist : v.node.listStart = s.finishSecond.node.listStart := by rw [hv.node, begun_node]
      have hown : (afterSecond s).node.number = v.node.number := by
        rw [ht, buildPresence_places v]
      have hholds : (afterSecond s).holds = v.holds := by
        funext a
        unfold State.holds State.isOwn
        rw [harea, hown]
      rw [hholds, ← hlist]
      rfl
    rw [hslots.1, hsending, ← ht] at hplaced
    rw [hslots.1, hslots.2, hsending, ← ht] at hother
    rw [← ht] at hstart
    obtain ⟨hrank, hrelief, hmillTime, hbody⟩ := hrest
    simp only [harea]
    refine ⟨v.presenceBody, v.claimOrder, hplaced, hother, hdark, hoverdue, hvalid, hjoin, hbadge, hrank, hrelief,
      hmillTime, hbody.1, hbody.2.1, hbody.2.2.1, hbody.2.2.2, horder, hclaims, claimsSize_eq _, hroom, ?_, ?_⟩
    · rw [hstart]
      exact hnext
    · rw [hstart]
      exact hall

end Sys2Proof.Answers
